-- ==== Sys2Proof/Word.lean ====
section
/-! DEFINITION. The word types of the part and their plainest arithmetic (spec 00, Conventions: a byte is 8 bits). -/

namespace Sys2Proof

/-- A byte (spec 00, Conventions). -/
abbrev Byte := BitVec 8

/-- A number of two bytes: sweep numbers, tags, counts, settings. -/
abbrev Word16 := BitVec 16

/-- A number of four bytes: chassis time, chassis distance, stamps, record numbers. -/
abbrev Word32 := BitVec 32

/-- A fault code, of two or three bytes (R87). -/
abbrev Code := BitVec 24

/-- A byte from a number, mod 256. -/
def byte (n : Nat) : Byte := BitVec.ofNat 8 n

end Sys2Proof
end

