-- ==== Sys2Proof/Syntax.lean ====
section
/-! DEFINITION. The commands of the part: one constructor of `Instr` per row of spec/opcode_table.json, with the
operands the row's rule gives the event. -/

namespace Sys2Proof

/-- The three channels (spec 00, Naming). -/
inductive Channel where
  | a | b | s
  deriving DecidableEq, Repr

/-- The two CAN channels (chapter 7). -/
inductive CanChannel where
  | a | b
  deriving DecidableEq, Repr

/-- The channel a CAN controller serves. -/
def CanChannel.toChannel : CanChannel → Channel
  | .a => .a
  | .b => .b

/-- A level of line S (R139, R140). -/
inductive Level where
  | low | high
  deriving DecidableEq, Repr

/-- One byte as the host link's receiver takes it: its value, and whether its stop bit was low (R166). -/
structure LineByte where
  value : Byte
  framingError : Bool := false
  deriving DecidableEq, Repr

/-- A frame completed on a CAN bus by another node (R128, R129): its format, its identifier and its data. -/
structure CanFrame where
  extended : Bool := false
  remote : Bool := false
  ident : Nat
  data : List Byte
  deriving DecidableEq, Repr

/-- The four bytes of module clock of an identity reply, in the order the module sent them (R94, R175). -/
structure ClockBytes where
  b0 : Byte
  b1 : Byte
  b2 : Byte
  b3 : Byte
  deriving DecidableEq, Repr

/-- The pin levels that the release of a full reset meets (R180; spec 00, Straps and Pin summary). `true` is high. -/
structure ResetPins where
  br1 : Bool := false
  br0 : Bool := false
  ksw : Bool := false
  key : Bool := true
  tpres : Bool := true
  deriving DecidableEq, Repr

/-- The commands: the rows of spec/opcode_table.json, in its order. The operand `payload` of a host request is the
payload of its request frame, byte for byte (R169). -/
inductive Instr where
  /-- IDENT (R170). -/
  | ident (payload : List Byte)
  /-- STATUS (R170). -/
  | status (payload : List Byte)
  /-- TABLE_PUT (R58). -/
  | tablePut (payload : List Byte)
  /-- TABLE_GET (R61). -/
  | tableGet (payload : List Byte)
  /-- TABLE_REMOVE (R62). -/
  | tableRemove (payload : List Byte)
  /-- PROFILE_LOAD (R69). -/
  | profileLoad (payload : List Byte)
  /-- PROFILE_GET (R71). -/
  | profileGet (payload : List Byte)
  /-- PROFILE_UNLOAD (R72). -/
  | profileUnload (payload : List Byte)
  /-- BIND (R75). -/
  | bind (payload : List Byte)
  /-- DECLINE (R76). -/
  | decline (payload : List Byte)
  /-- BINDINGS_GET (R78). -/
  | bindingsGet (payload : List Byte)
  /-- SETTINGS_PUT (R171). -/
  | settingsPut (payload : List Byte)
  /-- SETTINGS_GET (R171). -/
  | settingsGet (payload : List Byte)
  /-- REFERENCE_SET (R93). -/
  | referenceSet (payload : List Byte)
  /-- SWEEP (R3). -/
  | sweep (payload : List Byte)
  /-- HALT (R13). -/
  | halt (payload : List Byte)
  /-- CHANNEL_RESUME (R161). -/
  | channelResume (payload : List Byte)
  /-- HISTORY_READ (R121). -/
  | historyRead (payload : List Byte)
  /-- HISTORY_PURGE (R123). -/
  | historyPurge (payload : List Byte)
  /-- RESET (R173). -/
  | reset (payload : List Byte)
  /-- A request whose KIND names no request (R169). -/
  | unknownKindRequest (kind : Byte) (payload : List Byte)
  /-- HOST_FRAME_RECEIVED (R166, R167): a run of bytes received on HRXD. -/
  | hostFrameReceived (bytes : List LineByte)
  /-- HOST_GAP_TIMER_EXPIRY (R166). -/
  | hostGapTimerExpiry
  /-- OUTBOUND_FRAME_SENT (R168). -/
  | outboundFrameSent
  /-- DIALOG_START (R22). -/
  | dialogStart (ch : Channel)
  /-- ID_REPLY (R31). -/
  | idReply (ch : Channel) (tag : Word16) (clock : ClockBytes) (flags : Byte)
  /-- PAGE_HEAD (R35). -/
  | pageHead (ch : Channel) (page count : Byte) (length : Word16) (flags : Byte) (sum : Word16)
  /-- SEGMENT (R38). -/
  | segment (ch : Channel) (index : BitVec 3) (data : List Byte)
  /-- HOLD_ON (R26). -/
  | holdOn (ch : Channel) (n : Byte)
  /-- DENY (R24). -/
  | deny (ch : Channel) (reason : Byte)
  /-- ERASE_DONE (R43). -/
  | eraseDone (ch : Channel)
  /-- RESPONSE_TIMER_EXPIRY (R25). -/
  | responseTimerExpiry (ch : Channel)
  /-- BOOT_TIMER_EXPIRY (R29). -/
  | bootTimerExpiry (ch : Channel)
  /-- KEEP_AWAKE_TIMER_EXPIRY (R27). -/
  | keepAwakeTimerExpiry (ch : Channel)
  /-- REFERRAL_TIMER_EXPIRY (R34). -/
  | referralTimerExpiry (ch : Channel)
  /-- CAN_ATTEMPT_START (R131). -/
  | canAttemptStart (c : CanChannel)
  /-- CAN_FRAME_SENT (R131). -/
  | canFrameSent (c : CanChannel)
  /-- ARBITRATION_LOST (R131). -/
  | arbitrationLost (c : CanChannel)
  /-- CAN_TRANSMIT_ERROR (R135). -/
  | canTransmitError (c : CanChannel)
  /-- CAN_RECEIVE_ERROR (R135). -/
  | canReceiveError (c : CanChannel)
  /-- CAN_FRAME_RECEIVED (R129). -/
  | canFrameReceived (c : CanChannel) (frame : CanFrame)
  /-- FOREIGN_TESTER_REQUEST (R130): the address is the identifier less the request base. -/
  | foreignTesterRequest (c : CanChannel) (address : BitVec 5)
  /-- BUS_DOMINANT_TIMEOUT (R135). -/
  | busDominantTimeout (c : CanChannel)
  /-- IDLE_SEQUENCE (R137). -/
  | idleSequence (c : CanChannel)
  /-- GAP_TIMER_EXPIRY (R132). -/
  | gapTimerExpiry (c : CanChannel)
  /-- WINDOW_TIMER_EXPIRY (R134). -/
  | windowTimerExpiry (c : CanChannel)
  /-- LINE_TRANSMIT_START (R142). -/
  | lineTransmitStart
  /-- LINE_FRAME_SENT (R143). -/
  | lineFrameSent
  /-- LINE_FRAME_ABANDONED (R143). -/
  | lineFrameAbandoned
  /-- TURNAROUND_TIMER_EXPIRY (R144). -/
  | turnaroundTimerExpiry
  /-- LINE_FRAME_RECEIVED (R146): the bytes after the sync byte, from the address to the check byte. -/
  | lineFrameReceived (bytes : List Byte)
  /-- LINE_FRAME_DISCARDED (R146). -/
  | lineFrameDiscarded
  /-- WAKE_PATTERN_START (R147). -/
  | wakePatternStart
  /-- WAKE_PATTERN_END (R147). -/
  | wakePatternEnd
  /-- STUCK_TIMER_EXPIRY (R148). -/
  | stuckTimerExpiry
  /-- STUCK_CLEAR_TIMER_EXPIRY (R148). -/
  | stuckClearTimerExpiry
  /-- ATTENTION_PULSE (R150): the edge that ends a capture, with the captured width in 0.25 ms units. -/
  | attentionPulse (width : Nat)
  /-- WIDTH_OVERFLOW (R149). -/
  | widthOverflow
  /-- RELEASE_TIMER_EXPIRY (R151). -/
  | releaseTimerExpiry
  /-- TPRES_CHANGE (R154): the accepted TPRES level becomes ACTIVE (`true`) or INACTIVE. -/
  | tpresChange (active : Bool)
  /-- RELEASE_HOLD_TIMER_EXPIRY (R157). -/
  | releaseHoldTimerExpiry (ch : Channel)
  /-- KEY_OFF (R177). -/
  | keyOff
  /-- KEY_ON (R178). -/
  | keyOn
  /-- SETTLE_TIMER_EXPIRY (R178). -/
  | settleTimerExpiry
  /-- CHASSIS_TIME_ADVANCE (R91). -/
  | chassisTimeAdvance
  /-- FULL_RESET (R180). -/
  | fullReset (pins : ResetPins)
  /-- LINE_EDGE (R140): SWL_RX is at `level` for so many successive samples, 16 to a bit time; the filter makes an edge of
  them, or none of a run too short. -/
  | lineEdge (level : Level) (samples : Nat)
  /-- RECEIVER_LOCKED (R145): the nine intervals between the ten edges of a sync byte, in sample periods, and the level
  at the middle of its stop bit. -/
  | receiverLocked (intervals : List Nat) (stop : Level)
  deriving DecidableEq, Repr

end Sys2Proof
end

