-- ==== Sys2Proof/Decode.lean ====
section
/-! DEFINITION. The decoder over opcode-table words. No row of spec/opcode_table.json gives bits (its commands are
messages and events, not words), so no word spells a command. -/

namespace Sys2Proof

/-- The command that a word of `nbits` bits spells by the table's bits: none, because no row has any. -/
def decodeTableWord (_nbits _w : Nat) : Option Instr := none

end Sys2Proof
end

