-- ==== Sys2Proof/Config.lean ====
section
/-! DEFINITION. What one implementation fixes and the manual does not give: constants without a body, so that nothing
can be proved about their values. -/

namespace Sys2Proof

/-- The silicon revision that IDENT reports. R170 names it and gives no value (log entry 8). -/
opaque Config.siliconRevision : Byte

/-- The transmit error count a CAN controller holds once a rise above 255 has taken it OFF, as a function of the count
before the rise. R135 says that the controller goes OFF and does not state the count (log entry 20). -/
opaque Config.transmitCountAtOff : Byte → Byte

end Sys2Proof
end

