-- ==== Sys2Proof/Machine/State.lean ====
section
/-! DEFINITION. The state of the part, as plain data: every item that chapters 1 to 11 give a block, the frames and
attempts the manual implies, and the queue of waiting commands. Each structure names the rule whose table lists it. -/

namespace Sys2Proof.Machine

/-- What stops the machine: nothing does. The manual answers, discards or ignores every bad input (INVENTORY, Faults). -/
inductive Fault
  deriving DecidableEq, Repr

/-- Why a command is not carried out. -/
inductive Refusal where
  /-- Raised by an arm of `exec` that has no meaning yet; safe, and used by no arm of this model. -/
  | notModelled (mnemonic : String)
  deriving DecidableEq, Repr

/-! ### Names shared by the blocks -/

/-- One value per channel. -/
structure PerChannel (α : Type) where
  a : α
  b : α
  s : α
  deriving DecidableEq, Repr

/-- One value per CAN channel. -/
structure PerCan (α : Type) where
  a : α
  b : α
  deriving DecidableEq, Repr

/-- The index of a module table entry, 0..47 (R52). -/
abbrev ModuleIndex := Fin 48

/-- A profile reference: a built-in profile ROM 0..11 or a loaded slot 0..11 (R54). -/
inductive ProfileRef where
  | rom (n : Fin 12)
  | loaded (n : Fin 12)
  deriving DecidableEq, Repr

/-- The outcomes of a module's turn, in the order of R12. -/
inductive SweepOutcome where
  | complete | erased | eraseDenied | partialRead | noAnswer | denied
  | unsupported | unresolved | storeFull | skipped | aborted
  deriving DecidableEq, Repr

/-- The set of option flags of a sweep (R1). -/
structure SweepOptions where
  eraseAfter : Bool := false
  includeSleepers : Bool := false
  deriving DecidableEq, Repr

/-- How a sweep was started (R1). -/
inductive SweepKind where
  | host | attention | keyOn
  deriving DecidableEq, Repr

/-- Why a sweep ended (R12). -/
inductive EndReason where
  | finished | halted | keyOff
  deriving DecidableEq, Repr

/-- A silence cause (R158). -/
inductive Cause where
  | busOff | lineStuck | echoFault | tester
  deriving DecidableEq, Repr

/-- What a CHANNEL_EVENT notice reports (R172). -/
inductive ChannelEvent where
  | yielded | resumed | silenced
  deriving DecidableEq, Repr

/-- Why a host frame was discarded (R166, R167). -/
inductive RejectReason where
  | badSum | gap | tooLong | byteError | queueFull
  deriving DecidableEq, Repr

/-- The status of a reply (R174). -/
inductive Status where
  | done | doneAdjusted | badForm | unknownKind | busy | absent | noRoom | refused
  deriving DecidableEq, Repr

/-! ### The sweep controller (R1) -/

/-- The controller's state. -/
inductive SweepState where
  | idle | running | halting
  deriving DecidableEq, Repr

/-- The sweep controller (R1). -/
structure Sweep where
  state : SweepState := .idle
  number : Word16 := 0
  kind : SweepKind := .host
  options : SweepOptions := {}
  haltTaken : Bool := false
  lists : PerChannel (List ModuleIndex) := ⟨[], [], []⟩
  reached : Vector Bool 48 := Vector.replicate 48 false
  appended : Vector Bool 48 := Vector.replicate 48 false
  counts : Vector Nat 11 := Vector.replicate 11 0
  created : Nat := 0
  updated : Nat := 0
  refused : Nat := 0
  deriving DecidableEq, Repr

/-! ### The dialog slots (R21) -/

/-- A slot's state. -/
inductive SlotState where
  | free | waking | identifying | referred | reading | erasing | parked
  deriving DecidableEq, Repr

/-- The sub-step of READING. -/
inductive SubStep where
  | asked | drawing
  deriving DecidableEq, Repr

/-- Where a parked dialog resumes. -/
inductive ResumePoint where
  | identify | refer | page | erase
  deriving DecidableEq, Repr

/-- The copy of the chassis references and of the module clock taken at an identity reply (R94). -/
structure RefSnapshot where
  t : Word32
  tSet : Bool
  d : Word32
  dSet : Bool
  clock : ClockBytes
  deriving DecidableEq, Repr

/-- An accepted page head (R35). -/
structure PageHead where
  count : Nat
  length : Nat
  more : Bool
  sum : Word16
  deriving DecidableEq, Repr

/-- The response timer while it runs: ms left, and ms since the wait began, which the 5000 ms bound of R25 counts. -/
structure ResponseTimer where
  left : Nat
  since : Nat := 0
  deriving DecidableEq, Repr

/-- The keep-awake timer while it runs: ms left, and the period of its last restart (R27). -/
structure AutoTimer where
  left : Nat
  period : Nat
  deriving DecidableEq, Repr

/-- A dialog slot's context (R21). The defaults are the values while FREE. -/
structure Slot where
  state : SlotState := .free
  sub : SubStep := .asked
  module : Option ModuleIndex := none
  resume : ResumePoint := .identify
  identified : Bool := false
  tag : Option Word16 := none
  profile : Option ProfileRef := none
  eraseCapable : Bool := false
  snapshot : Option RefSnapshot := none
  page : Nat := 0
  attempt : Nat := 1
  head : Option PageHead := none
  expected : Nat := 0
  received : Nat := 0
  outstanding : Nat := 0
  staging : List Byte := []
  idAttempt : Nat := 1
  holdOns : Nat := 0
  pagesRead : Nat := 0
  refused : Nat := 0
  response : Option ResponseTimer := none
  boot : Option Nat := none
  keepAwake : Option AutoTimer := none
  referral : Option Nat := none
  deriving DecidableEq, Repr

/-! ### The module table (R52) -/

/-- The step of a boot wait: 10 ms or 250 ms. -/
inductive BootStep where
  | fine | coarse
  deriving DecidableEq, Repr

/-- The bit rates of line S. -/
inductive LineRate where
  | r2400 | r4800 | r9600 | r19200
  deriving DecidableEq, Repr

/-- What the part knows of a module's record format (R54). -/
inductive Resolution where
  | unresolved
  | resolved (ref : ProfileRef) (tag : Word16)
  | declined (tag : Word16)
  deriving DecidableEq, Repr

/-- A module table entry. The defaults are the cleared form of R52; `lastOutcome = none` is NEVER. -/
structure Entry where
  inUse : Bool := false
  channel : Channel := .a
  address : Nat := 0
  sleepy : Bool := false
  bootWait : Nat := 0
  bootStep : BootStep := .fine
  responseWait : Nat := 15
  retries : Nat := 1
  lineRate : Option LineRate := none
  attentionSlot : Option Nat := none
  resolution : Resolution := .unresolved
  lastOutcome : Option SweepOutcome := none
  lastSweep : Word16 := 0
  attention : Bool := false
  deriving DecidableEq, Repr

/-! ### The profile store (R66, R67) -/

/-- The order in which the bytes of a field are assembled (R87). -/
inductive ByteOrder where
  | highFirst | lowFirst
  deriving DecidableEq, Repr

/-- The stamp class of a profile or a record. -/
inductive StampClass where
  | none | time | distance
  deriving DecidableEq, Repr

/-- A field of a record: `width` bytes from `offset` on. -/
structure Field where
  offset : Nat
  width : Nat
  deriving DecidableEq, Repr

/-- The status field of a profile (R88). -/
structure StatusField where
  offset : Nat
  mask : Byte
  shift : Nat
  deriving DecidableEq, Repr

/-- The stamp fields of a profile of class TIME or DISTANCE (R67). -/
structure StampFields where
  width : Nat
  first : Option Nat
  last : Option Nat
  numerator : Nat
  denominator : Nat
  deriving DecidableEq, Repr

/-- A profile (R67). Fields that do not apply are absent: `count` at width 0, `stamps` at class NONE, `snapshot` at
length 0. -/
structure Profile where
  tag : Word16
  recordLength : Nat
  code : Field
  status : Option StatusField
  count : Option Field
  stampClass : StampClass
  stamps : Option StampFields
  snapshot : Option Field
  eraseAllowed : Bool
  byteOrder : ByteOrder
  deriving DecidableEq, Repr

/-- The target of a binding (R74). -/
inductive Target where
  | profile (ref : ProfileRef)
  | decline
  deriving DecidableEq, Repr

/-- A binding (R74). -/
structure Binding where
  tag : Word16
  target : Target
  deriving DecidableEq, Repr

/-- The profile store (R66). The built-in profiles are fixed and stand outside the state. -/
structure Store where
  loaded : Vector (Option Profile) 12 := Vector.replicate 12 none
  bindings : List Binding := []
  deriving DecidableEq, Repr

/-! ### The chassis references (R91, R92) -/

/-- The chassis time counter and the chassis distance reference. -/
structure Clock where
  t : Word32 := 0
  tSet : Bool := false
  ms : Nat := 0
  d : Word32 := 0
  dSet : Bool := false
  deriving DecidableEq, Repr

/-! ### The history table (R105, R107) -/

/-- The state of a history record. -/
inductive RecordState where
  | active | stored | gone
  deriving DecidableEq, Repr

/-- The stamps of a record or a sighting: a class other than NONE with first and last seen. Absent stamps are class NONE
(R99, R105), held as `none : Option Stamps`. -/
structure Stamps where
  cls : StampClass
  first : Word32
  last : Word32
  deriving DecidableEq, Repr

/-- A history record (R105). An absent snapshot is the empty list. -/
structure Record where
  number : Word32
  module : ModuleIndex
  code : Code
  state : RecordState
  severity : BitVec 2
  box : Word16
  total : Word16
  stamps : Option Stamps
  unread : Bool
  sighted : Bool
  predates : Bool
  refUnset : Bool
  snapLost : Bool
  sweepNumber : Word16
  snapshot : List Byte
  deriving DecidableEq, Repr

/-- The history table (R107). -/
structure History where
  records : List Record := []
  next : Word32 := 1
  poolUsed : Nat := 0
  deriving DecidableEq, Repr

/-! ### Frames toward the chassis (R23, R127, R142) -/

/-- What a slot hands its channel controller: one of the six services, or the wake pattern of line S (R147, R175). -/
inductive TxRequest where
  | askId
  | askPage (page : Nat)
  | draw (k : Nat)
  | stay
  | erase
  | bye
  | wake
  deriving DecidableEq, Repr

/-- What is fixed when a frame is handed: the identifier on CAN, the address and line rate on line S (R23). -/
inductive Destination where
  | can (ident : Nat)
  | line (address : Nat) (rate : LineRate)
  deriving DecidableEq, Repr

/-- A frame handed by a slot. `earliest` is the ms left until its earliest start (R132). `own` says that the dialog that
handed it still holds the slot; a BYE, or a frame left behind by an ended dialog, is not its slot's own any more. -/
structure TxFrame where
  request : TxRequest
  dest : Destination
  earliest : Option Nat := none
  own : Bool := true
  deriving DecidableEq, Repr

/-! ### The CAN controllers (R126) -/

/-- The error state of a CAN controller. -/
inductive ErrorState where
  | active | passive | off | offIdle
  deriving DecidableEq, Repr

/-- The load verdict. -/
inductive Verdict where
  | quiet | busy
  deriving DecidableEq, Repr

/-- The bit rates of a CAN channel. -/
inductive CanRate where
  | k125 | k250 | k500 | k1000
  deriving DecidableEq, Repr

/-- The transmit holding of a CAN controller: empty, a frame not started, or a frame in progress, with an attempt on the
bus or waiting for the next bus idle (R131). -/
inductive Holding where
  | empty
  | waiting (f : TxFrame)
  | inProgress (f : TxFrame) (onBus : Bool)
  deriving DecidableEq, Repr

/-- A CAN channel controller (R126). `orphan` says that an attempt still on the bus belongs to a frame already withdrawn
by a silence, key-off or engine reset (R131). -/
structure Can where
  errorState : ErrorState := .active
  transmitErrors : Nat := 0
  receiveErrors : Nat := 0
  idleSequences : Nat := 0
  holding : Holding := .empty
  orphan : Bool := false
  gap : Option Nat := none
  pace : Nat := 10
  pacePending : Option Nat := none
  verdict : Verdict := .quiet
  verdictPending : Option Verdict := none
  window : Option Nat := none
  windowCount : Nat := 0
  lastWindow : Nat := 0
  requestBase : Nat := 0x6A0
  responseBase : Nat := 0x6C0
  rate : CanRate := .k250
  testerHold : Option (BitVec 5) := none
  deriving DecidableEq, Repr

/-! ### The single-wire line controller (R139) -/

/-- The transmitter of line S. -/
inductive Transmitter where
  | idle | sending | drivingWake | turnaround
  deriving DecidableEq, Repr

/-- The receiver of line S. -/
inductive Receiver where
  | off | hunt | sync | locked
  deriving DecidableEq, Repr

/-- The attention detector. -/
inductive Detector where
  | ready | mark | capture | release | suppressed
  deriving DecidableEq, Repr

/-- The single-wire line controller (R139). `driving` is the frame or wake pattern being driven; `driveRate` its line
rate, kept until the turnaround ends (R23, R140; for a wake pattern log entry 56); `wakeLeft` the milliseconds left of the 25 of
a wake pattern (R147); `turnaround` the bit times left of the turnaround, in fifths, of which a millisecond is a whole number
at every line rate (R144; log entry 10); `measuredSpan` is nine times the measured bit time, in sample periods (R145);
`mustRest` says that the next sync needs one idle bit time before it (R145), and `idleTime` is the time
that the filtered level has been HIGH, in sample periods of 19 200 bit/s (1/307 200 s), held at 1280, the ten bit times of
2400 bit/s (R142; log entry 55). -/
structure Line where
  level : Level := .high
  filterRun : Nat := 0
  idleTime : Nat := 0
  transmitter : Transmitter := .idle
  holding : Option TxFrame := none
  driving : Option TxFrame := none
  driveRate : Option LineRate := none
  wakeLeft : Option Nat := none
  turnaround : Option Nat := none
  receiver : Receiver := .off
  measuredSpan : Option Nat := none
  buffer : List Byte := []
  mustRest : Bool := false
  echoMismatches : Nat := 0
  stuckTimer : Option Nat := none
  stuck : Bool := false
  stuckClear : Option Nat := none
  detector : Detector := .release
  width : Nat := 0
  release : Option Nat := some 10
  deriving DecidableEq, Repr

/-! ### The share unit (R153) -/

/-- The share state of a channel. -/
inductive ShareState where
  | opened | yieldPending | yielded | silenced | standby
  deriving DecidableEq, Repr

/-- A set of silence causes. -/
structure Causes where
  busOff : Bool := false
  lineStuck : Bool := false
  echoFault : Bool := false
  tester : Bool := false
  deriving DecidableEq, Repr

/-- The share unit's items of one channel. -/
structure ShareChannel where
  state : ShareState := .opened
  causes : Causes := {}
  hold : Option Nat := none
  deriving DecidableEq, Repr

/-- The chassis share unit (R153). -/
structure Share where
  channels : PerChannel ShareChannel := ⟨{}, {}, {}⟩
  tpresActive : Bool := false
  debounce : Nat := 0
  tgnt : Bool := false
  pneed : Bool := false
  deriving DecidableEq, Repr

/-! ### The host link (R165) -/

/-- The receive assembler's state (R166). -/
inductive AssemblerState where
  | hunt | length | kind | payload | sum
  deriving DecidableEq, Repr

/-- The receive assembler with its frame buffer and its gap timer (R165). -/
structure Assembler where
  state : AssemblerState := .hunt
  len : Nat := 0
  kind : Byte := 0
  payload : List Byte := []
  gap : Option Nat := none
  deriving DecidableEq, Repr

/-- A request frame as the request queue holds it. -/
structure HostFrame where
  kind : Byte
  payload : List Byte
  deriving DecidableEq, Repr

/-- A notice with its fields (R172). -/
inductive Notice where
  | sweepEnd (reason : EndReason) (number : Word16) (kind : SweepKind) (counts : Vector Nat 11)
      (created updated refused : Nat)
  | moduleEnd (index : ModuleIndex) (outcome : SweepOutcome) (pages refused : Nat)
  | referral (index : ModuleIndex) (tag : Word16)
  | attention (index : ModuleIndex)
  | channelEvent (ch : Channel) (event : ChannelEvent) (cause : Option Cause)
  | frameRejected (reason : RejectReason) (kind : Byte)
  deriving DecidableEq, Repr

/-- A frame of the outbound queue: a reply (its frame KIND, its status and the bytes after the status), or a notice. -/
inductive OutFrame where
  | reply (kind : Byte) (status : Status) (content : List Byte)
  | notice (n : Notice)
  deriving DecidableEq, Repr

/-- The host link (R165). The baud rate is the latched straps'. -/
structure Link where
  assembler : Assembler := {}
  requests : List HostFrame := []
  inService : Option HostFrame := none
  outbound : List OutFrame := []
  noticesLost : Bool := false
  deriving DecidableEq, Repr

/-! ### The settings (R171) -/

/-- The settings, in the order of their identifiers 1..25. -/
inductive SettingId where
  | autoAttention | autoKeyOn | defaultOptions | keyOnSettle | drawSize | keepAwakePeriod | referralTimeout
  | requestBaseA | responseBaseA | requestBaseB | responseBaseB | canRateA | canRateB | paceGapA | paceGapB
  | busyThresholdA | busyThresholdB | turnaroundBits | attentionPolarity | socketChannels
  | testerActionA | testerActionB | testerActionS | releaseHold | echoSilence
  deriving DecidableEq, Repr

/-- The stored values of the settings; setting `n` stands at place `n - 1`. -/
abbrev Settings := Vector Word16 25

/-- The defaults of R171. -/
def Settings.defaults : Settings :=
  #v[0, 0, 2, 3, 4, 2000, 10, 0x6A0, 0x6C0, 0x6A0, 0x6C0, 250, 250, 10, 10, 60, 60, 2, 0, 1, 0, 0, 0, 2000, 1]

/-! ### The key monitor, the straps and the pins (R176, R180) -/

/-- The key monitor (R176). -/
structure Key where
  on : Bool
  run : Nat := 0
  settle : Option Nat := none
  settled : Bool := false
  deriving DecidableEq, Repr

/-- The latched straps (spec 00, Straps). -/
structure Straps where
  br1 : Bool := false
  br0 : Bool := false
  ksw : Bool := false
  deriving DecidableEq, Repr

/-- The levels of the two inputs that the timebase samples at each tick (R154, R176). `true` is high. -/
structure Pins where
  key : Bool
  tpres : Bool
  deriving DecidableEq, Repr

/-- The part, with the queue of the commands that wait. -/
structure State where
  sweep : Sweep
  slots : PerChannel Slot
  toHand : PerChannel (List TxFrame)
  table : Vector Entry 48
  store : Store
  clock : Clock
  history : History
  can : PerCan Can
  line : Line
  share : Share
  link : Link
  settings : Settings
  key : Key
  straps : Straps
  pins : Pins
  pending : List Instr
  deriving DecidableEq, Repr

/-- The state right after a full reset is released with these pin levels (R180). -/
def State.afterReset (p : ResetPins) : State where
  sweep := {}
  slots := ⟨{}, {}, {}⟩
  toHand := ⟨[], [], []⟩
  table := Vector.replicate 48 {}
  store := {}
  clock := {}
  history := {}
  can :=
    let c : Can := { window := if p.key then some 100 else none }
    ⟨c, c⟩
  line := {}
  share :=
    let c : ShareChannel := { state := if p.key then .opened else .standby }
    { channels := ⟨c, c, c⟩ }
  link := {}
  settings := Settings.defaults
  key := { on := p.key, settle := if p.key then some 3000 else none }
  straps := { br1 := p.br1, br0 := p.br0, ksw := p.ksw }
  pins := { key := p.key, tpres := p.tpres }
  pending := []

/-- The machine right after reset, with the pin levels of log entry 7: KEY high, TPRES high, straps low. -/
def State.reset : State := State.afterReset {}

end Sys2Proof.Machine
end

