-- ==== Sys2Proof/Machine/Operands.lean ====
section
/-! DEFINITION. The operand forms: the codes of R174, the request payloads as bytes, the bodies of the chassis dialog
frames of R175, and the settings' ranges of R171. -/

namespace Sys2Proof.Machine

/-! ### Byte order (R174) -/

/-- Two bytes, high byte first (R174). -/
def beWord16 (hi lo : Byte) : Word16 := hi ++ lo

/-- Four bytes, high byte first (R174). -/
def beWord32 (b0 b1 b2 b3 : Byte) : Word32 := b0 ++ b1 ++ b2 ++ b3

/-- The bytes of a two-byte number, high byte first (R174). -/
def bytes16 (w : Word16) : List Byte := [w.extractLsb' 8 8, w.extractLsb' 0 8]

/-- The bytes of a fault code, high byte first (R174). -/
def bytes24 (w : Code) : List Byte := [w.extractLsb' 16 8, w.extractLsb' 8 8, w.extractLsb' 0 8]

/-- The bytes of a four-byte number, high byte first (R174). -/
def bytes32 (w : Word32) : List Byte :=
  [w.extractLsb' 24 8, w.extractLsb' 16 8, w.extractLsb' 8 8, w.extractLsb' 0 8]

/-- A number in two bytes, high byte first. -/
def num16 (n : Nat) : List Byte := bytes16 (BitVec.ofNat 16 n)

/-! ### Codes of one byte (R174) -/

/-- A flag as a byte of value 0 or 1. -/
def flagByte (b : Bool) : Byte := if b then 1 else 0

/-- A byte whose bits 0, 1, 2, … are the flags of the list (R174: bits count from bit 0). -/
def flagsByte : List Bool → Byte
  | [] => 0
  | b :: bs => flagByte b ||| (flagsByte bs <<< 1)

/-- Bit `n` of a byte. -/
def bit (b : Byte) (n : Nat) : Bool := b.getLsbD n

/-- Whether a flag byte holds only bits 0 .. n-1 (R169, step 3). -/
def onlyLowBits (n : Nat) (b : Byte) : Bool := b.toNat < 2 ^ n

/-- The channel codes. -/
def channelCode : Channel → Byte
  | .a => 0 | .b => 1 | .s => 2

/-- The channel a code names. -/
def channelOfCode (b : Byte) : Option Channel :=
  match b.toNat with
  | 0 => some .a | 1 => some .b | 2 => some .s | _ => none

/-- The three channels, in the order A, B, S. -/
def allChannels : List Channel := [.a, .b, .s]

/-- A channel's bit in a channel set. -/
def channelBit : Channel → Nat
  | .a => 0 | .b => 1 | .s => 2

/-- The index of a module table entry in one byte, or nothing above 47. -/
def moduleIndexOf (b : Byte) : Option ModuleIndex :=
  if h : b.toNat < 48 then some ⟨b.toNat, h⟩ else none

/-- A module index field; 0xFF means none. -/
def moduleByte : Option ModuleIndex → Byte
  | some i => byte i.val
  | none => 0xFF

/-- The code of a profile reference: 0x00..0x0B for ROM, 0x10..0x1B for a loaded slot. -/
def ProfileRef.code : ProfileRef → Byte
  | .rom n => byte n.val
  | .loaded n => byte (16 + n.val)

/-- The profile reference a code names. -/
def ProfileRef.ofCode (b : Byte) : Option ProfileRef :=
  if h : b.toNat < 12 then some (.rom ⟨b.toNat, h⟩)
  else if h : 16 ≤ b.toNat ∧ b.toNat < 28 then some (.loaded ⟨b.toNat - 16, by omega⟩)
  else none

/-- The place of an outcome in the order of R12. -/
def SweepOutcome.index : SweepOutcome → Fin 11
  | .complete => 0 | .erased => 1 | .eraseDenied => 2 | .partialRead => 3 | .noAnswer => 4 | .denied => 5
  | .unsupported => 6 | .unresolved => 7 | .storeFull => 8 | .skipped => 9 | .aborted => 10

/-- The code of an outcome: 1..11 in the order of R12. -/
def SweepOutcome.code (o : SweepOutcome) : Byte := byte (o.index.val + 1)

/-- The code of a last outcome: 0 for NEVER. -/
def lastOutcomeCode : Option SweepOutcome → Byte
  | none => 0
  | some o => o.code

/-- The codes of a reply's status. -/
def Status.code : Status → Byte
  | .done => 0 | .doneAdjusted => 1 | .badForm => 2 | .unknownKind => 3 | .busy => 4 | .absent => 5 | .noRoom => 6
  | .refused => 7

/-- The codes of a slot state. -/
def SlotState.code : SlotState → Byte
  | .free => 0 | .waking => 1 | .identifying => 2 | .referred => 3 | .reading => 4 | .erasing => 5 | .parked => 6

/-- The codes of the sweep state. -/
def SweepState.code : SweepState → Byte
  | .idle => 0 | .running => 1 | .halting => 2

/-- The codes of the sweep kind. -/
def SweepKind.code : SweepKind → Byte
  | .host => 0 | .attention => 1 | .keyOn => 2

/-- The codes of the end reason. -/
def EndReason.code : EndReason → Byte
  | .finished => 0 | .halted => 1 | .keyOff => 2

/-- The codes of the share state. -/
def ShareState.code : ShareState → Byte
  | .opened => 0 | .yieldPending => 1 | .yielded => 2 | .silenced => 3 | .standby => 4

/-- The byte of a set of silence causes. -/
def Causes.code (c : Causes) : Byte := flagsByte [c.busOff, c.lineStuck, c.echoFault, c.tester]

/-- The one-bit code of a silence cause. -/
def Cause.code : Cause → Byte
  | .busOff => 1 | .lineStuck => 2 | .echoFault => 4 | .tester => 8

/-- The codes of a channel event. -/
def ChannelEvent.code : ChannelEvent → Byte
  | .yielded => 0 | .resumed => 1 | .silenced => 2

/-- The codes of the CAN error state. -/
def ErrorState.code : ErrorState → Byte
  | .active => 0 | .passive => 1 | .off => 2 | .offIdle => 3

/-- The codes of the load verdict. -/
def Verdict.code : Verdict → Byte
  | .quiet => 0 | .busy => 1

/-- The codes of the CAN bit rate. -/
def CanRate.code : CanRate → Byte
  | .k125 => 0 | .k250 => 1 | .k500 => 2 | .k1000 => 3

/-- The codes of the line S transmitter. -/
def Transmitter.code : Transmitter → Byte
  | .idle => 0 | .sending => 1 | .drivingWake => 2 | .turnaround => 3

/-- The codes of the line S receiver. -/
def Receiver.code : Receiver → Byte
  | .off => 0 | .hunt => 1 | .sync => 2 | .locked => 3

/-- The codes of the attention detector. -/
def Detector.code : Detector → Byte
  | .ready => 0 | .mark => 1 | .capture => 2 | .release => 3 | .suppressed => 4

/-- The codes of the line rate. -/
def LineRate.code : LineRate → Byte
  | .r2400 => 0 | .r4800 => 1 | .r9600 => 2 | .r19200 => 3

/-- The line rate a code names. -/
def LineRate.ofCode (b : Byte) : Option LineRate :=
  match b.toNat with
  | 0 => some .r2400 | 1 => some .r4800 | 2 => some .r9600 | 3 => some .r19200 | _ => none

/-- The codes of a record's state. -/
def RecordState.code : RecordState → Byte
  | .active => 0 | .stored => 1 | .gone => 2

/-- The codes of the stamp class. -/
def StampClass.code : StampClass → Byte
  | .none => 0 | .time => 1 | .distance => 2

/-- The stamp class a code names. -/
def StampClass.ofCode (b : Byte) : Option StampClass :=
  match b.toNat with
  | 0 => some .none | 1 => some .time | 2 => some .distance | _ => none

/-- The codes of a frame rejection reason. -/
def RejectReason.code : RejectReason → Byte
  | .badSum => 0 | .gap => 1 | .tooLong => 2 | .byteError => 3 | .queueFull => 4

/-- The bits of an options byte: bit 0 ERASE_AFTER, bit 1 INCLUDE_SLEEPERS (R169). -/
def SweepOptions.ofBits (n : Nat) : SweepOptions :=
  { eraseAfter := n.testBit 0, includeSleepers := n.testBit 1 }

/-! ### TABLE_PUT (R58) -/

/-- An optional value in one byte; 0xFF means absent (R174). -/
def optionalByte : Option Nat → Byte
  | some n => byte n
  | none => 0xFF

/-- The nine configured bytes of an entry, in the TABLE_PUT layout (R61, R169). -/
def configuredBytes (i : ModuleIndex) (e : Entry) : List Byte :=
  [byte i.val, channelCode e.channel, byte e.address,
    flagsByte [e.sleepy, e.bootStep == .coarse, e.attentionSlot.isSome],
    byte e.bootWait, byte e.responseWait, byte e.retries,
    match e.lineRate with | some r => r.code | none => 0xFF,
    optionalByte e.attentionSlot]

/-- Step 4 of R58: a response wait of 0 is taken as 15. -/
def adjustResponseWait (n : Nat) : Nat := if n = 0 then 15 else n

/-- Step 4 of R58: a retries value above 3 is taken as 3. -/
def adjustRetries (n : Nat) : Nat := if 3 < n then 3 else n

/-- The fields of an entry on line S that its channel alone uses: the line rate and the attention slot; nothing where
one of them is out of form (R58, step 1). -/
def lineFields (rate slot : Byte) (slotPresent : Bool) : Option (LineRate × Option Nat) :=
  match LineRate.ofCode rate with
  | none => none
  | some r => if slotPresent then (if slot.toNat ≤ 15 then some (r, some slot.toNat) else none) else some (r, none)

/-- The index and the configured fields of a TABLE_PUT payload as R58 settles them (steps 1 and 4), in an entry whose
running fields have their starting form (R59, steps 1 and 2), with whether step 4 changed a value. Nothing on
BAD_FORM. -/
def parseTablePut : List Byte → Option (ModuleIndex × Entry × Bool)
  | [index, ch, address, flags, boot, wait, retries, rate, slot] =>
    match moduleIndexOf index, channelOfCode ch with
    | some i, some c =>
      let e : Entry :=
        { inUse := true, channel := c, address := address.toNat, sleepy := bit flags 0, bootWait := boot.toNat,
          bootStep := if bit flags 1 then .coarse else .fine,
          responseWait := adjustResponseWait wait.toNat, retries := adjustRetries retries.toNat }
      let adjusted := wait.toNat == 0 || 3 < retries.toNat
      if !onlyLowBits 3 flags then none
      else
        match c with
        | .s =>
          match lineFields rate slot (bit flags 2) with
          | none => none
          | some (r, a) =>
            if address.toNat ≤ 15 then some (i, { e with lineRate := some r, attentionSlot := a }, adjusted) else none
        | _ => if address.toNat ≤ 31 then some (i, e, adjusted) else none
    | _, _ => none
  | _ => none

/-! ### PROFILE_LOAD (R69) -/

/-- A field lies inside the record when its offset plus its width is at most the record length. -/
def insideRecord (length offset width : Nat) : Bool := offset + width ≤ length

/-- An offset field whose 0xFF means absent (R174). -/
def offsetField (b : Byte) : Option Nat := if b = 0xFF then none else some b.toNat

/-- Whether an optional field of this width lies inside the record when it is present. -/
def optionInside (length width : Nat) : Option Nat → Bool
  | none => true
  | some o => insideRecord length o width

/-- The stamp fields of a PROFILE_LOAD of class TIME or DISTANCE; nothing on BAD_FORM. -/
def parseStamps (length : Nat) (width first last n1 n0 denominator : Byte) : Option StampFields :=
  let f := offsetField first
  let l := offsetField last
  let n := (beWord16 n1 n0).toNat
  if (width.toNat = 2 ∨ width.toNat = 3 ∨ width.toNat = 4) ∧ (f.isSome ∨ l.isSome)
      ∧ optionInside length width.toNat f ∧ optionInside length width.toNat l ∧ n ≠ 0 ∧ denominator.toNat ≠ 0 then
    some { width := width.toNat, first := f, last := l, numerator := n, denominator := denominator.toNat }
  else none

/-- The byte order a code names. -/
def ByteOrder.ofCode (b : Byte) : Option ByteOrder :=
  match b.toNat with
  | 0 => some .highFirst | 1 => some .lowFirst | _ => none

/-- The codes of the byte order. -/
def ByteOrder.code : ByteOrder → Byte
  | .highFirst => 0 | .lowFirst => 1

/-- A tag is 0x0001..0xFFFE (R67, R75, R76). -/
def tagOk (t : Word16) : Bool := t ≠ 0 && t ≠ 0xFFFF

/-- The slot and the profile of a PROFILE_LOAD payload; nothing on BAD_FORM (R69, step 1). -/
def parseProfileLoad : List Byte → Option (Fin 12 × Profile)
  | [slot, t1, t0, rl, co, cw, so, sm, ss, no, nw, sc, sw, fo, lo, n1, n0, dn, po, pl, er, bo] =>
    let length := rl.toNat
    match StampClass.ofCode sc, ByteOrder.ofCode bo with
    | some cls, some order =>
      if h : slot.toNat < 12 then
        let stamps := if cls = .none then some none else (parseStamps length sw fo lo n1 n0 dn).map some
        match stamps with
        | none => none
        | some st =>
          if tagOk (beWord16 t1 t0)
              ∧ 3 ≤ length ∧ length ≤ 32
              ∧ (cw.toNat = 2 ∨ cw.toNat = 3) ∧ insideRecord length co.toNat cw.toNat
              ∧ (so = 0xFF ∨ (insideRecord length so.toNat 1 ∧ sm ≠ 0 ∧ ss.toNat ≤ 6))
              ∧ nw.toNat ≤ 2 ∧ (nw.toNat = 0 ∨ insideRecord length no.toNat nw.toNat)
              ∧ pl.toNat ≤ 16 ∧ (pl.toNat = 0 ∨ insideRecord length po.toNat pl.toNat) then
            some (⟨slot.toNat, h⟩,
              { tag := beWord16 t1 t0, recordLength := length, code := ⟨co.toNat, cw.toNat⟩,
                status := if so = 0xFF then none else some ⟨so.toNat, sm, ss.toNat⟩,
                count := if nw.toNat = 0 then none else some ⟨no.toNat, nw.toNat⟩,
                stampClass := cls, stamps := st,
                snapshot := if pl.toNat = 0 then none else some ⟨po.toNat, pl.toNat⟩,
                eraseAllowed := er ≠ 0, byteOrder := order })
          else none
      else none
    | _, _ => none
  | _ => none

/-- Bytes 1..21 of the PROFILE_LOAD layout, absent fields marked absent (R71, R174). Of the values that say that erase is
allowed the reply carries 1; that is the model's choice (log entry 49). -/
def profileBytes (p : Profile) : List Byte :=
  bytes16 p.tag ++ [byte p.recordLength, byte p.code.offset, byte p.code.width]
  ++ (match p.status with
      | some f => [byte f.offset, f.mask, byte f.shift]
      | none => [0xFF, 0, 0xFF])
  ++ (match p.count with
      | some f => [byte f.offset, byte f.width]
      | none => [0xFF, 0])
  ++ (match p.stamps with
      | some f => [p.stampClass.code, byte f.width, optionalByte f.first, optionalByte f.last]
          ++ num16 f.numerator ++ [byte f.denominator]
      | none => [p.stampClass.code, 0, 0xFF, 0xFF, 0, 0, 0])
  ++ (match p.snapshot with
      | some f => [byte f.offset, byte f.width]
      | none => [0xFF, 0])
  ++ [flagByte p.eraseAllowed, p.byteOrder.code]

/-! ### The settings (R171) -/

/-- What a setting accepts. -/
inductive SettingRange where
  /-- Codes 0..max; any other value is BAD_FORM. -/
  | codes (max : Nat)
  /-- Taken to the nearer end of lo..hi. -/
  | range (lo hi : Nat)
  /-- A CAN base (R127). -/
  | canBase
  /-- A CAN bit rate (R127). -/
  | canRate
  deriving DecidableEq, Repr

/-- The place of a setting in the table of R171; its identifier is one more. -/
def SettingId.index : SettingId → Fin 25
  | .autoAttention => 0 | .autoKeyOn => 1 | .defaultOptions => 2 | .keyOnSettle => 3 | .drawSize => 4
  | .keepAwakePeriod => 5 | .referralTimeout => 6 | .requestBaseA => 7 | .responseBaseA => 8 | .requestBaseB => 9
  | .responseBaseB => 10 | .canRateA => 11 | .canRateB => 12 | .paceGapA => 13 | .paceGapB => 14
  | .busyThresholdA => 15 | .busyThresholdB => 16 | .turnaroundBits => 17 | .attentionPolarity => 18
  | .socketChannels => 19 | .testerActionA => 20 | .testerActionB => 21 | .testerActionS => 22 | .releaseHold => 23
  | .echoSilence => 24

/-- Every setting, in ascending identifier. -/
def allSettings : List SettingId :=
  [.autoAttention, .autoKeyOn, .defaultOptions, .keyOnSettle, .drawSize, .keepAwakePeriod, .referralTimeout,
    .requestBaseA, .responseBaseA, .requestBaseB, .responseBaseB, .canRateA, .canRateB, .paceGapA, .paceGapB,
    .busyThresholdA, .busyThresholdB, .turnaroundBits, .attentionPolarity, .socketChannels, .testerActionA,
    .testerActionB, .testerActionS, .releaseHold, .echoSilence]

/-- The identifier of a setting. -/
def SettingId.code (i : SettingId) : Byte := byte (i.index.val + 1)

/-- The setting an identifier names. -/
def SettingId.ofCode (b : Byte) : Option SettingId :=
  if b.toNat = 0 then none else allSettings[b.toNat - 1]?

/-- The values a setting takes (R171). -/
def SettingId.range : SettingId → SettingRange
  | .autoAttention => .codes 1 | .autoKeyOn => .codes 1 | .defaultOptions => .codes 3
  | .keyOnSettle => .range 1 30 | .drawSize => .range 1 8 | .keepAwakePeriod => .range 500 5000
  | .referralTimeout => .range 1 60
  | .requestBaseA => .canBase | .responseBaseA => .canBase | .requestBaseB => .canBase | .responseBaseB => .canBase
  | .canRateA => .canRate | .canRateB => .canRate
  | .paceGapA => .range 1 250 | .paceGapB => .range 1 250
  | .busyThresholdA => .range 10 200 | .busyThresholdB => .range 10 200
  | .turnaroundBits => .range 1 15 | .attentionPolarity => .codes 1 | .socketChannels => .codes 7
  | .testerActionA => .codes 1 | .testerActionB => .codes 1 | .testerActionS => .codes 1
  | .releaseHold => .range 500 10000 | .echoSilence => .codes 1

/-- A CAN base: above 0x7DF it is 0x7C0, and its low five bits are cleared (R127). -/
def adjustBase (n : Nat) : Nat := if 0x7DF < n then 0x7C0 else n / 32 * 32

/-- A CAN bit rate: the largest listed rate not above it, or 125 (R127). -/
def adjustRate (n : Nat) : Nat :=
  if 1000 ≤ n then 1000 else if 500 ≤ n then 500 else if 250 ≤ n then 250 else 125

/-- The stored value for a requested value; nothing where an enumerated setting is outside its codes (R171, steps 1
and 2). -/
def SettingId.adjust (i : SettingId) (v : Word16) : Option Word16 :=
  match i.range with
  | .codes max => if v.toNat ≤ max then some v else none
  | .range lo hi => some (BitVec.ofNat 16 (max lo (min hi v.toNat)))
  | .canBase => some (BitVec.ofNat 16 (adjustBase v.toNat))
  | .canRate => some (BitVec.ofNat 16 (adjustRate v.toNat))

/-- The bit rate a stored rate setting names. -/
def CanRate.ofKbit (n : Nat) : CanRate :=
  if 1000 ≤ n then .k1000 else if 500 ≤ n then .k500 else if 250 ≤ n then .k250 else .k125

/-- The pairs of a SETTINGS_PUT payload: identifier and value requested; nothing where the length is not a multiple of
three or an identifier names no setting (R169, R171). -/
def parsePairs : List Byte → Option (List (SettingId × Word16))
  | [] => some []
  | i :: hi :: lo :: rest =>
    match SettingId.ofCode i, parsePairs rest with
    | some id, some ps => some ((id, beWord16 hi lo) :: ps)
    | _, _ => none
  | _ => none

/-- The identifiers of a SETTINGS_GET payload; nothing where one names no setting. -/
def parseIds : List Byte → Option (List SettingId)
  | [] => some []
  | i :: rest =>
    match SettingId.ofCode i, parseIds rest with
    | some id, some ids => some (id :: ids)
    | _, _ => none

/-- Whether a list holds an element twice. -/
def hasRepeat {α : Type} [DecidableEq α] : List α → Bool
  | [] => false
  | x :: xs => xs.contains x || hasRepeat xs

/-! ### SWEEP and HISTORY_READ (R3, R120) -/

/-- The scope of a sweep (R3, R19). -/
inductive Scope where
  | all
  | channels (a b s : Bool)
  | indices (is : List ModuleIndex)
  | attention
  deriving DecidableEq, Repr

/-- The module indices of a scope list; nothing where one is above 47. -/
def parseIndices : List Byte → Option (List ModuleIndex)
  | [] => some []
  | b :: bs =>
    match moduleIndexOf b, parseIndices bs with
    | some i, some is => some (i :: is)
    | _, _ => none

/-- The scope and options of a SWEEP payload; nothing on BAD_FORM (R3, R169). -/
def parseSweep : List Byte → Option (Scope × SweepOptions)
  | scope :: options :: rest =>
    if !onlyLowBits 2 options then none
    else
      let o := SweepOptions.ofBits options.toNat
      match scope.toNat, rest with
      | 0, [] => some (.all, o)
      | 1, [set] =>
        if onlyLowBits 3 set && set ≠ 0 then some (.channels (bit set 0) (bit set 1) (bit set 2), o) else none
      | 2, b :: bs =>
        if (b :: bs).length ≤ 48 then (parseIndices (b :: bs)).map (fun is => (.indices is, o)) else none
      | _, _ => none
  | _ => none

/-- The filter of a HISTORY_READ (R120). -/
inductive Filter where
  | all
  | unread
  | module (i : ModuleIndex)
  deriving DecidableEq, Repr

/-- Starting number, maximum count and filter of a HISTORY_READ payload; nothing on BAD_FORM (R120). -/
def parseHistoryRead : List Byte → Option (Word32 × Nat × Filter)
  | [b0, b1, b2, b3, maximum, filter, m] =>
    let start := beWord32 b0 b1 b2 b3
    if maximum = 0 then none
    else
      match filter.toNat with
      | 0 => some (start, maximum.toNat, .all)
      | 1 => some (start, maximum.toNat, .unread)
      | 2 => (moduleIndexOf m).map (fun i => (start, maximum.toNat, .module i))
      | _ => none
  | _ => none

/-! ### The dialog services (R175) -/

/-- The body of a frame the part sends; the wake pattern has none. -/
def TxRequest.body : TxRequest → List Byte
  | .askId => [0x01]
  | .askPage n => [0x02, byte n]
  | .draw k => [0x03, byte k]
  | .stay => [0x04]
  | .erase => [0x05]
  | .bye => [0x06]
  | .wake => []

/-- A service a module sends. -/
inductive Service where
  | idReply (tag : Word16) (clock : ClockBytes) (flags : Byte)
  | pageHead (page count : Byte) (length : Word16) (flags : Byte) (sum : Word16)
  | segment (index : BitVec 3) (data : List Byte)
  | holdOn (n : Byte)
  | deny (reason : Byte)
  | eraseDone
  deriving DecidableEq, Repr

/-- The page bytes one segment carries on a channel (R36). -/
def segmentCapacity : Channel → Nat
  | .a => 7 | .b => 7 | .s => 16

/-- The service of a body received on a channel. Nothing for a body whose length does not fit its service, which the
controller discards, and for an unknown service, which the slot ignores (R24, R128, R141). -/
def parseService (ch : Channel) : List Byte → Option Service
  | [] => none
  | code :: rest =>
    if code.toNat / 8 = 6 then
      if 1 ≤ rest.length ∧ rest.length ≤ segmentCapacity ch then
        some (.segment (code.extractLsb' 0 3) rest)
      else none
    else
      match code.toNat, rest with
      | 0x21, [t1, t0, c0, c1, c2, c3, f] => some (.idReply (beWord16 t1 t0) ⟨c0, c1, c2, c3⟩ f)
      | 0x22, [p, c, l1, l0, f, s1, s0] => some (.pageHead p c (beWord16 l1 l0) f (beWord16 s1 s0))
      | 0x23, [n] => some (.holdOn n)
      | 0x24, [r] => some (.deny r)
      | 0x25, [] => some .eraseDone
      | _, _ => none

/-- The 8-bit sum of bytes (R141, R166). -/
def sum8 : List Byte → Byte
  | [] => 0
  | b :: bs => b + sum8 bs

/-- The 16-bit modular sum of bytes (R40). -/
def sum16 : List Byte → Word16
  | [] => 0
  | b :: bs => b.zeroExtend 16 + sum16 bs

/-- The address and the body of a line S frame, from its address to its check byte; nothing where its length or its
check is wrong (R141, R146). -/
def parseLineFrame : List Byte → Option (Nat × List Byte)
  | address :: length :: rest =>
    if 1 ≤ length.toNat ∧ length.toNat ≤ 18 ∧ rest.length = length.toNat + 1
        ∧ sum8 (address :: length :: rest) = 0 then
      some (address.toNat, rest.take length.toNat)
    else none
  | _ => none

/-- The bytes of a line S frame that the part sends: sync, address, length, body, check (R141). -/
def lineFrameBytes (address : Nat) (request : TxRequest) : List Byte :=
  let body := request.body
  let summed := byte address :: byte body.length :: body
  0x55 :: summed ++ [0 - sum8 summed]

/-! ### Notices and replies as frames (R166, R169, R172) -/

/-- The KIND of a notice. -/
def Notice.kind : Notice → Byte
  | .sweepEnd .. => 0x40
  | .moduleEnd .. => 0x41
  | .referral .. => 0x42
  | .attention .. => 0x43
  | .channelEvent .. => 0x44
  | .frameRejected .. => 0x45

/-- The payload of a notice, in the layout of chapter 10, Notice payloads. -/
def Notice.payload : Notice → List Byte
  | .sweepEnd reason number kind counts created updated refused =>
    reason.code :: bytes16 number ++ [kind.code] ++ counts.toList.map byte ++ num16 created ++ num16 updated
      ++ num16 refused
  | .moduleEnd i o pages refused => [byte i.val, o.code, byte pages] ++ num16 refused
  | .referral i tag => byte i.val :: bytes16 tag
  | .attention i => [byte i.val]
  | .channelEvent ch ev cause => [channelCode ch, ev.code, match cause with | some c => c.code | none => 0]
  | .frameRejected r k => [r.code, k]

/-- The KIND of the reply to a request: 0x80 plus the low seven bits of its KIND (R169). -/
def replyKind (kind : Byte) : Byte := 0x80 ||| (kind &&& 0x7F)

/-- The KIND of an outbound frame. -/
def OutFrame.kind : OutFrame → Byte
  | .reply k _ _ => k
  | .notice n => n.kind

/-- The payload of an outbound frame: a reply's begins with its status byte (R169). -/
def OutFrame.payload : OutFrame → List Byte
  | .reply _ st content => st.code :: content
  | .notice n => n.payload

/-- The bytes of an outbound frame on HTXD: sync, LEN, KIND, payload, SUM (R166). -/
def OutFrame.bytes (f : OutFrame) : List Byte :=
  let summed := byte f.payload.length :: f.kind :: f.payload
  0xA7 :: summed ++ [0 - sum8 summed]

/-- The host form of a history record (R122; chapter 10, History record). -/
def recordBytes (r : Record) : List Byte :=
  bytes32 r.number ++ [byte r.module.val] ++ bytes24 r.code
  ++ [r.state.code,
      byte (r.severity.toNat + 16 * (match r.stamps with | some st => st.cls.code.toNat | none => 0))]
  ++ bytes16 r.box ++ bytes16 r.total
  ++ (match r.stamps with
      | some st => bytes32 st.first ++ bytes32 st.last
      | none => [0, 0, 0, 0, 0, 0, 0, 0])
  ++ [flagsByte [r.unread, r.sighted, r.predates, r.refUnset, r.snapLost]]
  ++ bytes16 r.sweepNumber ++ [byte r.snapshot.length] ++ r.snapshot

end Sys2Proof.Machine
end

