-- ==== Sys2Proof/Machine/Ops.lean ====
section
/-! DEFINITION. The named operations over the state: reading and writing one block, the settings, the outbound queue and
the host's replies, the timers' loads. -/

namespace Sys2Proof.Machine

/-! ### One value per channel -/

/-- The value of a channel. -/
def PerChannel.get {α : Type} (p : PerChannel α) : Channel → α
  | .a => p.a
  | .b => p.b
  | .s => p.s

/-- The values with one channel's replaced. -/
def PerChannel.set {α : Type} (p : PerChannel α) (c : Channel) (x : α) : PerChannel α :=
  match c with
  | .a => { p with a := x }
  | .b => { p with b := x }
  | .s => { p with s := x }

/-- The value of a CAN channel. -/
def PerCan.get {α : Type} (p : PerCan α) : CanChannel → α
  | .a => p.a
  | .b => p.b

/-- The values with one CAN channel's replaced. -/
def PerCan.set {α : Type} (p : PerCan α) (c : CanChannel) (x : α) : PerCan α :=
  match c with
  | .a => { p with a := x }
  | .b => { p with b := x }

/-- The CAN channel of a channel, when it is one. -/
def canOf : Channel → Option CanChannel
  | .a => some .a
  | .b => some .b
  | .s => none

/-- The CAN channels, in the order A, B. -/
def allCanChannels : List CanChannel := [.a, .b]

/-! ### The blocks of the state -/

/-- The dialog slot of a channel. -/
def State.slot (s : State) (c : Channel) : Slot := s.slots.get c

/-- The state with a channel's slot replaced. -/
def State.withSlot (s : State) (c : Channel) (x : Slot) : State := { s with slots := s.slots.set c x }

/-- The frames a channel's slot has still to hand (R22, R23, R44). -/
def State.waitingFrames (s : State) (c : Channel) : List TxFrame := s.toHand.get c

/-- The state with a channel's frames still to hand replaced. -/
def State.withWaitingFrames (s : State) (c : Channel) (fs : List TxFrame) : State :=
  { s with toHand := s.toHand.set c fs }

/-- A module table entry. -/
def State.entry (s : State) (i : ModuleIndex) : Entry := s.table[i]

/-- The state with a module table entry replaced. -/
def State.withEntry (s : State) (i : ModuleIndex) (e : Entry) : State := { s with table := s.table.set i e }

/-- A CAN controller. -/
def State.canCtl (s : State) (c : CanChannel) : Can := s.can.get c

/-- The state with a CAN controller replaced. -/
def State.withCan (s : State) (c : CanChannel) (x : Can) : State := { s with can := s.can.set c x }

/-- The state with the line controller replaced. -/
def State.withLine (s : State) (x : Line) : State := { s with line := x }

/-- The share unit's items of a channel. -/
def State.shareOf (s : State) (c : Channel) : ShareChannel := s.share.channels.get c

/-- The state with the share unit's items of a channel replaced. -/
def State.withShareOf (s : State) (c : Channel) (x : ShareChannel) : State :=
  { s with share := { s.share with channels := s.share.channels.set c x } }

/-- The share state of a channel. -/
def State.shareState (s : State) (c : Channel) : ShareState := (s.shareOf c).state

/-- The state with the share state of a channel replaced. -/
def State.withShareState (s : State) (c : Channel) (x : ShareState) : State :=
  s.withShareOf c { s.shareOf c with state := x }

/-- The state with the sweep controller replaced. -/
def State.withSweep (s : State) (x : Sweep) : State := { s with sweep := x }

/-- The state with the history table replaced. -/
def State.withHistory (s : State) (x : History) : State := { s with history := x }

/-- The state with the host link replaced. -/
def State.withLink (s : State) (x : Link) : State := { s with link := x }

/-- The stored value of a setting (R171). -/
def State.setting (s : State) (i : SettingId) : Nat := (s.settings[i.index]).toNat

/-- The state with the stored value of a setting replaced. -/
def State.withSetting (s : State) (i : SettingId) (v : Word16) : State :=
  { s with settings := s.settings.set i.index v }

/-- The entry of the module a slot holds, if it holds one. -/
def State.slotEntry (s : State) (c : Channel) : Option Entry := ((s.slot c).module).map s.entry

/-! ### Settings read as what they mean -/

/-- The request base setting of a CAN channel (R127). -/
def requestBaseSetting : CanChannel → SettingId
  | .a => .requestBaseA
  | .b => .requestBaseB

/-- The response base setting of a CAN channel (R127). -/
def responseBaseSetting : CanChannel → SettingId
  | .a => .responseBaseA
  | .b => .responseBaseB

/-- The bit rate setting of a CAN channel (R127). -/
def rateSetting : CanChannel → SettingId
  | .a => .canRateA
  | .b => .canRateB

/-- The pace gap setting of a CAN channel (R133). -/
def paceSetting : CanChannel → SettingId
  | .a => .paceGapA
  | .b => .paceGapB

/-- The busy threshold setting of a CAN channel (R134). -/
def thresholdSetting : CanChannel → SettingId
  | .a => .busyThresholdA
  | .b => .busyThresholdB

/-- The tester action setting of a channel (R153). -/
def testerActionSetting : Channel → SettingId
  | .a => .testerActionA
  | .b => .testerActionB
  | .s => .testerActionS

/-- Whether the tester action of a channel is SILENCE. -/
def State.testerSilences (s : State) (c : Channel) : Bool := s.setting (testerActionSetting c) == 1

/-- Whether a channel is in SOCKET_CHANNELS (R153). -/
def State.isSocket (s : State) (c : Channel) : Bool := (s.setting .socketChannels).testBit (channelBit c)

/-- The options of the DEFAULT_OPTIONS setting (R19). -/
def State.defaultOptions (s : State) : SweepOptions := SweepOptions.ofBits (s.setting .defaultOptions)

/-- Whether ATTENTION_POLARITY is HIGH (R149). -/
def State.polarityHigh (s : State) : Bool := s.setting .attentionPolarity == 1

/-! ### The outbound queue (R165, R168) -/

/-- Whether an outbound frame is a notice. -/
def OutFrame.isNotice : OutFrame → Bool
  | .reply .. => false
  | .notice _ => true

/-- How many notices the outbound queue holds. -/
def Link.noticesHeld (l : Link) : Nat := (l.outbound.filter OutFrame.isNotice).length

/-- How many replies the outbound queue holds. -/
def Link.repliesHeld (l : Link) : Nat := (l.outbound.filter (fun f => !f.isNotice)).length

/-- A notice is queued while fewer than 12 notices are held; otherwise it is dropped and NOTICES_LOST is set (R168). -/
def Link.notify (l : Link) (n : Notice) : Link :=
  if l.noticesHeld < 12 then { l with outbound := l.outbound ++ [.notice n] } else { l with noticesLost := true }

/-- The state with a notice queued or dropped. -/
def State.notify (s : State) (n : Notice) : State := s.withLink (s.link.notify n)

/-- The state with the reply to a request of this KIND queued. Room is guaranteed by the taking of the request (R167,
R168). -/
def State.reply (s : State) (kind : Byte) (st : Status) (content : List Byte := []) : State :=
  s.withLink { s.link with outbound := s.link.outbound ++ [.reply (replyKind kind) st content] }

/-! ### Saturating counts -/

/-- One more, held at a limit. -/
def satSucc (limit n : Nat) : Nat := if n < limit then n + 1 else limit

/-! ### The sweep controller's lists (R1) -/

/-- The work list of a channel. -/
def State.workList (s : State) (c : Channel) : List ModuleIndex := s.sweep.lists.get c

/-- The state with the work list of a channel replaced. -/
def State.withWorkList (s : State) (c : Channel) (is : List ModuleIndex) : State :=
  s.withSweep { s.sweep with lists := s.sweep.lists.set c is }

/-- Every module index, ascending. -/
def allModules : List ModuleIndex := List.finRange 48

/-- The first in-use entry, by index, that satisfies a condition. -/
def State.findEntry (s : State) (p : Entry → Bool) : Option ModuleIndex :=
  allModules.find? (fun i => (s.entry i).inUse && p (s.entry i))

/-! ### Engagement (R57) -/

/-- Whether a dialog slot that is not FREE holds this module. -/
def State.inSlot (s : State) (i : ModuleIndex) : Bool :=
  allChannels.any (fun c => (s.slot c).state ≠ .free && (s.slot c).module == some i)

/-- Whether this module stands on a work list. -/
def State.listed (s : State) (i : ModuleIndex) : Bool := allChannels.any (fun c => (s.workList c).contains i)

/-- An entry is engaged while a slot holds it or a work list names it. -/
def State.engaged (s : State) (i : ModuleIndex) : Bool := s.inSlot i || s.listed i

end Sys2Proof.Machine
end

