-- ==== Sys2Proof/Machine/Flags.lean ====
section
/-! DEFINITION. The flags and conditions the part computes from its state: the yield triggers, the silence causes that
persist, TGNT and PNEED, the CAN error state, and whether a slot's exchange unit is in progress. -/

namespace Sys2Proof.Machine

/-! ### The share unit's conditions -/

/-- A yield trigger is present on a channel while TPRES is ACTIVE and the channel is a socket channel, or while its
release hold timer runs (R154). -/
def State.yieldTrigger (s : State) (c : Channel) : Bool :=
  (s.share.tpresActive && s.isSocket c) || (s.shareOf c).hold.isSome

/-- A set of causes with one added. -/
def Causes.add (cs : Causes) : Cause → Causes
  | .busOff => { cs with busOff := true }
  | .lineStuck => { cs with lineStuck := true }
  | .echoFault => { cs with echoFault := true }
  | .tester => { cs with tester := true }

/-- Whether a cause is in the set. -/
def Causes.has (cs : Causes) : Cause → Bool
  | .busOff => cs.busOff
  | .lineStuck => cs.lineStuck
  | .echoFault => cs.echoFault
  | .tester => cs.tester

/-- Whether the controller of a channel is OFF; never on line S. -/
def State.controllerOff (s : State) (c : Channel) : Bool :=
  match canOf c with
  | some k => (s.canCtl k).errorState == .off
  | none => false

/-- Whether a cause persists on a channel (R158). -/
def State.persists (s : State) (c : Channel) : Cause → Bool
  | .busOff => s.controllerOff c
  | .lineStuck => s.line.stuck
  | .echoFault => false
  | .tester => s.yieldTrigger c

/-- Every silence cause. -/
def allCauses : List Cause := [.busOff, .lineStuck, .echoFault, .tester]

/-- Whether some cause in the channel's set persists (R161). -/
def State.somePersists (s : State) (c : Channel) : Bool :=
  allCauses.any (fun x => (s.shareOf c).causes.has x && s.persists c x)

/-- TGNT: some channel in SOCKET_CHANNELS is YIELDED (R160). -/
def State.tgntValue (s : State) : Bool :=
  allChannels.any (fun c => s.isSocket c && s.shareState c == .yielded)

/-- PNEED: some channel is YIELDED and has a slot that is not FREE or a work list that is not empty (R160). -/
def State.pneedValue (s : State) : Bool :=
  allChannels.any (fun c =>
    s.shareState c == .yielded && ((s.slot c).state ≠ .free || !(s.workList c).isEmpty))

/-- The state with TGNT and PNEED recomputed (R160). -/
def State.recomputeOutputs (s : State) : State :=
  { s with share := { s.share with tgnt := s.tgntValue, pneed := s.pneedValue } }

/-! ### The CAN controllers' conditions -/

/-- Whether a controller takes part in bus traffic: ACTIVE or PASSIVE (R129, R136). -/
def Can.onLine (k : Can) : Bool := k.errorState == .active || k.errorState == .passive

/-- The error state of a controller on line follows its counts; OFF and OFF_IDLE stay (R135). -/
def Can.followCounts (k : Can) : Can :=
  if k.onLine then
    { k with errorState := if 128 ≤ k.transmitErrors ∨ 128 ≤ k.receiveErrors then .passive else .active }
  else k

/-- The effective gap: the pace gap in use, four times that under BUSY (R132). -/
def Can.effectiveGap (k : Can) : Nat :=
  match k.verdict with
  | .quiet => k.pace
  | .busy => 4 * k.pace

/-! ### Exchange units (R45) -/

/-- Whether a request is the one the slot's step awaits: it begins the exchange unit of that step (R45). STAY and BYE
begin none, and a repeat left over after its answer was taken belongs to no unit (log entry 13). -/
def Slot.awaits (x : Slot) : TxRequest → Bool
  | .askId => x.state == .identifying || x.state == .waking
  | .wake => x.state == .waking
  | .askPage n => x.state == .reading && x.sub == .asked && x.page == n
  | .draw _ => x.state == .reading && x.sub == .drawing
  | .erase => x.state == .erasing
  | .stay => false
  | .bye => false

/-- The frame in progress on a channel: started and not yet sent. -/
def State.frameInProgress (s : State) (c : Channel) : Option TxFrame :=
  match canOf c with
  | some k =>
    match (s.canCtl k).holding with
    | .inProgress f _ => some f
    | _ => none
  | none => s.line.driving

/-- The frame that waits unstarted in the transmit holding of a channel. -/
def State.frameWaiting (s : State) (c : Channel) : Option TxFrame :=
  match canOf c with
  | some k =>
    match (s.canCtl k).holding with
    | .waiting f => some f
    | _ => none
  | none => s.line.holding

/-- Whether the transmit holding can take a frame: no frame handed earlier is still unsent (R23). -/
def State.holdingEmpty (s : State) (c : Channel) : Bool :=
  (s.frameInProgress c).isNone && (s.frameWaiting c).isNone

/-- Whether the slot's exchange unit is in progress: its answer or its boot wait is awaited, or its request has started
on the channel (R45). -/
def State.inExchange (s : State) (c : Channel) : Bool :=
  (s.slot c).response.isSome || (s.slot c).boot.isSome ||
    (match s.frameInProgress c with
     | some f => f.own && (s.slot c).awaits f.request
     | none => false)

/-- Whether the slot waits on a referral: REFERRED, or PARKED with resume point REFER (R66). -/
def Slot.waitsOnReferral (x : Slot) : Bool :=
  x.state == .referred || (x.state == .parked && x.resume == .refer)

/-- Whether the slot takes frames: neither FREE nor PARKED (R24). -/
def Slot.listens (x : Slot) : Bool := x.state ≠ .free && x.state ≠ .parked

/-! ### The sampler's rate (R140) -/

/-- The line rate whose bit time the sampler uses: that of a frame being sent or in its turnaround, else that of the
module slot S holds, else 19 200 bit/s (R140). That a wake pattern keeps its rate until its turnaround ends, as a frame does, is
the model's choice (log entry 56). -/
def State.sampleRate (s : State) : LineRate :=
  match s.line.driveRate with
  | some r => r
  | none =>
    match s.slotEntry .s with
    | some e => e.lineRate.getD .r19200
    | none => .r19200

/-- A sample period at a line rate, in those of 19 200 bit/s; 16 of them are one bit time (R140). -/
def LineRate.samplePeriod : LineRate → Nat
  | .r2400 => 8
  | .r4800 => 4
  | .r9600 => 2
  | .r19200 => 1

/-- The sampler's sample period (R140). -/
def State.samplePeriod (s : State) : Nat := s.sampleRate.samplePeriod

/-- The time for which an idle line is measured: ten bit times at 2400 bit/s (R142). -/
def longestIdle : Nat := 1280

/-- Line S idle for so much longer, where its filtered level is HIGH (R140). -/
def Line.idleFor (l : Line) (time : Nat) : Line :=
  match l.level with
  | .high => { l with idleTime := min longestIdle (l.idleTime + time) }
  | .low => l

end Sys2Proof.Machine
end

