-- ==== Sys2Proof/Machine/Profiles.lean ====
section
/-! DEFINITION. The profile store: the built-in profiles (R68), the lookup (R79), the bindings (R74 to R77) and the
profiles in use (R73). -/

namespace Sys2Proof.Machine

/-! ### The built-in profiles (R68) -/

/-- A built-in profile with stamps. -/
def romStamped (tag : Word16) (length codeWidth : Nat) (status : Option StatusField) (count : Option Field)
    (order : ByteOrder) (cls : StampClass) (width : Nat) (first last : Option Nat) (num den : Nat)
    (snapshot : Option Field) (erase : Bool) : Profile :=
  { tag, recordLength := length, code := ⟨0, codeWidth⟩, status, count, stampClass := cls,
    stamps := some ⟨width, first, last, num, den⟩, snapshot, eraseAllowed := erase, byteOrder := order }

/-- A built-in profile without stamps or snapshot. -/
def romPlain (tag : Word16) (length codeWidth : Nat) (status : Option StatusField) (count : Option Field)
    (order : ByteOrder) (erase : Bool) : Profile :=
  { tag, recordLength := length, code := ⟨0, codeWidth⟩, status, count, stampClass := .none, stamps := none,
    snapshot := none, eraseAllowed := erase, byteOrder := order }

/-- The twelve built-in profiles, from the two tables of R68. -/
def romProfiles : Vector Profile 12 := #v[
  romPlain 0x1001 4 2 (some ⟨2, 0x01, 4⟩) (some ⟨3, 1⟩) .highFirst true,
  romStamped 0x1002 8 3 (some ⟨3, 0x80, 5⟩) none .lowFirst .time 2 none (some 4) 60 1 (some ⟨6, 2⟩) false,
  romStamped 0x1003 12 2 (some ⟨2, 0x09, 1⟩) (some ⟨3, 1⟩) .highFirst .time 2 (some 4) (some 6) 180 1
    (some ⟨8, 4⟩) true,
  romStamped 0x1004 10 3 none (some ⟨3, 2⟩) .lowFirst .distance 3 (some 5) none 1 1 (some ⟨8, 2⟩) true,
  romStamped 0x1005 14 2 (some ⟨2, 0x01, 2⟩) (some ⟨3, 1⟩) .highFirst .distance 3 (some 4) (some 7) 5 4
    (some ⟨10, 4⟩) true,
  romStamped 0x1006 16 3 (some ⟨3, 0x03, 4⟩) (some ⟨4, 2⟩) .lowFirst .time 4 (some 6) (some 10) 1 10
    (some ⟨14, 2⟩) false,
  romStamped 0x1007 20 2 (some ⟨2, 0x40, 0⟩) (some ⟨3, 1⟩) .highFirst .time 4 (some 4) (some 8) 3600 1
    (some ⟨12, 8⟩) true,
  romStamped 0x1008 6 2 none (some ⟨2, 1⟩) .lowFirst .time 3 none (some 3) 60 1 none true,
  romStamped 0x1009 24 3 (some ⟨3, 0x05, 6⟩) (some ⟨4, 2⟩) .highFirst .time 2 (some 6) (some 8) 180 1
    (some ⟨10, 14⟩) true,
  romStamped 0x100A 28 3 (some ⟨3, 0x01, 1⟩) (some ⟨4, 2⟩) .lowFirst .distance 4 (some 6) (some 10) 1 1
    (some ⟨14, 14⟩) false,
  romStamped 0x100B 9 2 (some ⟨2, 0x30, 2⟩) none .lowFirst .distance 3 none (some 3) 5 4 (some ⟨6, 3⟩) true,
  romPlain 0x100C 5 3 (some ⟨3, 0x01, 0⟩) (some ⟨4, 1⟩) .highFirst true]

/-- The profile a reference names; nothing for an empty loaded slot. -/
def Store.profile (st : Store) : ProfileRef → Option Profile
  | .rom n => some romProfiles[n]
  | .loaded n => st.loaded[n]

/-! ### The lookup (R79) -/

/-- The binding for a tag. -/
def Store.binding (st : Store) (tag : Word16) : Option Binding := st.bindings.find? (fun b => b.tag == tag)

/-- The lowest-numbered loaded slot whose profile has this tag. -/
def Store.loadedWithTag (st : Store) (tag : Word16) : Option (Fin 12) :=
  (List.finRange 12).find? (fun n =>
    match st.loaded[n] with
    | some p => p.tag == tag
    | none => false)

/-- The built-in profile with this tag: 0x1001..0x100C. -/
def romWithTag (tag : Word16) : Option (Fin 12) :=
  if h : 0x1001 ≤ tag.toNat ∧ tag.toNat ≤ 0x100C then some ⟨tag.toNat - 0x1001, by omega⟩ else none

/-- A lookup: the binding list first, then the loaded slots, then ROM; nothing where all three fail (R79). -/
def Store.lookup (st : Store) (tag : Word16) : Option Target :=
  match st.binding tag with
  | some b => some b.target
  | none =>
    match st.loadedWithTag tag with
    | some n => some (.profile (.loaded n))
    | none => (romWithTag tag).map (fun n => .profile (.rom n))

/-! ### The binding list (R74 to R77) -/

/-- The list with a binding inserted in ascending tag order, in place of one for the same tag. -/
def insertBinding (b : Binding) : List Binding → List Binding
  | [] => [b]
  | x :: xs =>
    if b.tag.toNat < x.tag.toNat then b :: x :: xs
    else if b.tag = x.tag then b :: xs
    else x :: insertBinding b xs

/-- The list without the binding for a tag. -/
def removeBinding (tag : Word16) (bs : List Binding) : List Binding := bs.filter (fun b => b.tag ≠ tag)

/-- Whether a binding names a profile. -/
def Binding.names (b : Binding) (ref : ProfileRef) : Bool := b.target == .profile ref

/-- The table with every entry whose resolution satisfies a condition returned to UNRESOLVED. -/
def unresolveWhere (p : Resolution → Bool) (table : Vector Entry 48) : Vector Entry 48 :=
  table.map (fun e => if p e.resolution then { e with resolution := .unresolved } else e)

/-- How many entries have a resolution that satisfies a condition. -/
def countResolution (p : Resolution → Bool) (table : Vector Entry 48) : Nat :=
  table.toList.countP (fun e => p e.resolution)

/-- Whether a resolution is RESOLVED to a reference. -/
def Resolution.resolvedTo (ref : ProfileRef) : Resolution → Bool
  | .resolved r _ => r == ref
  | _ => false

/-- Whether a resolution is DECLINED with a tag. -/
def Resolution.declinedWith (tag : Word16) : Resolution → Bool
  | .declined t => t == tag
  | _ => false

/-- The store and the table with a loaded slot released: its bindings removed, its entries returned to UNRESOLVED, the
slot emptied (R70 step 1, R72). -/
def State.releaseLoaded (s : State) (n : Fin 12) : State :=
  { s with
    store := { loaded := s.store.loaded.set n none, bindings := s.store.bindings.filter (fun b => !b.names (.loaded n)) }
    table := unresolveWhere (Resolution.resolvedTo (.loaded n)) s.table }

/-! ### Profiles in use (R73) -/

/-- Whether a channel's slot, not FREE, has this profile as its profile in use. -/
def State.slotUses (s : State) (c : Channel) (ref : ProfileRef) : Bool :=
  (s.slot c).state ≠ .free && (s.slot c).profile == some ref

/-- Whether some dialog slot has this profile in use. -/
def State.profileInUse (s : State) (ref : ProfileRef) : Bool := allChannels.any (fun c => s.slotUses c ref)

/-- The profile a slot decodes with. -/
def State.slotProfile (s : State) (c : Channel) : Option Profile :=
  match (s.slot c).profile with
  | some ref => s.store.profile ref
  | none => none

end Sys2Proof.Machine
end

