-- ==== Sys2Proof/Machine/Stamps.lean ====
section
/-! DEFINITION. The record decoder and stamp unit: from the bytes of a page to sightings (R85 to R90), with the six
stages of stamp normalisation (R94 to R99). -/

namespace Sys2Proof.Machine

/-- A sighting: the decoder's result for one record (R86). The state is ACTIVE or STORED; absent snapshot bytes are the
empty list. -/
structure Sighting where
  module : ModuleIndex
  code : Code
  state : RecordState
  severity : BitVec 2
  count : Word16
  stamps : Option Stamps
  predates : Bool
  refUnset : Bool
  snapshot : List Byte
  deriving DecidableEq, Repr

/-! ### Fields (R87 to R90) -/

/-- Bytes assembled with the first one the most significant. -/
def assembleHigh (bs : List Byte) : Nat := bs.foldl (fun n b => n * 256 + b.toNat) 0

/-- Bytes assembled with the first one the least significant. -/
def assembleLow (bs : List Byte) : Nat := bs.foldr (fun b n => b.toNat + 256 * n) 0

/-- Bytes assembled in a byte order (R87). -/
def assemble : ByteOrder → List Byte → Nat
  | .highFirst => assembleHigh
  | .lowFirst => assembleLow

/-- The bytes of a field of a record. -/
def fieldBytes (record : List Byte) (offset width : Nat) : List Byte := (record.drop offset).take width

/-- A field of a record, assembled. -/
def fieldValue (order : ByteOrder) (record : List Byte) (f : Field) : Nat :=
  assemble order (fieldBytes record f.offset f.width)

/-- The one byte of a record at an offset. -/
def byteAt (record : List Byte) (offset : Nat) : Byte := record.getD offset 0

/-- State and severity from the status field; ACTIVE and 0 without one (R88). -/
def decodeStatus (record : List Byte) : Option StatusField → RecordState × BitVec 2
  | none => (.active, 0)
  | some f =>
    let b := byteAt record f.offset
    (if b &&& f.mask = 0 then .stored else .active, BitVec.ofNat 2 ((b.toNat >>> f.shift) % 4))

/-- The reported count; 1 without a count field and for a value of 0 (R89). -/
def decodeCount (order : ByteOrder) (record : List Byte) : Option Field → Nat
  | none => 1
  | some f => max 1 (fieldValue order record f)

/-! ### Stamp normalisation (R94 to R99) -/

/-- The largest value of a width in bytes: all ones. -/
def allOnes (width : Nat) : Nat := 2 ^ (8 * width) - 1

/-- The module clock C: the four clock bytes assembled, mod 2^(8w) (R94). -/
def moduleClock (order : ByteOrder) (width : Nat) (k : ClockBytes) : Nat :=
  assemble order [k.b0, k.b1, k.b2, k.b3] % 2 ^ (8 * width)

/-- The reference R of a class with its set flag (R94). -/
def referenceOf (snap : RefSnapshot) : StampClass → Nat × Bool
  | .distance => (snap.d.toNat, snap.dSet)
  | _ => (snap.t.toNat, snap.tSet)

/-- The raw value of a present stamp: the profile gives its offset and it is not all ones (R96). -/
def rawStamp (order : ByteOrder) (record : List Byte) (width : Nat) : Option Nat → Option Nat
  | none => none
  | some o =>
    let v := assemble order (fieldBytes record o width)
    if v = allOnes width then none else some v

/-- The elapsed raw value E = (C - S) mod 2^(8w) (R96). -/
def elapsedRaw (width clock stamp : Nat) : Nat := (clock + 2 ^ (8 * width) - stamp) % 2 ^ (8 * width)

/-- The elapsed units U: the exact product divided and rounded down, at most 2^32 - 1 (R96). -/
def elapsedUnits (f : StampFields) (e : Nat) : Nat := min (2 ^ 32 - 1) (e * f.numerator / f.denominator)

/-- Stage 4: the normalised stamp, and whether the event lies before the reference's zero (R97). -/
def placeStamp (reference units : Nat) : Nat × Bool :=
  if units ≤ reference then (reference - units, false) else (0, true)

/-- Stages 1 to 4 for one stamp. -/
def normaliseStamp (order : ByteOrder) (record : List Byte) (f : StampFields) (clock reference : Nat)
    (offset : Option Nat) : Option (Nat × Bool) :=
  (rawStamp order record f.width offset).map
    (fun v => placeStamp reference (elapsedUnits f (elapsedRaw f.width clock v)))

/-- Stage 6: the pair completed; nothing when neither stamp is present (R99). -/
def completePair : Option (Nat × Bool) → Option (Nat × Bool) → Option (Nat × Nat × Bool)
  | none, none => none
  | some (v, p), none => some (v, v, p)
  | none, some (v, p) => some (v, v, p)
  | some (f, p), some (l, q) => some (min f l, l, p || q)

/-- The stamps of a record with PREDATES and REF_UNSET (R94 to R99). -/
def normalise (p : Profile) (snap : Option RefSnapshot) (record : List Byte) : Option Stamps × Bool × Bool :=
  match p.stamps, snap with
  | some f, some sn =>
    let clock := moduleClock p.byteOrder f.width sn.clock
    if clock = allOnes f.width then (none, false, false)
    else
      let (reference, isSet) := referenceOf sn p.stampClass
      let one := normaliseStamp p.byteOrder record f clock reference
      match completePair (one f.first) (one f.last) with
      | none => (none, false, false)
      | some (first, last, predates) =>
        (some ⟨p.stampClass, BitVec.ofNat 32 first, BitVec.ofNat 32 last⟩, predates, !isSet)
  | _, _ => (none, false, false)

/-! ### Records and pages (R85) -/

/-- The sighting of one record; nothing for an empty record, whose code is 0 (R87). -/
def decodeRecord (p : Profile) (snap : Option RefSnapshot) (m : ModuleIndex) (record : List Byte) : Option Sighting :=
  let code := fieldValue p.byteOrder record p.code
  if code = 0 then none
  else
    let (state, severity) := decodeStatus record p.status
    let (stamps, predates, refUnset) := normalise p snap record
    some
      { module := m, code := BitVec.ofNat 24 code, state, severity,
        count := BitVec.ofNat 16 (decodeCount p.byteOrder record p.count),
        stamps, predates, refUnset,
        snapshot := match p.snapshot with
          | some f => fieldBytes record f.offset f.width
          | none => [] }

/-- The first `n` records of a page, of `length` bytes each. -/
def pageRecords (length : Nat) : Nat → List Byte → List (List Byte)
  | 0, _ => []
  | n + 1, bs => bs.take length :: pageRecords length n (bs.drop length)

/-- The sightings of a page, in record order (R85). -/
def decodePage (p : Profile) (snap : Option RefSnapshot) (m : ModuleIndex) (bs : List Byte) : List Sighting :=
  (pageRecords p.recordLength (bs.length / p.recordLength) bs).filterMap (decodeRecord p snap m)

end Sys2Proof.Machine
end

