-- ==== Sys2Proof/Machine/HistoryTable.lean ====
section
/-! DEFINITION. The history table: numbering (R108), room and eviction (R110, R111), the three merges (R100 to R104, R114
to R117), the dialog's marks (R118, R119), reads and purges (R121, R123). -/

namespace Sys2Proof.Machine

/-- At most this many records are held (R110). -/
def maxRecords : Nat := 384

/-- The bytes of the snapshot pool (R110). -/
def poolSize : Nat := 3072

/-- The snapshot bytes of a list of records. -/
def snapshotBytes : List Record → Nat
  | [] => 0
  | r :: rs => r.snapshot.length + snapshotBytes rs

/-- The free pool: 3072 less the pool bytes in use (R110). -/
def History.freePool (h : History) : Nat := poolSize - h.poolUsed

/-- An eviction candidate: GONE and not UNREAD (R111). -/
def Record.isCandidate (r : Record) : Bool := r.state == .gone && !r.unread

/-- Whether a record is that of a module and a code (R105). -/
def Record.isOf (r : Record) (m : ModuleIndex) (code : Code) : Bool := r.module == m && r.code == code

/-- The record of a module and a code. -/
def History.find (h : History) (m : ModuleIndex) (code : Code) : Option Record :=
  h.records.find? (fun r => r.isOf m code)

/-- The records with every record of a number replaced. -/
def replaceRecord (r : Record) (rs : List Record) : List Record :=
  rs.map (fun x => if x.number = r.number then r else x)

/-- The number following a number: 1 after 0xFFFFFFFF (R108). -/
def nextNumber (n : Word32) : Word32 := if n = 0xFFFFFFFF then 1 else n + 1

/-- The first number from `n` on that no record holds, searched in `fuel` steps (R108). -/
def freeNumber (rs : List Record) : Nat → Word32 → Word32
  | 0, n => n
  | fuel + 1, n => if rs.any (fun r => r.number == n) then freeNumber rs fuel (nextNumber n) else n

/-- A record placed by its number (R109). -/
def insertRecord (r : Record) : List Record → List Record
  | [] => [r]
  | x :: xs => if r.number.toNat < x.number.toNat then r :: x :: xs else x :: insertRecord r xs

/-! ### Room (R111) -/

/-- Whether evicting every candidate would make room for a record with `need` snapshot bytes (R111, step 1). -/
def History.canMakeRoom (h : History) (need : Nat) : Bool :=
  let candidates := h.records.filter Record.isCandidate
  h.records.length - candidates.length < maxRecords
    && need ≤ poolSize - (h.poolUsed - snapshotBytes candidates)

/-- Candidates evicted in ascending number until fewer than 384 records are held and the free pool is at least `need`
(R111, step 2): the records left and the pool bytes left in use. `held` counts the records still held. -/
def evict (need : Nat) : Nat → Nat → List Record → List Record × Nat
  | _, pool, [] => ([], pool)
  | held, pool, r :: rs =>
    if held < maxRecords ∧ need ≤ poolSize - pool then (r :: rs, pool)
    else if r.isCandidate then evict need (held - 1) (pool - r.snapshot.length) rs
    else
      let (rest, pool') := evict need held pool rs
      (r :: rest, pool')

/-- The table with room made for a record with `need` snapshot bytes; nothing where the needs cannot be met (R111). -/
def History.makeRoom (h : History) (need : Nat) : Option History :=
  if h.canMakeRoom need then
    let (rs, pool) := evict need h.records.length h.poolUsed h.records
    some { h with records := rs, poolUsed := pool }
  else none

/-! ### The three merges -/

/-- A total held at 65 535 (R101). -/
def satTotal (n : Nat) : Word16 := BitVec.ofNat 16 (min 65535 n)

/-- A new record from a sighting (R104, R114). -/
def newRecord (sg : Sighting) (number : Word32) (sweepNumber : Word16) : Record :=
  { number, module := sg.module, code := sg.code, state := sg.state, severity := sg.severity,
    box := sg.count, total := sg.count, stamps := sg.stamps, unread := true, sighted := true,
    predates := sg.predates, refUnset := sg.refUnset, snapLost := false, sweepNumber, snapshot := sg.snapshot }

/-- A record created in a table that has room for it (R108, R114). -/
def History.create (h : History) (sg : Sighting) (sweepNumber : Word16) : History :=
  let n := freeNumber h.records (maxRecords + 1) h.next
  { records := insertRecord (newRecord sg n sweepNumber) h.records, next := nextNumber n,
    poolUsed := h.poolUsed + sg.snapshot.length }

/-- The new total at a first sighting (R101). -/
def mergedTotal (r : Record) (count : Word16) : Word16 :=
  if r.state = .gone then satTotal (r.total.toNat + count.toNat)
  else if r.box.toNat ≤ count.toNat then satTotal (r.total.toNat + (count.toNat - r.box.toNat))
  else satTotal (r.total.toNat + count.toNat)

/-- The lesser of two stamps. -/
def minStamp (x y : Word32) : Word32 := if x.toNat ≤ y.toNat then x else y

/-- The greater of two stamps. -/
def maxStamp (x y : Word32) : Word32 := if x.toNat ≤ y.toNat then y else x

/-- The stamps at a first sighting: record's side first (R102). -/
def mergedStamps : Option Stamps → Option Stamps → Option Stamps
  | none, sg => sg
  | some r, none => some r
  | some r, some g => if r.cls = g.cls then some ⟨r.cls, minStamp r.first g.first, maxStamp r.last g.last⟩ else some g

/-- The snapshot and SNAP_LOST at a first sighting, with this free pool (R115). -/
def mergedSnapshot (r : Record) (snapshot : List Byte) (free : Nat) : List Byte × Bool :=
  if r.state ≠ .gone then (r.snapshot, r.snapLost)
  else if snapshot = [] then ([], false)
  else if snapshot.length ≤ free + r.snapshot.length then (snapshot, false)
  else ([], true)

/-- UNREAD after a merge: set where a field other than UNREAD, SIGHTED and the sweep number has changed (R117). -/
def markChanged (before after : Record) : Record :=
  if { after with unread := before.unread, sighted := before.sighted, sweepNumber := before.sweepNumber } = before then
    { after with unread := before.unread }
  else { after with unread := true }

/-- A first sighting in the dialog merged into its record (R101, R102, R115). -/
def firstSighting (r : Record) (sg : Sighting) (free : Nat) (sweepNumber : Word16) : Record :=
  let (snapshot, snapLost) := mergedSnapshot r sg.snapshot free
  markChanged r
    { r with
      state := sg.state, severity := sg.severity, total := mergedTotal r sg.count, box := sg.count,
      stamps := mergedStamps r.stamps sg.stamps, predates := r.predates || sg.predates,
      refUnset := r.refUnset || sg.refUnset, snapLost, snapshot, sighted := true, sweepNumber }

/-- Whether a second sighting takes one of its stamps into the record (R103); none of another class (log entry 50). -/
def takesStamp : Option Stamps → Option Stamps → Bool
  | _, none => false
  | none, some _ => true
  | some r, some g => r.cls == g.cls && (g.first.toNat < r.first.toNat || r.last.toNat < g.last.toNat)

/-- The stamps at a second sighting (R103). Where the two sides carry stamps of different classes, which R103 takes never to
arise, the record keeps its own; that is the model's choice (log entry 50). -/
def widenedStamps : Option Stamps → Option Stamps → Option Stamps
  | none, sg => sg
  | some r, none => some r
  | some r, some g => if r.cls = g.cls then some ⟨r.cls, minStamp r.first g.first, maxStamp r.last g.last⟩ else some r

/-- A second sighting in the dialog merged into its record (R103, R116). -/
def secondSighting (r : Record) (sg : Sighting) : Record :=
  let takes := takesStamp r.stamps sg.stamps
  markChanged r
    { r with
      state := if r.state = .active ∨ sg.state = .active then .active else .stored,
      stamps := widenedStamps r.stamps sg.stamps,
      predates := r.predates || (takes && sg.predates), refUnset := r.refUnset || (takes && sg.refUnset) }

/-- What a merge reports to the sweep controller and the slot (R9, R111, R114 to R116). -/
inductive MergeReport where
  | created | updated | second | refused
  deriving DecidableEq, Repr

/-- A sighting merged into the table or refused (R100). -/
def History.merge (h : History) (sg : Sighting) (sweepNumber : Word16) : History × MergeReport :=
  match h.find sg.module sg.code with
  | some r =>
    if r.sighted then ({ h with records := replaceRecord (secondSighting r sg) h.records }, .second)
    else
      let r' := firstSighting r sg h.freePool sweepNumber
      ({ h with records := replaceRecord r' h.records,
                poolUsed := h.poolUsed - r.snapshot.length + r'.snapshot.length }, .updated)
  | none =>
    match h.makeRoom sg.snapshot.length with
    | some h' => (h'.create sg sweepNumber, .created)
    | none => (h, .refused)

/-! ### The dialog's marks (R118, R119) -/

/-- SIGHTED cleared on every record of a module (R118). -/
def History.clearSighted (h : History) (m : ModuleIndex) : History :=
  { h with records := h.records.map (fun r => if r.module = m then { r with sighted := false } else r) }

/-- SIGHTED cleared on every record (R118, engine reset). -/
def History.clearAllSighted (h : History) : History :=
  { h with records := h.records.map (fun r => { r with sighted := false }) }

/-- Whether a complete read of a module marks a record GONE (R119). -/
def Record.vanished (r : Record) (m : ModuleIndex) : Bool := r.module == m && !r.sighted && r.state ≠ .gone

/-- The vanished records of a module marked GONE, with how many they are (R119). -/
def History.markGone (h : History) (m : ModuleIndex) (sweepNumber : Word16) : History × Nat :=
  ({ h with
      records := h.records.map (fun r =>
        if r.vanished m then { r with state := .gone, unread := true, sweepNumber } else r) },
    h.records.countP (fun r => r.vanished m))

/-! ### Reads and removals (R121, R123, R63) -/

/-- Whether a record matches a filter (R121). -/
def Filter.accepts (f : Filter) (r : Record) : Bool :=
  match f with
  | .all => true
  | .unread => r.unread
  | .module m => r.module == m

/-- The records a reply carries, from the matching ones in order: at most `maximum` of them and at most `room` bytes;
with the first matching record not carried (R121). -/
def carry : Nat → Nat → List Record → List Record × Option Record
  | _, _, [] => ([], none)
  | 0, _, r :: _ => ([], some r)
  | maximum + 1, room, r :: rs =>
    if 26 + r.snapshot.length ≤ room then
      let (cs, left) := carry maximum (room - (26 + r.snapshot.length)) rs
      (r :: cs, left)
    else ([], some r)

/-- The records a HISTORY_READ carries, and its continuation number (R121). -/
def History.select (h : History) (start : Word32) (maximum : Nat) (f : Filter) : List Record × Word32 :=
  let matching := h.records.filter (fun r => start.toNat ≤ r.number.toNat && f.accepts r)
  let (cs, left) := carry maximum 244 matching
  (cs, match left with | some r => r.number | none => 0)

/-- UNREAD cleared on the records carried (R121). -/
def History.clearUnread (h : History) (carried : List Record) : History :=
  { h with records := h.records.map (fun r =>
      if carried.any (fun x => x.number == r.number) then { r with unread := false } else r) }

/-- The table without the records that satisfy a condition, their snapshot bytes released; with how many they are. -/
def History.removeWhere (h : History) (p : Record → Bool) : History × Nat :=
  ({ h with records := h.records.filter (fun r => !p r),
            poolUsed := h.poolUsed - snapshotBytes (h.records.filter p) },
    h.records.countP p)

/-- How many records a module has. -/
def History.countOf (h : History) (m : ModuleIndex) : Nat := h.records.countP (fun r => r.module == m)

end Sys2Proof.Machine
end

