-- ==== Sys2Proof/Machine/SweepControl.lean ====
section
/-! DEFINITION. The sweep controller: outcomes (R8), appends (R17, R18), the start of a sweep (R4, R5), its end (R12) and
the attention check (R19). -/

namespace Sys2Proof.Machine

/-! ### Outcomes (R8) -/

/-- The outcome of a module's turn written, its reached mark set, counted, and reported in a MODULE_END (R8, items 1 to
4). -/
def State.recordOutcome (s : State) (i : ModuleIndex) (o : SweepOutcome) (pages refused : Nat) : State :=
  let s := s.withEntry i { s.entry i with lastOutcome := some o, lastSweep := s.sweep.number }
  let w := s.sweep
  let s := s.withSweep
    { w with reached := w.reached.set i true, counts := w.counts.set o.index (satSucc 255 w.counts[o.index]) }
  s.notify (.moduleEnd i o pages refused)

/-- Whether a module pulsing now is appended: the sixth row of the table of R17, the rows before it not applying. -/
def State.appends (s : State) (i : ModuleIndex) : Bool :=
  let e := s.entry i
  let st := s.shareState e.channel
  s.sweep.state == .running && !s.listed i && !s.inSlot i && s.sweep.reached[i] && !s.sweep.appended[i]
    && st ≠ .silenced && st ≠ .standby && (!e.sleepy || s.sweep.options.includeSleepers)

/-- A module appended to its channel's work list where R17 appends it. -/
def State.weighAppend (s : State) (i : ModuleIndex) : State :=
  if s.appends i then
    let c := (s.entry i).channel
    let s := s.withWorkList c (s.workList c ++ [i])
    s.withSweep { s.sweep with appended := s.sweep.appended.set i true }
  else s

/-- The work list of a channel emptied, each module on it given ABORTED in list order (R10, R15). -/
def State.abortList (s : State) (c : Channel) : State :=
  (s.workList c).foldl (fun s i => s.recordOutcome i .aborted 0 0) (s.withWorkList c [])

/-! ### The start of a sweep (R4, R5) -/

/-- Whether an entry is in scope (R5, R19). -/
def State.inScope (s : State) (scope : Scope) (i : ModuleIndex) : Bool :=
  let e := s.entry i
  e.inUse &&
    (match scope with
     | .all => true
     | .channels a b l => match e.channel with | .a => a | .b => b | .s => l
     | .indices is => is.contains i
     | .attention => e.attention)

/-- Whether an entry in scope is given SKIPPED at the start (R5). -/
def State.skips (s : State) (i : ModuleIndex) : Bool :=
  let e := s.entry i
  s.shareState e.channel == .silenced || (e.sleepy && !s.sweep.options.includeSleepers)

/-- One entry in scope dealt with: given SKIPPED with its attention flag cleared, or appended to its channel's list
(R5). -/
def State.enlist (s : State) (i : ModuleIndex) : State :=
  let e := s.entry i
  if s.skips i then (s.withEntry i { e with attention := false }).recordOutcome i .skipped 0 0
  else s.withWorkList e.channel (s.workList e.channel ++ [i])

/-- The controller's state at the start of a sweep, before the lists are built (R4). -/
def Sweep.begin (w : Sweep) (kind : SweepKind) (options : SweepOptions) : Sweep :=
  { state := .running, number := w.number + 1, kind, options }

/-- A sweep started over a scope: the number advanced, the marks and counts cleared, the work lists built from the
entries in scope in ascending index (R4, R5). -/
def State.startSweep (s : State) (kind : SweepKind) (options : SweepOptions) (scope : Scope) : State :=
  (allModules.filter (s.inScope scope)).foldl State.enlist (s.withSweep (s.sweep.begin kind options))

/-! ### The end of a sweep (R12) and the attention check (R19) -/

/-- The end condition: a sweep exists, every work list is empty and every slot is FREE (R12). -/
def State.sweepDone (s : State) : Bool :=
  s.sweep.state ≠ .idle && allChannels.all (fun c => (s.workList c).isEmpty && (s.slot c).state == .free)

/-- SWEEP_END queued and the controller IDLE; halt taken, which speaks of the running sweep, is clear again (R1, R12; log
entry 54). -/
def State.endSweep (s : State) (reason : EndReason) : State :=
  let w := s.sweep
  (s.notify (.sweepEnd reason w.number w.kind w.counts w.created w.updated w.refused)).withSweep
    { w with state := .idle, haltTaken := false }

/-- Whether the attention check starts a sweep (R19). -/
def State.attentionDue (s : State) : Bool :=
  s.sweep.state == .idle && s.key.on && s.key.settled && s.setting .autoAttention == 1
    && allModules.any (fun i => (s.entry i).inUse && (s.entry i).attention)

/-- The attention check (R19). -/
def State.attentionCheck (s : State) : State :=
  if s.attentionDue then s.startSweep .attention s.defaultOptions .attention else s

/-- The end condition acted on: a sweep that is done ends, and after FINISHED the attention check runs, whose sweep may
end within its own start (R6). An attention sweep clears the flag of every entry it skips, so a third round never starts
another. -/
def State.settleSweep : Nat → State → State
  | 0, s => s
  | fuel + 1, s =>
    if s.sweepDone then
      if s.sweep.haltTaken then s.endSweep .halted
      else State.settleSweep fuel (s.endSweep .finished).attentionCheck
    else s

end Sys2Proof.Machine
end

