-- ==== Sys2Proof/Machine/Transmit.lean ====
section
/-! DEFINITION. Handing, withdrawing and cutting the frames of a slot (R23, R131, R142), and what a channel controller
does when its slot starts, parks or becomes FREE. -/

namespace Sys2Proof.Machine

/-! ### The line controller's own transitions -/

/-- The detector in RELEASE, its timer loaded when the line is idle (R151). -/
def Line.enterRelease (l : Line) : Line :=
  { l with detector := .release, release := match l.level with | .high => some 10 | .low => none }

/-- The receiver put OFF, a frame in SYNC or LOCKED discarded (R146). -/
def Line.receiverOff (l : Line) : Line :=
  { l with receiver := .off, measuredSpan := none, buffer := [], mustRest := false }

/-- The transmitter leaves IDLE to drive the line, which is idle no more (R142); the detector is SUPPRESSED (R151). -/
def Line.beginDriving (l : Line) (t : Transmitter) (f : TxFrame) : Line :=
  { l with
    transmitter := t, holding := none, driving := some f,
    driveRate := match f.dest with | .line _ r => some r | .can _ => none,
    detector := .suppressed, release := none, idleTime := 0 }

/-- The transmitter enters TURNAROUND with its timer loaded with so many bit times, and the receiver is OFF; a wake pattern's
time runs no more (R144, R147). -/
def Line.enterTurnaround (l : Line) (bits : Nat) : Line :=
  { l.receiverOff with transmitter := .turnaround, driving := none, wakeLeft := none, turnaround := some (5 * bits) }

/-- The transmitter returns to IDLE: the receiver hunts when its slot listens, and the detector enters RELEASE (R144,
R151). -/
def Line.transmitterIdle (l : Line) (listens : Bool) : Line :=
  { l.receiverOff with
    transmitter := .idle, turnaround := none, driveRate := none,
    receiver := if listens then .hunt else .off }.enterRelease

/-- The release of a wake pattern: TURNAROUND, and the stuck timer started when the line is LOW (R147, R148). -/
def Line.releaseWake (l : Line) (bits : Nat) : Line :=
  { l.enterTurnaround bits with stuckTimer := match l.level with | .low => some 200 | .high => none }

/-- What drives the line is cut: a frame in progress, or a wake pattern, ends in TURNAROUND (R142, R147). -/
def Line.cut (l : Line) (bits : Nat) : Line :=
  match l.transmitter with
  | .sending => l.enterTurnaround bits
  | .drivingWake => l.releaseWake bits
  | _ => l

/-! ### Handing (R23) -/

/-- Where a frame of the channel's slot goes: fixed by the bases in effect on CAN, by the entry's address and line rate
on line S (R23, R127). -/
def State.destination (s : State) (c : Channel) : Destination :=
  let e := (s.slotEntry c).getD {}
  match canOf c with
  | some k => .can ((s.canCtl k).requestBase + e.address)
  | none => .line e.address (e.lineRate.getD .r19200)

/-- The transmit holding of a channel with a frame put in. -/
def State.putHolding (s : State) (c : Channel) (f : TxFrame) : State :=
  match canOf c with
  | some k => s.withCan k { s.canCtl k with holding := .waiting f }
  | none => s.withLine { s.line with holding := some f }

/-- The next frame still to hand is handed when no frame handed earlier is unsent (R22, R23). -/
def State.handNext (s : State) (c : Channel) : State :=
  match s.waitingFrames c with
  | [] => s
  | f :: fs => if s.holdingEmpty c then (s.withWaitingFrames c fs).putHolding c f else s

/-- A frame of the slot handed, behind the frames it still has to hand (R23). That a request still to hand when a late answer
takes the slot on to a step with a request of its own is not dropped is the model's choice (log entry 57). -/
def State.hand (s : State) (c : Channel) (r : TxRequest) (earliest : Option Nat := none) : State :=
  (s.withWaitingFrames c (s.waitingFrames c ++ [{ request := r, dest := s.destination c, earliest }])).handNext c

/-- The wake of a module: an ASK_ID on CAN, the wake pattern on line S (R29). -/
def wakeRequest : Channel → TxRequest
  | .s => .wake
  | _ => .askId

/-! ### Withdrawing and cutting -/

/-- The frame that waits unstarted in the transmit holding of a channel withdrawn (R23). -/
def State.emptyHolding (s : State) (c : Channel) : State :=
  match canOf c with
  | some k =>
    match (s.canCtl k).holding with
    | .waiting _ => s.withCan k { s.canCtl k with holding := .empty }
    | _ => s
  | none => s.withLine { s.line with holding := none }

/-- The frames of a channel that have not started withdrawn (R23). -/
def State.withdraw (s : State) (c : Channel) : State := (s.withWaitingFrames c []).emptyHolding c

/-- Whether a frame is a request, or a wake, of the dialog that holds the slot; STAY and BYE are none (R23). -/
def TxFrame.isOwnRequest (f : TxFrame) : Bool :=
  f.own &&
    (match f.request with
     | .stay => false
     | .bye => false
     | _ => true)

/-- Whether a frame is the ERASE of the dialog that holds the slot. -/
def TxFrame.isOwnErase (f : TxFrame) : Bool := f.own && f.request == .erase

/-- The requests that the slot of a channel has still to hand dropped, and the frame that waits unstarted in the transmit
holding withdrawn where it is one to withdraw (R33, R42; log entry 57). -/
def State.dropRequests (s : State) (c : Channel) (held : TxFrame → Bool) : State :=
  let s := s.withWaitingFrames c ((s.waitingFrames c).filter (fun f => !f.isOwnRequest))
  match s.frameWaiting c with
  | some f => if held f then s.emptyHolding c else s
  | none => s

/-- A holding whose frame no longer belongs to its slot's dialog. -/
def Holding.disown : Holding → Holding
  | .empty => .empty
  | .waiting f => .waiting { f with own := false }
  | .inProgress f b => .inProgress { f with own := false } b

/-- A frame that no longer belongs to its slot's dialog. -/
def TxFrame.disown (f : TxFrame) : TxFrame := { f with own := false }

/-- Every frame of a channel left behind by its dialog (R44). -/
def State.disown (s : State) (c : Channel) : State :=
  let s := s.withWaitingFrames c ((s.waitingFrames c).map TxFrame.disown)
  match canOf c with
  | some k => s.withCan k { s.canCtl k with holding := (s.canCtl k).holding.disown }
  | none =>
    s.withLine
      { s.line with holding := s.line.holding.map TxFrame.disown, driving := s.line.driving.map TxFrame.disown }

/-- A frame in progress on CAN withdrawn, its attempt still on the bus left to its end (R131). -/
def Can.cut (k : Can) : Can :=
  match k.holding with
  | .inProgress _ onBus => { k with holding := .empty, orphan := k.orphan || onBus }
  | _ => k

/-- The frame in progress of a channel ended by a silence, key-off or engine reset (R131, R142, R147). -/
def State.cut (s : State) (c : Channel) : State :=
  match canOf c with
  | some k => s.withCan k (s.canCtl k).cut
  | none => s.withLine (s.line.cut (s.setting .turnaroundBits))

/-! ### The controller when its slot changes -/

/-- The bases in effect take the settings' values (R127). -/
def State.takeBases (s : State) (k : CanChannel) : State :=
  s.withCan k
    { s.canCtl k with
      requestBase := s.setting (requestBaseSetting k), responseBase := s.setting (responseBaseSetting k) }

/-- The slot of a channel stops listening: the tester hold is cleared (R130), the receiver of line S goes OFF (R146). -/
def State.stopListening (s : State) (c : Channel) : State :=
  match canOf c with
  | some k => s.withCan k { s.canCtl k with testerHold := none }
  | none => s.withLine s.line.receiverOff

/-- The slot of a channel becomes FREE, its context cleared (R21), and its controller's bases follow the settings
(R127). -/
def State.freeSlot (s : State) (c : Channel) : State :=
  let s := (s.withSlot c {}).stopListening c
  match canOf c with
  | some k => s.takeBases k
  | none => s

/-- Whether the part itself drives the line (R142, R147). -/
def Transmitter.drives : Transmitter → Bool
  | .idle => false
  | .sending => true
  | .drivingWake => true
  | .turnaround => false

/-- Whether the transmitter lets the receiver read the line: not in turnaround, nor while it drives a wake pattern (R144,
R147, R152). -/
def Transmitter.letsReceive : Transmitter → Bool
  | .idle => true
  | .sending => true
  | .drivingWake => false
  | .turnaround => false

/-- The receiver of line S hunts when its slot holds a module, where the transmitter lets it (R152; log entry 24). -/
def State.startListening (s : State) (c : Channel) : State :=
  match c with
  | .s => if s.line.transmitter.letsReceive then s.withLine { s.line with receiver := .hunt } else s
  | _ => s

end Sys2Proof.Machine
end

