-- ==== Sys2Proof/Machine/Dialog.lean ====
section
/-! DEFINITION. The readout dialog: the endings (R44, R50), parking and resume (R46 to R49), identity (R30 to R32),
referral (R33, R34), pages (R35 to R41), erasing (R42, R43) and the slot's timers (R25 to R28). -/

namespace Sys2Proof.Machine

/-! ### What the slot's surroundings allow at a boundary -/

/-- Whether a halt has been taken and the sweep has not ended (R14). -/
def State.halting (s : State) : Bool := s.sweep.state == .halting

/-- Whether a channel waits for its slot to park (R46). -/
def State.yieldPending (s : State) (c : Channel) : Bool := s.shareState c == .yieldPending

/-! ### Timers (R25, R27, R28) -/

/-- A slot with its response timer loaded and its hold-on count cleared (R25). -/
def Slot.loadResponse (x : Slot) (wait : Nat) : Slot := { x with response := some { left := wait * 10 }, holdOns := 0 }

/-- The response wait of the module in a channel's slot, in 10 ms. -/
def State.responseWait (s : State) (c : Channel) : Nat := ((s.slotEntry c).getD {}).responseWait

/-- The response timer of a slot loaded with its entry's response wait (R25). -/
def State.loadResponse (s : State) (c : Channel) : State := s.withSlot c ((s.slot c).loadResponse (s.responseWait c))

/-- A slot with its response timer stopped. -/
def Slot.stopResponse (x : Slot) : Slot := { x with response := none }

/-- A slot with its keep-awake timer restarted (R27). -/
def Slot.restartKeepAwake (x : Slot) (period : Nat) : Slot := { x with keepAwake := some ⟨period, period⟩ }

/-- A slot with its keep-awake timer running: started where it was stopped, on entering READING, REFERRED or ERASING (R27,
R33). On entering IDENTIFYING it starts when the ASK_ID has been sent (R29, R48; log entry 14). -/
def Slot.ensureKeepAwake (x : Slot) (period : Nat) : Slot :=
  match x.keepAwake with
  | some _ => x
  | none => x.restartKeepAwake period

/-- The length of a boot wait in ms (R28). -/
def bootWaitMs (e : Entry) : Nat :=
  match e.bootStep with
  | .fine => e.bootWait * 10
  | .coarse => e.bootWait * 250

/-! ### Endings (R44, R50) -/

/-- The outcome of a slot passed to the sweep controller, and the slot FREE; then the append of R18 weighed (R8, R44). -/
def State.passOutcome (s : State) (c : Channel) (o : SweepOutcome) : State :=
  let x := s.slot c
  match x.module with
  | none => s.freeSlot c
  | some i =>
    let s := (s.recordOutcome i o x.pagesRead x.refused).freeSlot c
    if (s.entry i).attention then s.weighAppend i else s

/-- A dialog ended with an outcome: BYE handed when the channel is OPEN, then the outcome passed (R44).
An ERASE that has not started is withdrawn, since the part sends ERASE only within a dialog (R42). DESIGN CHOICE: any other
request still to hand is dropped too, and one that waits in the transmit holding goes out before the BYE; R44 does not say it
(log entry 57). -/
def State.endDialog (s : State) (c : Channel) (o : SweepOutcome) : State :=
  let s := s.dropRequests c TxFrame.isOwnErase
  let s := if s.shareState c = .opened then s.hand c .bye else s
  (s.disown c).passOutcome c o

/-- A dialog aborted at once, its unstarted frames withdrawn, without BYE (R50). -/
def State.abortSlot (s : State) (c : Channel) : State :=
  if (s.slot c).state = .free then s else ((s.withdraw c).disown c).passOutcome c .aborted

/-! ### Parking and resume (R46, R48) -/

/-- A slot PARKED with a resume point (R46). The referral timer runs on. -/
def Slot.park (x : Slot) (r : ResumePoint) : Slot :=
  { x with
    state := .parked, sub := .asked, resume := r, attempt := 1, head := none, expected := 0, received := 0,
    outstanding := 0, staging := [], idAttempt := 1, holdOns := 0, response := none, boot := none, keepAwake := none }

/-- A channel's slot parked. -/
def State.park (s : State) (c : Channel) (r : ResumePoint) : State :=
  (s.withSlot c ((s.slot c).park r)).stopListening c

/-- The resume point of a slot that parks before an identity reply is accepted: the one it already holds where its
dialog has one accepted earlier (R46). -/
def Slot.identityResume (x : Slot) : ResumePoint := if x.identified then x.resume else .identify

/-- The resume point of a slot that parks at a boundary: that of the step its next request belongs to (R46). -/
def Slot.boundaryResume (x : Slot) : ResumePoint :=
  match x.state with
  | .referred => .refer
  | .reading => .page
  | .erasing => .erase
  | _ => x.identityResume

/-- A parked slot resumed with an ASK_ID and no wake (R48). -/
def State.resumeSlot (s : State) (c : Channel) : State :=
  if (s.slot c).state = .parked then
    ((s.withSlot c { s.slot c with state := .identifying, idAttempt := 1 }).startListening c).hand c .askId
  else s

/-! ### Asking pages and erasing (R32, R41, R42) -/

/-- The slot enters READING for a page: ASK_PAGE is handed; at a boundary under a halt the dialog ends ABORTED, and on a
yielding channel the slot parks (R14, R32, R41, R46). -/
def State.enterPage (s : State) (c : Channel) (page : Nat) : State :=
  let s := s.withSlot c { s.slot c with page }
  if s.halting then s.endDialog c .aborted
  else if s.yieldPending c then s.park c .page
  else
    let x := s.slot c
    let x := { x with state := .reading, sub := .asked, attempt := 1 }
    (s.withSlot c (x.ensureKeepAwake (s.setting .keepAwakePeriod))).hand c (.askPage page)

/-- The erase decision (R42). -/
def State.eraseDue (s : State) (c : Channel) : Bool :=
  let x := s.slot c
  s.sweep.options.eraseAfter
    && (match s.slotProfile c with | some p => p.eraseAllowed | none => false)
    && x.eraseCapable && x.refused == 0 && !s.sweep.haltTaken

/-- An erase that is due: ERASE handed, or the slot parked on a yielding channel (R42). -/
def State.enterErase (s : State) (c : Channel) : State :=
  if s.yieldPending c then s.park c .erase
  else
    let x := { s.slot c with state := .erasing, sub := .asked }
    (s.withSlot c (x.ensureKeepAwake (s.setting .keepAwakePeriod))).hand c .erase

/-- What follows a complete read: the erase, or the end COMPLETE or STORE_FULL (R41). -/
def State.afterCompleteRead (s : State) (c : Channel) : State :=
  if s.eraseDue c then s.enterErase c
  else s.endDialog c (if (s.slot c).refused = 0 then .complete else .storeFull)

/-! ### Settling the profile (R32, R34, R49) -/

/-- The resolution of the module in a channel's slot written (R54). -/
def State.resolve (s : State) (c : Channel) (r : Resolution) : State :=
  match (s.slot c).module with
  | some i => s.withEntry i { s.entry i with resolution := r }
  | none => s

/-- A profile found: it becomes the profile in use, the referral timer stops, and page 0 is asked (R32, R34). -/
def State.settleFound (s : State) (c : Channel) (ref : ProfileRef) : State :=
  (s.withSlot c { s.slot c with profile := some ref, referral := none }).enterPage c 0

/-- The slot in REFERRED on an OPEN channel, its keep-awake timer running. It sends no request there (R33), so that those not
yet started are withdrawn (log entry 57). -/
def State.enterReferred (s : State) (c : Channel) (x : Slot) : State :=
  (s.withSlot c (x.ensureKeepAwake (s.setting .keepAwakePeriod))).dropRequests c TxFrame.isOwnRequest

/-- Nothing found: the entry is UNRESOLVED, REFERRAL is queued, and the slot waits with a new referral timer (R33,
R81). -/
def State.refer (s : State) (c : Channel) (tag : Word16) : State :=
  let s := s.resolve c .unresolved
  let s := match (s.slot c).module with
    | some i => s.notify (.referral i tag)
    | none => s
  let x := { s.slot c with state := .referred, sub := .asked, referral := some (s.setting .referralTimeout * 1000) }
  if s.halting then (s.withSlot c x).endDialog c .aborted
  else if s.yieldPending c then (s.withSlot c x).park c .refer
  else s.enterReferred c x

/-- The profile settled by a lookup (R32, R79). -/
def State.settleLookup (s : State) (c : Channel) (tag : Word16) : State :=
  match s.store.lookup tag with
  | some (.profile ref) => (s.resolve c (.resolved ref tag)).settleFound c ref
  | some .decline => (s.resolve c (.declined tag)).endDialog c .unsupported
  | none => s.refer c tag

/-- The profile settled by comparing the reported tag with the entry's resolution: the quick path, an unchanged decline,
or the lookup (R32, R80). -/
def State.settleProfile (s : State) (c : Channel) (tag : Word16) : State :=
  match ((s.slotEntry c).getD {}).resolution with
  | .resolved ref t => if t = tag then s.settleFound c ref else s.settleLookup c tag
  | .declined t => if t = tag then s.endDialog c .unsupported else s.settleLookup c tag
  | .unresolved => s.settleLookup c tag

/-- A resumed dialog at resume point REFER whose tag is unchanged: the lookup is redone, and where it finds nothing the
slot returns to its wait with its timer running on and no new REFERRAL (R49). -/
def State.resumeRefer (s : State) (c : Channel) (tag : Word16) : State :=
  match s.store.lookup tag with
  | some (.profile ref) => (s.resolve c (.resolved ref tag)).settleFound c ref
  | some .decline => (s.resolve c (.declined tag)).endDialog c .unsupported
  | none =>
    let s := s.resolve c .unresolved
    if s.halting then s.endDialog c .aborted
    else if s.yieldPending c then s.park c .refer
    else s.enterReferred c { s.slot c with state := .referred, sub := .asked }

/-- How a resumed dialog goes on from its resume point (R49). `same` says that the reported tag equals the dialog's. -/
def State.settleResumed (s : State) (c : Channel) (tag : Word16) (same : Bool) : State :=
  let x := s.slot c
  match x.resume with
  | .identify => s.settleProfile c tag
  | .refer =>
    if same then s.resumeRefer c tag
    else (s.withSlot c { x with referral := none }).settleProfile c tag
  | .page =>
    if s.halting then s.endDialog c .aborted
    else if same then s.enterPage c x.page
    else s.endDialog c .partialRead
  | .erase =>
    if s.halting then s.endDialog c .aborted
    else if same && s.eraseDue c then s.enterErase c
    else s.endDialog c .complete

/-- A waiting slot woken by the profile store: its lookup redone (R34, R47, R82). -/
def State.wakeSlot (s : State) (c : Channel) (tag : Word16) : State :=
  let x := s.slot c
  if x.waitsOnReferral && x.tag == some tag then
    match s.store.lookup tag with
    | some (.profile ref) =>
      let s := s.resolve c (.resolved ref tag)
      if x.state = .parked then
        s.withSlot c { x with profile := some ref, referral := none, resume := .page, page := 0 }
      else s.settleFound c ref
    | some .decline => (s.resolve c (.declined tag)).endDialog c .unsupported
    | none => s
  else s

/-- Every slot that waits on a tag woken, in the order A, B, S (R82). -/
def State.wakeWaiting (s : State) (tag : Word16) : State := allChannels.foldl (fun s c => s.wakeSlot c tag) s

/-! ### Identity (R29 to R31) -/

/-- The outcome of a dialog whose identity fails: after an earlier accepted reply COMPLETE at resume point ERASE and
PARTIAL otherwise; else the outcome given (R30, R48). -/
def Slot.identityFailure (x : Slot) (o : SweepOutcome) : SweepOutcome :=
  if x.identified then (if x.resume = .erase then .complete else .partialRead) else o

/-- Another identity attempt (R30): ASK_ID again, or the wake again for a sleepy module; on CAN no earlier than one
effective gap after the expiry (R132). -/
def State.nextIdentityAttempt (s : State) (c : Channel) : State :=
  let x := s.slot c
  let earliest := (canOf c).map (fun k => (s.canCtl k).effectiveGap)
  if ((s.slotEntry c).getD {}).sleepy then
    (s.withSlot c { x with state := .waking, idAttempt := x.idAttempt + 1, keepAwake := none }).hand c (wakeRequest c)
      earliest
  else (s.withSlot c { x with idAttempt := x.idAttempt + 1 }).hand c .askId earliest

/-- The expired wait of an ASK_ID (R30, R46, R48). -/
def State.identityExpired (s : State) (c : Channel) : State :=
  let s := s.withSlot c (s.slot c).stopResponse
  let x := s.slot c
  if s.halting then s.endDialog c .aborted
  else if x.idAttempt < 1 + ((s.slotEntry c).getD {}).retries then
    if s.yieldPending c then s.park c x.identityResume else s.nextIdentityAttempt c
  else s.endDialog c (x.identityFailure .noAnswer)

/-- The end of the boot wait (R29, R46). -/
def State.bootExpired (s : State) (c : Channel) : State :=
  let s := s.withSlot c { s.slot c with boot := none }
  if (s.slot c).state ≠ .waking then s
  else if s.halting then s.endDialog c .aborted
  else if s.yieldPending c then s.park c (s.slot c).identityResume
  else (s.withSlot c { s.slot c with state := .identifying }).hand c .askId

/-- The boot timer loaded when a wake has been delivered; a boot wait of 0 expires at once (R28). -/
def State.loadBoot (s : State) (c : Channel) : State :=
  let n := bootWaitMs ((s.slotEntry c).getD {})
  if n = 0 then s.bootExpired c else s.withSlot c { s.slot c with boot := some n }

/-- Whether a slot takes an identity reply: IDENTIFYING, or WAKING on CAN (R24). -/
def Slot.takesIdentity (x : Slot) (c : Channel) : Bool :=
  x.state == .identifying || (x.state == .waking && c ≠ .s)

/-- The reference snapshot taken now with these clock bytes (R31, R94). -/
def Clock.snapshot (k : Clock) (clock : ClockBytes) : RefSnapshot :=
  { t := k.t, tSet := k.tSet, d := k.d, dSet := k.dSet, clock }

/-- An identity reply accepted (R31, R49). -/
def State.acceptIdentity (s : State) (c : Channel) (tag : Word16) (clock : ClockBytes) (flags : Byte) : State :=
  let x := s.slot c
  let s := s.withSlot c
    { x with
      response := none, boot := none, tag := some tag, eraseCapable := bit flags 0,
      snapshot := some (s.clock.snapshot clock), identified := true }
  if x.identified then s.settleResumed c tag (x.tag == some tag)
  else
    let s := match x.module with
      | some i => s.withHistory (s.history.clearSighted i)
      | none => s
    s.settleProfile c tag

/-- An ID_REPLY as the slot takes it: ignored where the slot awaits none, and where its tag is malformed (R24, R30). -/
def State.onIdReply (s : State) (c : Channel) (tag : Word16) (clock : ClockBytes) (flags : Byte) : State :=
  if (s.slot c).takesIdentity c && tagOk tag then s.acceptIdentity c tag clock flags else s

/-! ### Pages (R35 to R41) -/

/-- A slot with its page attempt's staging, page head and segment counts cleared (R39, R40). R39 names no segments expected;
that a failed attempt returns them to 0 too is the model's choice (log entry 48). -/
def Slot.clearPage (x : Slot) : Slot :=
  { x with staging := [], head := none, expected := 0, received := 0, outstanding := 0 }

/-- A failed page attempt (R39; under a halt R14, on a yielding channel R46). -/
def State.failAttempt (s : State) (c : Channel) : State :=
  let s := s.withSlot c (s.slot c).stopResponse
  let x := s.slot c
  if s.halting then s.endDialog c .aborted
  else if x.attempt ≠ 1 then s.endDialog c .partialRead
  else if s.yieldPending c then s.park c .page
  else (s.withSlot c { x.clearPage with attempt := 2, sub := .asked }).hand c (.askPage x.page)

/-- What a merge reports counted by the sweep controller and the slot (R9, R40). -/
def State.countMerge (s : State) (c : Channel) : MergeReport → State
  | .created => s.withSweep { s.sweep with created := satSucc 65535 s.sweep.created }
  | .updated => s.withSweep { s.sweep with updated := satSucc 65535 s.sweep.updated }
  | .second => s
  | .refused =>
    (s.withSweep { s.sweep with refused := satSucc 65535 s.sweep.refused }).withSlot c
      { s.slot c with refused := (s.slot c).refused + 1 }

/-- A sighting merged into the history table or refused (R40, R100). -/
def State.mergeSighting (c : Channel) (s : State) (sg : Sighting) : State :=
  let (h, report) := s.history.merge sg s.sweep.number
  (s.withHistory h).countMerge c report

/-- The sightings of a page merged, and the page counted as read (R40). -/
def State.mergePage (s : State) (c : Channel) (p : Profile) (i : ModuleIndex) : State :=
  let x := s.slot c
  let s := (decodePage p x.snapshot i x.staging).foldl (State.mergeSighting c) s
  s.withSlot c { (s.slot c).clearPage with pagesRead := (s.slot c).pagesRead + 1, attempt := 1 }

/-- The vanished records of the slot's module marked GONE at a complete read, each an update (R9, R41, R119). -/
def State.markGone (s : State) (i : ModuleIndex) : State :=
  let (h, n) := s.history.markGone i s.sweep.number
  (s.withHistory h).withSweep { s.sweep with updated := min 65535 (s.sweep.updated + n) }

/-- What follows the commit of a page (R41). -/
def State.afterCommit (s : State) (c : Channel) (i : ModuleIndex) (more : Bool) : State :=
  let x := s.slot c
  if more then
    if x.page < 31 then s.enterPage c (x.page + 1)
    else if s.halting then s.endDialog c .aborted
    else s.endDialog c .partialRead
  else (s.markGone i).afterCompleteRead c

/-- The page sum checked, and the page committed where it matches (R40). -/
def State.checkSum (s : State) (c : Channel) : State :=
  let x := s.slot c
  match x.head, x.module, s.slotProfile c with
  | some h, some i, some p =>
    if sum16 x.staging = h.sum then (s.mergePage c p i).afterCommit c i h.more else s.failAttempt c
  | _, _, _ => s.failAttempt c

/-- The segments a page of this length needs on a channel (R36). -/
def segmentsFor (c : Channel) (length : Nat) : Nat := (length + segmentCapacity c - 1) / segmentCapacity c

/-- The page bytes that segment `j` carries (R36). -/
def segmentLength (c : Channel) (length j : Nat) : Nat := min (segmentCapacity c) (length - j * segmentCapacity c)

/-- A draw burst started: DRAW(k) handed for the segments the page still needs, at most DRAW_SIZE (R37). -/
def State.startBurst (s : State) (c : Channel) : State :=
  let x := s.slot c
  let k := min (s.setting .drawSize) (x.expected - x.received)
  (s.withSlot c { x with sub := .drawing, outstanding := k }).hand c (.draw k)

/-- The next burst, or at a boundary the end under a halt or the park on a yielding channel (R14, R37, R46). -/
def State.nextBurst (s : State) (c : Channel) : State :=
  if s.halting then s.endDialog c .aborted
  else if s.yieldPending c then s.park c .page
  else s.startBurst c

/-- Whether a page head passes the four checks of R35 for a page and a profile. -/
def headPasses (p : Profile) (page : Nat) (n count length : Nat) : Bool :=
  n == page && count ≤ 16 && length == count * p.recordLength && length ≤ 512

/-- A PAGE_HEAD as the slot takes it in READING, ASKED (R24, R35). -/
def State.onPageHead (s : State) (c : Channel) (n count : Nat) (length : Nat) (more : Bool) (sum : Word16) : State :=
  let x := s.slot c
  if x.state = .reading ∧ x.sub = .asked then
    match s.slotProfile c with
    | none => s.failAttempt c
    | some p =>
      if headPasses p x.page n count length then
        let x := { x.stopResponse with
          head := some { count, length, more, sum }, expected := segmentsFor c length, received := 0, outstanding := 0,
          staging := [] }
        let s := s.withSlot c x
        if x.expected = 0 then s.checkSum c else s.nextBurst c
      else s.failAttempt c
  else s

/-- Whether a segment is the next one the page needs: its index and its length (R38). -/
def Slot.segmentFits (x : Slot) (c : Channel) (index : BitVec 3) (data : List Byte) : Bool :=
  index.toNat == x.received % 8
    && data.length == segmentLength c (match x.head with | some h => h.length | none => 0) x.received

/-- A segment accepted (R38). -/
def Slot.takeSegment (x : Slot) (data : List Byte) : Slot :=
  { x with staging := x.staging ++ data, received := x.received + 1, outstanding := x.outstanding - 1 }

/-- A SEGMENT as the slot takes it in READING, DRAWING, once its DRAW has been sent (R24, R38; log entry 32). -/
def State.onSegment (s : State) (c : Channel) (index : BitVec 3) (data : List Byte) : State :=
  let x := s.slot c
  if x.state = .reading ∧ x.sub = .drawing ∧ 0 < x.outstanding ∧ x.response.isSome then
    if x.segmentFits c index data then
      let x := x.takeSegment data
      if 0 < x.outstanding then (s.withSlot c x).loadResponse c
      else
        let s := s.withSlot c x.stopResponse
        if x.received = x.expected then s.checkSum c else s.nextBurst c
    else s.failAttempt c
  else s

/-! ### HOLD_ON, DENY and ERASE_DONE (R24, R26, R43) -/

/-- The response timer extended by a HOLD_ON: at least n × 10 ms more, at most 5000 ms after the wait began (R26). -/
def ResponseTimer.extend (t : ResponseTimer) (n : Nat) : ResponseTimer :=
  { t with left := min (max t.left (n * 10)) (5000 - t.since) }

/-- A HOLD_ON as the slot takes it (R24, R26). -/
def State.onHoldOn (s : State) (c : Channel) (n : Nat) : State :=
  let x := s.slot c
  match x.response with
  | none => s
  | some t =>
    if (x.state = .identifying ∨ x.state = .reading ∨ x.state = .erasing) ∧ n ≠ 0 ∧ x.holdOns < 8 then
      s.withSlot c { x with response := some (t.extend n), holdOns := x.holdOns + 1 }
    else s

/-- A DENY as the slot takes it (R24, R30, R39, R43, R48; under a halt R14). -/
def State.onDeny (s : State) (c : Channel) : State :=
  let x := s.slot c
  match x.state with
  | .identifying => s.endDialog c (x.identityFailure .denied)
  | .waking => if c ≠ .s then s.endDialog c (x.identityFailure .denied) else s
  | .reading => s.endDialog c (if s.halting then .aborted else .partialRead)
  | .erasing => s.endDialog c .eraseDenied
  | .free => s
  | .referred => s
  | .parked => s

/-- An ERASE_DONE as the slot takes it (R24, R43). -/
def State.onEraseDone (s : State) (c : Channel) : State :=
  if (s.slot c).state = .erasing then s.endDialog c .erased else s

/-- A service delivered to the slot of a channel (R24). -/
def State.deliver (s : State) (c : Channel) : Service → State
  | .idReply tag clock flags => s.onIdReply c tag clock flags
  | .pageHead page count length flags sum =>
    s.onPageHead c page.toNat count.toNat length.toNat (bit flags 0) sum
  | .segment index data => s.onSegment c index data
  | .holdOn n => s.onHoldOn c n.toNat
  | .deny _ => s.onDeny c
  | .eraseDone => s.onEraseDone c

/-! ### Expiries of the slot's timers and frames sent -/

/-- The expired wait of the slot's request (R25, R30, R39, R43). -/
def State.waitExpired (s : State) (c : Channel) : State :=
  match (s.slot c).state with
  | .identifying => s.identityExpired c
  | .reading => s.failAttempt c
  | .erasing => s.endDialog c .eraseDenied
  | _ => s.withSlot c (s.slot c).stopResponse

/-- The expiry of the response timer, while it runs (R25). -/
def State.responseExpired (s : State) (c : Channel) : State :=
  match (s.slot c).response with
  | some _ => s.waitExpired c
  | none => s

/-- The expiry of the keep-awake timer, while it runs: it reloads, and a STAY is handed when the channel is OPEN and no
frame of the slot waits unsent (R27). -/
def State.keepAwakeExpired (s : State) (c : Channel) : State :=
  match (s.slot c).keepAwake with
  | none => s
  | some t =>
    let s := s.withSlot c { s.slot c with keepAwake := some { t with left := t.period } }
    if s.shareState c = .opened ∧ s.holdingEmpty c ∧ s.waitingFrames c = [] then s.hand c .stay else s

/-- The expiry of the referral timer, while it runs: the dialog ends UNRESOLVED (R34, R47, R48). -/
def State.referralExpired (s : State) (c : Channel) : State :=
  match (s.slot c).referral with
  | some _ => s.endDialog c .unresolved
  | none => s

/-- Whether a sent frame restarts the keep-awake timer: every frame to the module while the timer may run; a STAY only
while it does (R27). -/
def Slot.restartsKeepAwake (x : Slot) (r : TxRequest) : Bool :=
  match r with
  | .bye => false
  | .wake => false
  | .stay => x.keepAwake.isSome
  | _ => x.state == .identifying || x.state == .referred || x.state == .reading || x.state == .erasing

/-- What a sent frame does to its slot: the keep-awake timer restarted, and the wait or the boot wait of the awaited
request begun (R25, R27, R28). -/
def State.slotFrameSent (s : State) (c : Channel) (f : TxFrame) : State :=
  if f.own then
    let x := s.slot c
    let s := if x.restartsKeepAwake f.request then
        s.withSlot c (x.restartKeepAwake (s.setting .keepAwakePeriod)) else s
    if x.awaits f.request then
      if x.state = .waking then s.loadBoot c else s.loadResponse c
    else s
  else s

/-- What an abandoned frame does to slot S: the expiry of the wait for the request it began (R23, R143). -/
def State.slotFrameAbandoned (s : State) (f : TxFrame) : State :=
  if f.own && (s.slot .s).awaits f.request then s.waitExpired .s else s

/-! ### The start of a dialog (R7, R22) -/

/-- Whether a slot takes the head of its list now (R7). -/
def State.mayStart (s : State) (c : Channel) : Bool :=
  s.sweep.state == .running && (s.slot c).state == .free && s.shareState c == .opened

/-- A slot starts a dialog with a module: its attention flag cleared, its wake or its ASK_ID handed (R22). -/
def State.startDialog (s : State) (c : Channel) (i : ModuleIndex) : State :=
  let e := s.entry i
  let s := s.withEntry i { e with attention := false }
  if e.sleepy then
    ((s.withSlot c { state := .waking, module := some i }).startListening c).hand c (wakeRequest c)
  else ((s.withSlot c { state := .identifying, module := some i }).startListening c).hand c .askId

/-! ### A halt (R14) -/

/-- What a halt does to one slot (R14). A slot in ERASING whose ERASE has not started ends ABORTED, as every other case
does; that is the model's choice (log entry 47). -/
def State.haltSlot (s : State) (c : Channel) : State :=
  match (s.slot c).state with
  | .free => s
  | .parked => s.endDialog c .aborted
  | .referred => (s.withdraw c).endDialog c .aborted
  | _ =>
    let s := s.withdraw c
    if s.inExchange c then s else s.endDialog c .aborted

end Sys2Proof.Machine
end

