-- ==== Sys2Proof/Machine/ShareUnit.lean ====
section
/-! DEFINITION. The chassis share unit: yielding (R156), reopening (R157), silence (R158, R159), standby (R162), wake
(R163), the engine reset (R164, with R16, R51, R118, R126, R139), and what every step settles before it ends. -/

namespace Sys2Proof.Machine

/-! ### Yield and return (R156, R157) -/

/-- A YIELDED channel without a yield trigger returns to OPEN: RESUMED is queued and a parked slot resumes (R157). -/
def State.reopenIfClear (s : State) (c : Channel) : State :=
  if s.shareState c = .yielded ∧ !s.yieldTrigger c then
    ((s.withShareState c .opened).notify (.channelEvent c .resumed none)).resumeSlot c
  else s

/-- A channel lets go of its bus: a CAN frame in progress is not attempted again and leaves the holding empty; what is on a
bus or on line S at that moment runs to its end (R131, R138; log entry 12). -/
def State.letGo (s : State) (c : Channel) : State :=
  match canOf c with
  | some k => s.withCan k (s.canCtl k).cut
  | none => s

/-- A channel enters YIELDED: no frame of the part is left in its holding (R138), its notice is queued, and where no trigger
is present it passes straight through (R156, R157). -/
def State.enterYielded (s : State) (c : Channel) : State :=
  (((s.letGo c).withShareState c .yielded).notify (.channelEvent c .yielded none)).reopenIfClear c

/-- A yield started on an OPEN channel: YIELDED at once when the slot is FREE, and when it is at a boundary and so parks at
once; otherwise YIELD_PENDING (R46, R156). -/
def State.startYield (s : State) (c : Channel) : State :=
  let s := s.withdraw c
  if (s.slot c).state = .free then s.enterYielded c
  else if s.inExchange c then s.withShareState c .yieldPending
  else (s.park c (s.slot c).boundaryResume).enterYielded c

/-- A channel in YIELD_PENDING whose slot is PARKED or FREE goes to YIELDED (R156). -/
def State.yieldSettle (s : State) (c : Channel) : State :=
  if s.shareState c = .yieldPending ∧ ((s.slot c).state = .free ∨ (s.slot c).state = .parked) then s.enterYielded c
  else s

/-! ### Silence (R158, R159) -/

/-- A channel taken to SILENCED with one cause (R158), and the steps of R159 in order. -/
def State.enterSilence (s : State) (c : Channel) (cause : Cause) : State :=
  let s := s.withShareOf c { s.shareOf c with state := .silenced, causes := ({} : Causes).add cause }
  let s := ((s.withdraw c).cut c).abortSlot c
  let s := if s.sweep.state = .running then s.abortList c else s
  s.notify (.channelEvent c .silenced (some cause))

/-- A silence trigger (R158): a SILENCED channel gains a new cause, a channel in STANDBY does not change. -/
def State.silence (s : State) (c : Channel) (cause : Cause) : State :=
  match s.shareState c with
  | .standby => s
  | .silenced =>
    if (s.shareOf c).causes.has cause then s
    else
      (s.withShareOf c { s.shareOf c with causes := (s.shareOf c).causes.add cause }).notify
        (.channelEvent c .silenced (some cause))
  | _ => s.enterSilence c cause

/-! ### Trigger occurrences (R154, R156, R158) -/

/-- A release hold timer loaded afresh (R154). -/
def State.loadHold (s : State) (c : Channel) : State :=
  s.withShareOf c { s.shareOf c with hold := some (s.setting .releaseHold) }

/-- A trigger occurrence of a channel: the release hold loaded, then a silence under action SILENCE, or a yield on an
OPEN channel (R154, R156, R158). -/
def State.triggerOccurs (s : State) (c : Channel) : State :=
  let s := s.loadHold c
  if s.testerSilences c then s.silence c .tester
  else if s.shareState c = .opened then s.startYield c
  else s

/-! ### What a step settles before it ends -/

/-- Yields that have reached their boundary (R156), the end of a sweep (R12, R19), and the two outputs (R160). -/
def State.closeStep (s : State) : State :=
  ((allChannels.foldl State.yieldSettle s).settleSweep 3).recomputeOutputs

/-! ### The channel controllers at standby and engine reset -/

/-- The transmitter of line S at key-off and engine reset: what it drives is cut or released, and a turnaround under way
is stopped (R139, R142, R147; log entry 22). -/
def Line.standDown (l : Line) (bits : Nat) : Line :=
  match l.transmitter with
  | .idle => l
  | .sending => l.cut bits
  | .drivingWake => l.cut bits
  | .turnaround => l.transmitterIdle false

/-- The frame in progress of a channel ended at key-off and engine reset (R131, R139). -/
def State.standDown (s : State) (c : Channel) : State :=
  match canOf c with
  | some _ => s.cut c
  | none => s.withLine (s.line.standDown (s.setting .turnaroundBits))

/-- The load meter stopped, its counts and verdicts cleared (R126, R134, R138). -/
def Can.stopMeter (k : Can) : Can :=
  { k with window := none, windowCount := 0, lastWindow := 0, verdict := .quiet, verdictPending := none }

/-- A fresh load window with verdict QUIET, where the controller is on line (R134, R138). That a verdict pending from before
is dropped, where the meter had not stopped, is the model's choice (log entry 43). -/
def Can.freshWindow (k : Can) : Can :=
  if k.onLine then { k with window := some 100, windowCount := 0, verdict := .quiet, verdictPending := none } else k

/-- A CAN controller at key-off, its holding already emptied (R126, R137, R138). -/
def Can.atKeyOff (k : Can) (pace : Nat) : Can :=
  { k.stopMeter with
    errorState := .active, transmitErrors := 0, receiveErrors := 0, idleSequences := 0, gap := none, pace,
    pacePending := none, testerHold := none }

/-- A CAN channel's controller put into standby: its bases follow the settings (R138). -/
def State.canStandby (s : State) (k : CanChannel) : State :=
  (s.withCan k ((s.canCtl k).atKeyOff (s.setting (paceSetting k)))).takeBases k

/-- The line controller at key-off, what it drove already cut (R139, R152). -/
def Line.atKeyOff (l : Line) : Line := { l.receiverOff with echoMismatches := 0 }

/-! ### Standby (R15, R162, R177) -/

/-- Every channel in STANDBY with its silence causes emptied. -/
def State.allStandby (s : State) : State :=
  allChannels.foldl (fun s c => s.withShareOf c { s.shareOf c with state := .standby, causes := {} }) s

/-- A running sweep ended by key-off (R15, items 2 and 3); an idle controller is not reached. -/
def State.keyOffSweep (s : State) : State :=
  if s.sweep.state = .idle then s
  else (allChannels.foldl State.abortList s).endSweep .keyOff

/-- Standby sent to the share unit, the sweep controller and the channel controllers (R15, R138, R152, R162). -/
def State.standby (s : State) : State :=
  let s := allChannels.foldl (fun s c => (s.withdraw c).standDown c) s.allStandby
  let s := (allChannels.foldl State.abortSlot s).keyOffSweep
  let s := allCanChannels.foldl State.canStandby s
  (s.withLine s.line.atKeyOff).recomputeOutputs

/-! ### Wake (R163) -/

/-- The silence cause that key-on finds on a channel from its controller (R163). -/
def State.controllerCause (s : State) (c : Channel) : Option Cause :=
  match canOf c with
  | some k => if (s.canCtl k).onLine then none else some .busOff
  | none => if s.line.stuck then some .lineStuck else none

/-- A channel SILENCED at key-on (R163). -/
def State.wakeSilenced (s : State) (c : Channel) (cause : Cause) : State :=
  (s.withShareOf c { s.shareOf c with state := .silenced, causes := ({} : Causes).add cause }).notify
    (.channelEvent c .silenced (some cause))

/-- The state of a channel decided at key-on from the triggers present (R163). -/
def State.wakeChannel (s : State) (c : Channel) : State :=
  match s.controllerCause c with
  | some cause => s.wakeSilenced c cause
  | none =>
    if s.yieldTrigger c then
      if s.testerSilences c then s.wakeSilenced c .tester
      else (s.withShareState c .yielded).notify (.channelEvent c .yielded none)
    else s.withShareState c .opened

/-- A CAN controller takes its bit rate setting and a fresh load window (R127, R138, R161). -/
def State.freshController (s : State) (k : CanChannel) : State :=
  s.withCan k { s.canCtl k with rate := CanRate.ofKbit (s.setting (rateSetting k)) }.freshWindow

/-- Wake sent to the share unit and the CAN controllers (R163, R178). -/
def State.wake (s : State) : State :=
  (allCanChannels.foldl State.freshController (allChannels.foldl State.wakeChannel s)).recomputeOutputs

/-! ### The engine reset (R173) -/

/-- The sweep controller at an engine reset: IDLE, lists, marks and counts cleared, number, kind and options kept
(R16). -/
def Sweep.atEngineReset (w : Sweep) : Sweep := { number := w.number, kind := w.kind, options := w.options }

/-- A slot made FREE by an engine reset, its frames withdrawn or ended, with no outcome (R51, R131, R139). -/
def State.resetSlot (s : State) (c : Channel) : State := ((s.withdraw c).standDown c).freeSlot c

/-- The share state of a channel recomputed (R164). -/
def State.resetShare (s : State) (c : Channel) : State :=
  match s.shareState c with
  | .silenced => s
  | .standby => s
  | st =>
    if s.yieldTrigger c then
      let s := s.withShareState c .yielded
      if st = .yielded then s else s.notify (.channelEvent c .yielded none)
    else
      let s := s.withShareState c .opened
      if st = .yielded then s.notify (.channelEvent c .resumed none) else s

/-- The line controller's detector at an engine reset: its release timer is loaded, and runs once the line is idle (R139,
R151; log entry 23). -/
def Line.resetDetector (l : Line) : Line := { l with detector := .release, width := 0, release := some 10 }

/-- The engine reset of every block but the host link (R16, R51, R118, R126, R139, R164). -/
def State.engineReset (s : State) : State :=
  let s := s.withSweep s.sweep.atEngineReset
  let s := allChannels.foldl State.resetSlot s
  let s := s.withHistory s.history.clearAllSighted
  let s := s.withLine s.line.resetDetector
  (allChannels.foldl State.resetShare s).recomputeOutputs

end Sys2Proof.Machine
end

