-- ==== Sys2Proof/Machine/HostLink.lean ====
section
/-! DEFINITION. The host link: the receive assembler (R166), the request queue and the taking of a request (R167), the
sending of outbound frames (R168), the link at a RESET (R173), and the commands HOST_FRAME_RECEIVED,
HOST_GAP_TIMER_EXPIRY and OUTBOUND_FRAME_SENT. -/

namespace Sys2Proof.Machine

/-- The host link's gap time in ms (R166). -/
def hostGapMs : Nat := 20

/-- At most this many requests wait (R165). -/
def maxRequests : Nat := 4

/-! ### The request queue (R167) -/

/-- A well-formed frame offered to the request queue: appended, or discarded with QUEUE_FULL (R167). -/
def State.offer (s : State) (f : HostFrame) : State :=
  if s.link.requests.length < maxRequests then s.withLink { s.link with requests := s.link.requests ++ [f] }
  else s.notify (.frameRejected .queueFull f.kind)

/-- Whether the request handler takes a request: none is in service and fewer than 4 replies are held (R167). -/
def Link.canTake (l : Link) : Bool := l.inService.isNone && l.repliesHeld < 4

/-- A request in service, carried out whole (R167). -/
def State.serve (s : State) (f : HostFrame) (carry : State → State) : State :=
  let s := carry (s.withLink { s.link with inService := some f })
  s.withLink { s.link with inService := none }

/-- A request command (log entry 5). While the handler can take a request, the oldest one in the queue is carried out if
it is this one, or this one at once if none waits. Otherwise the request is offered to the queue, unless it is already
the oldest there. -/
def State.takeRequest (s : State) (f : HostFrame) (carry : State → State) : State :=
  match s.link.requests with
  | [] => if s.link.canTake then s.serve f carry else s.offer f
  | g :: rest =>
    if g = f then
      if s.link.canTake then (s.withLink { s.link with requests := rest }).serve f carry else s
    else s.offer f

/-! ### The receive assembler (R166) -/

/-- The assembler back in HUNT, its buffer empty and its gap timer stopped (R166). -/
def Assembler.hunting : Assembler := {}

/-- The KIND that a rejection carries: 0x00 until the assembler has passed KIND (R166). -/
def Assembler.rejectedKind (a : Assembler) : Byte :=
  match a.state with
  | .payload => a.kind
  | .sum => a.kind
  | _ => 0

/-- The frame in assembly discarded with a reason (R166). -/
def State.discardFrame (s : State) (r : RejectReason) : State :=
  (s.withLink { s.link with assembler := .hunting }).notify (.frameRejected r s.link.assembler.rejectedKind)

/-- The state with the assembler replaced. -/
def State.withAssembler (s : State) (a : Assembler) : State := s.withLink { s.link with assembler := a }

/-- The sum of the frame in assembly with a SUM byte (R166). -/
def Assembler.frameSum (a : Assembler) (b : Byte) : Byte := byte a.len + a.kind + sum8 a.payload + b

/-- A byte without a framing error taken outside HUNT; every such byte reloads the gap timer (R166). -/
def State.assembleByte (s : State) (b : Byte) : State :=
  let a := { s.link.assembler with gap := some hostGapMs }
  match a.state with
  | .hunt => s
  | .length =>
    if 250 < b.toNat then s.discardFrame .tooLong else s.withAssembler { a with state := .kind, len := b.toNat }
  | .kind => s.withAssembler { a with state := if a.len = 0 then .sum else .payload, kind := b }
  | .payload =>
    let held := a.payload ++ [b]
    s.withAssembler { a with state := if held.length < a.len then .payload else .sum, payload := held }
  | .sum =>
    if a.frameSum b = 0 then (s.withAssembler .hunting).offer { kind := a.kind, payload := a.payload }
    else s.discardFrame .badSum

/-- One byte received on HRXD (R166). -/
def State.receiveByte (s : State) (b : LineByte) : State :=
  match s.link.assembler.state with
  | .hunt =>
    if b.value = 0xA7 ∧ !b.framingError then s.withAssembler { state := .length, gap := some hostGapMs } else s
  | _ => if b.framingError then s.discardFrame .byteError else s.assembleByte b.value

/-- The expiry of the host link's gap timer, while it runs (R166). -/
def State.hostGapExpired (s : State) : State :=
  match s.link.assembler.gap with
  | some _ => s.discardFrame .gap
  | none => s

/-! ### The outbound queue (R168) -/

/-- The oldest outbound frame has been sent and leaves the queue (R168). -/
def State.outboundSent (s : State) : State := s.withLink { s.link with outbound := s.link.outbound.tail }

/-- What a RESET leaves of the outbound queue: every reply, and before them the head if it is a notice, whose sending has
begun (R173; log entry 9). -/
def keptAtReset : List OutFrame → List OutFrame
  | [] => []
  | f :: fs => f :: fs.filter (fun x => !x.isNotice)

/-- The link at a RESET, its DONE reply queued: the waiting requests and the notices discarded (R173). -/
def Link.atReset (l : Link) : Link := { l with requests := [], outbound := keptAtReset l.outbound }

/-! ### The commands -/

/-- HOST_FRAME_RECEIVED (R166, R167). -/
def execHostFrameReceived (bytes : List LineByte) (s : State) : Host.Outcome State Fault Refusal :=
  .next (bytes.foldl State.receiveByte s)

/-- HOST_GAP_TIMER_EXPIRY (R166). -/
def execHostGapTimerExpiry (s : State) : Host.Outcome State Fault Refusal := .next s.hostGapExpired

/-- OUTBOUND_FRAME_SENT (R168). -/
def execOutboundFrameSent (s : State) : Host.Outcome State Fault Refusal := .next s.outboundSent

end Sys2Proof.Machine
end

