-- ==== Sys2Proof/Machine/TableRequests.lean ====
section
/-! DEFINITION. The module table's requests: TABLE_PUT (R58, R59), TABLE_GET (R61), TABLE_REMOVE (R62, R63). -/

namespace Sys2Proof.Machine

/-! ### Writing an entry (R58, R59) -/

/-- Whether two entries in use clash: the same channel and address, or on S the same attention slot (R53). -/
def Entry.clashes (e f : Entry) : Bool :=
  (e.channel == f.channel && e.address == f.address)
    || (e.channel == .s && f.channel == .s && e.attentionSlot.isSome && e.attentionSlot == f.attentionSlot)

/-- Whether an entry about to be written at an index clashes with another entry in use (R58, step 2). -/
def State.clashes (s : State) (i : ModuleIndex) (e : Entry) : Bool :=
  allModules.any (fun j => j ≠ i && (s.entry j).inUse && e.clashes (s.entry j))

/-- The reached and appended marks of an entry cleared while a sweep runs (R59, R63). -/
def Sweep.clearMarks (w : Sweep) (i : ModuleIndex) : Sweep :=
  if w.state = .idle then w
  else { w with reached := w.reached.set i false, appended := w.appended.set i false }

/-- An entry replaced by the host, its marks cleared (R59, R63). -/
def State.rewriteEntry (s : State) (i : ModuleIndex) (e : Entry) : State :=
  (s.withEntry i e).withSweep (s.sweep.clearMarks i)

/-- TABLE_PUT carried out (R58, R59). -/
def State.handleTablePut (payload : List Byte) (s : State) : State :=
  match parseTablePut payload with
  | none => s.reply 0x03 .badForm
  | some (i, e, adjusted) =>
    if s.clashes i e then s.reply 0x03 .badForm
    else if s.engaged i then s.reply 0x03 .busy
    else (s.rewriteEntry i e).reply 0x03 (if adjusted then .doneAdjusted else .done) (configuredBytes i e)

/-! ### Reading (R61) -/

/-- The resolution in four bytes: form, reference and tag (R174). -/
def resolutionBytes : Resolution → List Byte
  | .unresolved => [0, 0xFF, 0, 0]
  | .resolved ref t => [1, ref.code] ++ bytes16 t
  | .declined t => [2, 0xFF] ++ bytes16 t

/-- The engagement code: 0 NONE, 1 LISTED, 2 IN_SLOT (R169). -/
def State.engagementCode (s : State) (i : ModuleIndex) : Byte := if s.inSlot i then 2 else if s.listed i then 1 else 0

/-- What the entry form of TABLE_GET carries (R61, R169). -/
def State.entryReply (s : State) (i : ModuleIndex) : List Byte :=
  let e := s.entry i
  configuredBytes i e ++ resolutionBytes e.resolution ++ [lastOutcomeCode e.lastOutcome] ++ bytes16 e.lastSweep
    ++ [flagByte e.attention, s.engagementCode i] ++ num16 (s.history.countOf i)

/-- What the map form of TABLE_GET carries for one entry (R61, R169). -/
def mapBytes (e : Entry) : List Byte :=
  [flagsByte [e.inUse, e.attention], lastOutcomeCode e.lastOutcome] ++ bytes16 e.lastSweep

/-- TABLE_GET carried out (R61). -/
def State.handleTableGet (payload : List Byte) (s : State) : State :=
  match payload with
  | [b] =>
    if b = 0xFF then s.reply 0x04 .done (allModules.flatMap (fun i => mapBytes (s.entry i)))
    else
      match moduleIndexOf b with
      | none => s.reply 0x04 .badForm
      | some i => if (s.entry i).inUse then s.reply 0x04 .done (s.entryReply i) else s.reply 0x04 .absent
  | _ => s.reply 0x04 .badForm

/-! ### Removing an entry (R62, R63) -/

/-- The records of an entry removed with their snapshot bytes (R63). -/
def State.removeRecords (s : State) (i : ModuleIndex) : State × Nat :=
  let (h, n) := s.history.removeWhere (fun r => r.module == i)
  (s.withHistory h, n)

/-- An entry removed, with its records where the request says so, and the reply (R63). -/
def State.removeEntry (s : State) (i : ModuleIndex) (withHistory : Bool) : State :=
  let (s, n) := if withHistory then s.removeRecords i else (s, 0)
  (s.rewriteEntry i {}).reply 0x05 .done (num16 n)

/-- TABLE_REMOVE carried out (R62, R63). -/
def State.handleTableRemove (payload : List Byte) (s : State) : State :=
  match payload with
  | [index, flags] =>
    match moduleIndexOf index with
    | none => s.reply 0x05 .badForm
    | some i =>
      if !onlyLowBits 1 flags then s.reply 0x05 .badForm
      else if !(s.entry i).inUse then s.reply 0x05 .absent
      else if s.engaged i then s.reply 0x05 .busy
      else if !bit flags 0 && s.history.countOf i ≠ 0 then s.reply 0x05 .busy
      else s.removeEntry i (bit flags 0)
  | _ => s.reply 0x05 .badForm

/-! ### The commands -/

/-- TABLE_PUT (R58). -/
def execTablePut (payload : List Byte) (s : State) : Host.Outcome State Fault Refusal :=
  .next (s.takeRequest ⟨0x03, payload⟩ (State.handleTablePut payload))

/-- TABLE_GET (R61). -/
def execTableGet (payload : List Byte) (s : State) : Host.Outcome State Fault Refusal :=
  .next (s.takeRequest ⟨0x04, payload⟩ (State.handleTableGet payload))

/-- TABLE_REMOVE (R62). -/
def execTableRemove (payload : List Byte) (s : State) : Host.Outcome State Fault Refusal :=
  .next (s.takeRequest ⟨0x05, payload⟩ (State.handleTableRemove payload))

end Sys2Proof.Machine
end

