-- ==== Sys2Proof/Machine/ProfileRequests.lean ====
section
/-! DEFINITION. The profile store's requests: PROFILE_LOAD (R69, R70), PROFILE_GET (R71), PROFILE_UNLOAD (R72), BIND
(R75), DECLINE (R76), BINDINGS_GET (R78). -/

namespace Sys2Proof.Machine

/-! ### Profiles (R69 to R72) -/

/-- How many bindings name a profile. -/
def Store.bindingsTo (st : Store) (ref : ProfileRef) : Nat := st.bindings.countP (fun b => b.names ref)

/-- How many entries are RESOLVED to a profile. -/
def State.resolvedEntries (s : State) (ref : ProfileRef) : Nat := countResolution (Resolution.resolvedTo ref) s.table

/-- The numbers of bindings removed and entries returned that a release of a loaded slot reports (R70, R72). -/
def State.releaseCounts (s : State) (n : Fin 12) : List Byte :=
  if (s.store.loaded[n]).isSome then [byte (s.store.bindingsTo (.loaded n)), byte (s.resolvedEntries (.loaded n))]
  else [0, 0]

/-- A profile written into a loaded slot, the old one released (R70, steps 1 and 2). -/
def State.loadProfile (s : State) (n : Fin 12) (p : Profile) : State :=
  let s := if (s.store.loaded[n]).isSome then s.releaseLoaded n else s
  { s with store := { s.store with loaded := s.store.loaded.set n (some p) } }

/-- PROFILE_LOAD carried out (R69, R70). -/
def State.handleProfileLoad (payload : List Byte) (s : State) : State :=
  match parseProfileLoad payload with
  | none => s.reply 0x06 .badForm
  | some (n, p) =>
    if s.profileInUse (.loaded n) then s.reply 0x06 .busy
    else
      (((s.loadProfile n p).reply 0x06 .done (byte n.val :: s.releaseCounts n)).wakeWaiting p.tag).closeStep

/-- The channel set of the slots that have a profile in use (R71). -/
def State.usersByte (s : State) (ref : ProfileRef) : Byte := flagsByte (allChannels.map (fun c => s.slotUses c ref))

/-- PROFILE_GET carried out (R71). -/
def State.handleProfileGet (payload : List Byte) (s : State) : State :=
  match payload with
  | [b] =>
    match ProfileRef.ofCode b with
    | none => s.reply 0x07 .badForm
    | some ref =>
      match s.store.profile ref with
      | none => s.reply 0x07 .absent
      | some p =>
        s.reply 0x07 .done
          (profileBytes p ++ [byte (s.store.bindingsTo ref), byte (s.resolvedEntries ref), s.usersByte ref])
  | _ => s.reply 0x07 .badForm

/-- PROFILE_UNLOAD carried out (R72). -/
def State.handleProfileUnload (payload : List Byte) (s : State) : State :=
  match payload with
  | [b] =>
    match ProfileRef.ofCode b with
    | some (.loaded n) =>
      if (s.store.loaded[n]).isNone then s.reply 0x08 .absent
      else if s.profileInUse (.loaded n) then s.reply 0x08 .busy
      else (s.releaseLoaded n).reply 0x08 .done (s.releaseCounts n)
    | _ => s.reply 0x08 .badForm
  | _ => s.reply 0x08 .badForm

/-! ### Bindings (R75 to R78) -/

/-- Whether the list can take a binding for a tag: it holds one, or has fewer than 16 (R75, R76). -/
def Store.roomFor (st : Store) (tag : Word16) : Bool := (st.binding tag).isSome || st.bindings.length < 16

/-- The state with the binding list replaced. -/
def State.withBindings (s : State) (bs : List Binding) : State := { s with store := { s.store with bindings := bs } }

/-- The entries DECLINED with a tag returned to UNRESOLVED (R77). -/
def State.liftDecline (s : State) (tag : Word16) : State :=
  { s with table := unresolveWhere (Resolution.declinedWith tag) s.table }

/-- Whether the binding for a tag is a DECLINE. -/
def Store.declines (st : Store) (tag : Word16) : Bool :=
  match st.binding tag with
  | some b => b.target == .decline
  | none => false

/-- A BIND carried out with the list it leaves: the reply, the lifted decline where the old binding was a DECLINE, and
the wake (R75, R77, R82). `lifts` and `released` are judged before the list changes. -/
def State.finishBind (s : State) (tag : Word16) (bs : List Binding) : State :=
  let lifts := s.store.declines tag
  let released := if lifts then countResolution (Resolution.declinedWith tag) s.table else 0
  let s := (s.withBindings bs).reply 0x09 .done [byte bs.length, byte released]
  let s := if lifts then s.liftDecline tag else s
  (s.wakeWaiting tag).closeStep

/-- A BIND with target NONE (R75, step 3). -/
def State.bindNone (s : State) (tag : Word16) : State :=
  match s.store.binding tag with
  | none => s.reply 0x09 .absent
  | some _ => s.finishBind tag (removeBinding tag s.store.bindings)

/-- A BIND with a profile reference (R75, steps 2 and 4). -/
def State.bindTo (s : State) (tag : Word16) (ref : ProfileRef) : State :=
  if (s.store.profile ref).isNone then s.reply 0x09 .absent
  else if s.store.roomFor tag then s.finishBind tag (insertBinding ⟨tag, .profile ref⟩ s.store.bindings)
  else s.reply 0x09 .noRoom

/-- BIND carried out (R75). -/
def State.handleBind (payload : List Byte) (s : State) : State :=
  match payload with
  | [t1, t0, b] =>
    let tag := beWord16 t1 t0
    if !tagOk tag then s.reply 0x09 .badForm
    else if b = 0xFF then s.bindNone tag
    else
      match ProfileRef.ofCode b with
      | none => s.reply 0x09 .badForm
      | some ref => s.bindTo tag ref
  | _ => s.reply 0x09 .badForm

/-- DECLINE carried out (R76). -/
def State.handleDecline (payload : List Byte) (s : State) : State :=
  match payload with
  | [t1, t0] =>
    let tag := beWord16 t1 t0
    if !tagOk tag then s.reply 0x0A .badForm
    else if s.store.roomFor tag then
      let bs := insertBinding ⟨tag, .decline⟩ s.store.bindings
      (((s.withBindings bs).reply 0x0A .done [byte bs.length]).wakeWaiting tag).closeStep
    else s.reply 0x0A .noRoom
  | _ => s.reply 0x0A .badForm

/-- The code of a binding's target (R169, R174). -/
def Target.code : Target → Byte
  | .profile ref => ref.code
  | .decline => 0xFE

/-- BINDINGS_GET carried out (R78). -/
def State.handleBindingsGet (payload : List Byte) (s : State) : State :=
  match payload with
  | [] =>
    s.reply 0x0B .done
      (byte s.store.bindings.length :: s.store.bindings.flatMap (fun b => bytes16 b.tag ++ [b.target.code]))
  | _ => s.reply 0x0B .badForm

/-! ### The commands -/

/-- PROFILE_LOAD (R69). -/
def execProfileLoad (payload : List Byte) (s : State) : Host.Outcome State Fault Refusal :=
  .next (s.takeRequest ⟨0x06, payload⟩ (State.handleProfileLoad payload))

/-- PROFILE_GET (R71). -/
def execProfileGet (payload : List Byte) (s : State) : Host.Outcome State Fault Refusal :=
  .next (s.takeRequest ⟨0x07, payload⟩ (State.handleProfileGet payload))

/-- PROFILE_UNLOAD (R72). -/
def execProfileUnload (payload : List Byte) (s : State) : Host.Outcome State Fault Refusal :=
  .next (s.takeRequest ⟨0x08, payload⟩ (State.handleProfileUnload payload))

/-- BIND (R75). -/
def execBind (payload : List Byte) (s : State) : Host.Outcome State Fault Refusal :=
  .next (s.takeRequest ⟨0x09, payload⟩ (State.handleBind payload))

/-- DECLINE (R76). -/
def execDecline (payload : List Byte) (s : State) : Host.Outcome State Fault Refusal :=
  .next (s.takeRequest ⟨0x0A, payload⟩ (State.handleDecline payload))

/-- BINDINGS_GET (R78). -/
def execBindingsGet (payload : List Byte) (s : State) : Host.Outcome State Fault Refusal :=
  .next (s.takeRequest ⟨0x0B, payload⟩ (State.handleBindingsGet payload))

end Sys2Proof.Machine
end

