-- ==== Sys2Proof/Machine/ReportRequests.lean ====
section
/-! DEFINITION. The requests that report and the requests of the references and of the history: IDENT and STATUS (R170),
REFERENCE_SET (R93), HISTORY_READ (R120, R121), HISTORY_PURGE (R123), and a request of unknown KIND (R169). -/

namespace Sys2Proof.Machine

/-! ### IDENT and STATUS (R170) -/

/-- The baud code of the latched straps: BR1 then BR0 (R165, R174). -/
def Straps.baudCode (k : Straps) : Byte := flagsByte [k.br0, k.br1]

/-- IDENT carried out (R169, R170). -/
def State.handleIdent (payload : List Byte) (s : State) : State :=
  match payload with
  | [] => s.reply 0x01 .done [0x31, 0x48, Config.siliconRevision, s.straps.baudCode, flagByte s.straps.ksw]
  | _ => s.reply 0x01 .badForm

/-- The flag byte of STATUS (10.6). -/
def State.statusFlags (s : State) : Byte :=
  flagsByte [s.link.noticesLost, s.key.on, s.key.settled, s.share.tpresActive, s.share.tgnt, s.share.pneed]

/-- The tag a slot waits on, 0x0000 where it does not wait (R66, R174). -/
def Slot.waitingTag (x : Slot) : Word16 := if x.waitsOnReferral then x.tag.getD 0 else 0

/-- The eight STATUS bytes of a CAN controller (R126, 10.6). -/
def Can.statusBytes (k : Can) : List Byte :=
  [k.errorState.code, byte k.transmitErrors, byte k.receiveErrors, k.verdict.code] ++ num16 k.lastWindow
    ++ [byte k.pace, k.rate.code]

/-- The five STATUS bytes of line S (R139, 10.6). -/
def Line.statusBytes (l : Line) : List Byte :=
  [l.transmitter.code, l.receiver.code, byte l.echoMismatches, flagByte l.stuck, l.detector.code]

/-- What a STATUS reply carries after its status byte: 67 bytes (10.6). -/
def State.statusBytes (s : State) : List Byte :=
  [s.statusFlags, s.sweep.state.code] ++ bytes16 s.sweep.number
    ++ allChannels.map (fun c => byte (s.workList c).length)
    ++ allChannels.map (fun c => (s.slot c).state.code)
    ++ allChannels.map (fun c => moduleByte (s.slot c).module)
    ++ allChannels.flatMap (fun c => bytes16 (s.slot c).waitingTag)
    ++ [byte (s.store.loaded.toList.countP Option.isSome), byte s.store.bindings.length]
    ++ bytes32 s.clock.t ++ bytes32 s.clock.d ++ [flagsByte [s.clock.tSet, s.clock.dSet]]
    ++ num16 s.history.records.length ++ num16 (s.history.records.countP (fun r => r.unread))
    ++ num16 s.history.poolUsed ++ bytes32 s.history.next
    ++ allCanChannels.flatMap (fun k => (s.canCtl k).statusBytes)
    ++ s.line.statusBytes
    ++ allChannels.map (fun c => (s.shareState c).code)
    ++ allChannels.map (fun c => (s.shareOf c).causes.code)

/-- STATUS carried out: the reply, then NOTICES_LOST cleared (R170). -/
def State.handleStatus (payload : List Byte) (s : State) : State :=
  match payload with
  | [] =>
    let s := s.reply 0x02 .done s.statusBytes
    s.withLink { s.link with noticesLost := false }
  | _ => s.reply 0x02 .badForm

/-! ### REFERENCE_SET (R93) -/

/-- The references with the present parts written (R93). -/
def Clock.put (k : Clock) (time distance : Option Word32) : Clock :=
  let k := match time with
    | some t => { k with t, tSet := true, ms := 0 }
    | none => k
  match distance with
  | some d => { k with d, dSet := true }
  | none => k

/-- What REFERENCE_SET replies (R93, R169). -/
def Clock.replyBytes (k : Clock) : List Byte := bytes32 k.t ++ bytes32 k.d ++ [flagsByte [k.tSet, k.dSet]]

/-- REFERENCE_SET carried out (R93, R169). -/
def State.handleReferenceSet (payload : List Byte) (s : State) : State :=
  match payload with
  | [f, t3, t2, t1, t0, d3, d2, d1, d0] =>
    if !onlyLowBits 2 f || f = 0 then s.reply 0x0E .badForm
    else
      let k := s.clock.put (if bit f 0 then some (beWord32 t3 t2 t1 t0) else none)
        (if bit f 1 then some (beWord32 d3 d2 d1 d0) else none)
      { s with clock := k }.reply 0x0E .done k.replyBytes
  | _ => s.reply 0x0E .badForm

/-! ### The history (R120 to R123) -/

/-- HISTORY_READ carried out (R120, R121). -/
def State.handleHistoryRead (payload : List Byte) (s : State) : State :=
  match parseHistoryRead payload with
  | none => s.reply 0x12 .badForm
  | some (start, maximum, f) =>
    let (carried, next) := s.history.select start maximum f
    (s.reply 0x12 .done (byte carried.length :: bytes32 next ++ carried.flatMap recordBytes)).withHistory
      (s.history.clearUnread carried)

/-- HISTORY_PURGE carried out (R123). -/
def State.handleHistoryPurge (payload : List Byte) (s : State) : State :=
  match payload with
  | [] =>
    let (h, n) := s.history.removeWhere Record.isCandidate
    (s.withHistory h).reply 0x13 .done (num16 n)
  | _ => s.reply 0x13 .badForm

/-! ### A KIND that names no request (R169) -/

/-- The reply UNKNOWN_KIND, which carries the received KIND (R169, step 1). -/
def State.handleUnknownKind (kind : Byte) (s : State) : State := s.reply kind .unknownKind [kind]

/-! ### The commands -/

/-- IDENT (R170). -/
def execIdent (payload : List Byte) (s : State) : Host.Outcome State Fault Refusal :=
  .next (s.takeRequest ⟨0x01, payload⟩ (State.handleIdent payload))

/-- STATUS (R170). -/
def execStatus (payload : List Byte) (s : State) : Host.Outcome State Fault Refusal :=
  .next (s.takeRequest ⟨0x02, payload⟩ (State.handleStatus payload))

/-- REFERENCE_SET (R93). -/
def execReferenceSet (payload : List Byte) (s : State) : Host.Outcome State Fault Refusal :=
  .next (s.takeRequest ⟨0x0E, payload⟩ (State.handleReferenceSet payload))

/-- HISTORY_READ (R121). -/
def execHistoryRead (payload : List Byte) (s : State) : Host.Outcome State Fault Refusal :=
  .next (s.takeRequest ⟨0x12, payload⟩ (State.handleHistoryRead payload))

/-- HISTORY_PURGE (R123). -/
def execHistoryPurge (payload : List Byte) (s : State) : Host.Outcome State Fault Refusal :=
  .next (s.takeRequest ⟨0x13, payload⟩ (State.handleHistoryPurge payload))

end Sys2Proof.Machine
end

