-- ==== Sys2Proof/Machine/SettingsRequests.lean ====
section
/-! DEFINITION. SETTINGS_PUT and SETTINGS_GET (R171), and what a changed setting does at once (R19, R127, R133, R149,
R154). -/

namespace Sys2Proof.Machine

/-! ### Form, adjustment and cross-check (R171, steps 1 to 3) -/

/-- The values stored for the pairs of a request, in request order; nothing where an enumerated one is outside its
codes (R171, steps 1 and 2). -/
def adjustPairs : List (SettingId × Word16) → Option (List (SettingId × Word16))
  | [] => some []
  | (i, v) :: ps =>
    match i.adjust v, adjustPairs ps with
    | some w, some ws => some ((i, w) :: ws)
    | _, _ => none

/-- The value a request stores in a setting. -/
def storedValue (ps : List (SettingId × Word16)) (i : SettingId) : Option Word16 :=
  (ps.find? (fun p => p.1 == i)).map Prod.snd

/-- The value a setting will hold: the request's, or the one it holds (R127). -/
def State.settingAfter (s : State) (ps : List (SettingId × Word16)) (i : SettingId) : Nat :=
  match storedValue ps i with
  | some v => v.toNat
  | none => s.setting i

/-- Whether the bases of a channel would be equal (R171, step 3). -/
def State.basesCollide (s : State) (ps : List (SettingId × Word16)) (k : CanChannel) : Bool :=
  s.settingAfter ps (requestBaseSetting k) == s.settingAfter ps (responseBaseSetting k)

/-! ### What a changed setting does at once -/

/-- A changed base: in effect at once while the slot is FREE (R127). -/
def State.baseChanged (s : State) (k : CanChannel) : State :=
  if (s.slot k.toChannel).state = .free then s.takeBases k else s

/-- A changed pace gap: in use at once while the gap timer is stopped, else pending (R133; log entry 21). -/
def Can.paceChanged (k : Can) (v : Nat) : Can :=
  match k.gap with
  | none => { k with pace := v, pacePending := none }
  | some _ => { k with pacePending := some v }

/-- A changed attention polarity: a pulse under way is dropped and the detector goes to RELEASE (R149; log entry 19). -/
def Line.polarityChanged (l : Line) : Line :=
  match l.detector with
  | .suppressed => l
  | .release => l
  | _ => l.enterRelease

/-- A change of SOCKET_CHANNELS while TPRES is ACTIVE: a trigger occurrence on each channel added or taken out (R154). That
they come in the order A, B, S is the model's choice (log entry 51). -/
def State.socketsChanged (s : State) (old : Nat) : State :=
  if s.share.tpresActive then
    (allChannels.filter (fun c => old.testBit (channelBit c) ≠ s.isSocket c)).foldl State.triggerOccurs s
  else s

/-- What a setting does at the moment its stored value has changed from `old` (R171). An attention sweep that AUTO_ATTENTION
starts with no module to place ends within its own start, before a later setting of the request acts (R6, R19). -/
def State.settingChanged (s : State) (i : SettingId) (old : Nat) : State :=
  match i with
  | .autoAttention => if old = 0 then s.attentionCheck.settleSweep 3 else s
  | .requestBaseA => s.baseChanged .a
  | .responseBaseA => s.baseChanged .a
  | .requestBaseB => s.baseChanged .b
  | .responseBaseB => s.baseChanged .b
  | .paceGapA => s.withCan .a ((s.canCtl .a).paceChanged (s.setting .paceGapA))
  | .paceGapB => s.withCan .b ((s.canCtl .b).paceChanged (s.setting .paceGapB))
  | .attentionPolarity => s.withLine s.line.polarityChanged
  | .socketChannels => s.socketsChanged old
  | _ => s

/-- A setting stored, and acting where its value changes (R171, step 4). -/
def State.putSetting (s : State) (i : SettingId) (v : Word16) : State :=
  let old := s.setting i
  let s := s.withSetting i v
  if v.toNat = old then s else s.settingChanged i old

/-- The settings of a request stored in ascending identifier (R171, step 4; log entry 18). -/
def State.putSettings (s : State) (ps : List (SettingId × Word16)) : State :=
  allSettings.foldl
    (fun s i => match storedValue ps i with
      | some v => s.putSetting i v
      | none => s)
    s

/-! ### The replies -/

/-- The five bytes of a pair: identifier, value requested, value stored (R171). -/
def pairBytes (requested stored : SettingId × Word16) : List Byte :=
  requested.1.code :: bytes16 requested.2 ++ bytes16 stored.2

/-- The three bytes of a setting: identifier and stored value (R171). -/
def State.settingBytes (s : State) (i : SettingId) : List Byte := i.code :: num16 (s.setting i)

/-- SETTINGS_PUT carried out (R171). -/
def State.handleSettingsPut (payload : List Byte) (s : State) : State :=
  match parsePairs payload with
  | none => s.reply 0x0C .badForm
  | some ps =>
    if ps = [] ∨ 25 < ps.length ∨ hasRepeat (ps.map Prod.fst) then s.reply 0x0C .badForm
    else
      match adjustPairs ps with
      | none => s.reply 0x0C .badForm
      | some ws =>
        if s.basesCollide ws .a || s.basesCollide ws .b then s.reply 0x0C .badForm
        else
          ((s.reply 0x0C (if ws = ps then .done else .doneAdjusted)
              ((ps.zip ws).flatMap (fun p => pairBytes p.1 p.2))).putSettings ws).closeStep

/-- SETTINGS_GET carried out (R171). That the settings named come in request order is the model's choice (log entry 52). -/
def State.handleSettingsGet (payload : List Byte) (s : State) : State :=
  match parseIds payload with
  | none => s.reply 0x0D .badForm
  | some ids =>
    if hasRepeat ids then s.reply 0x0D .badForm
    else s.reply 0x0D .done ((if ids = [] then allSettings else ids).flatMap s.settingBytes)

/-! ### The commands -/

/-- SETTINGS_PUT (R171). -/
def execSettingsPut (payload : List Byte) (s : State) : Host.Outcome State Fault Refusal :=
  .next (s.takeRequest ⟨0x0C, payload⟩ (State.handleSettingsPut payload))

/-- SETTINGS_GET (R171). -/
def execSettingsGet (payload : List Byte) (s : State) : Host.Outcome State Fault Refusal :=
  .next (s.takeRequest ⟨0x0D, payload⟩ (State.handleSettingsGet payload))

end Sys2Proof.Machine
end

