-- ==== Sys2Proof/Machine/SweepRequests.lean ====
section
/-! DEFINITION. SWEEP (R3), HALT (R13), CHANNEL_RESUME (R161), RESET (R173), the request handler over every KIND (R169),
and a request of unknown KIND as a command. -/

namespace Sys2Proof.Machine

/-! ### SWEEP (R3, R4) -/

/-- A sweep of the host started: its lists built, and the DONE reply with its number queued before the notices of the
start (R4). -/
def State.startHostSweep (s : State) (scope : Scope) (options : SweepOptions) : State :=
  ((s.reply 0x0F .done (bytes16 (s.sweep.number + 1))).startSweep .host options scope).closeStep

/-- SWEEP carried out (R3). -/
def State.handleSweep (payload : List Byte) (s : State) : State :=
  match parseSweep payload with
  | none => s.reply 0x0F .badForm
  | some (scope, options) =>
    if !s.key.on then s.reply 0x0F .refused
    else if s.sweep.state ≠ .idle then s.reply 0x0F .busy
    else s.startHostSweep scope options

/-! ### HALT (R13, R14) -/

/-- A halt taken in RUNNING: HALTING, the lists emptied, the slots brought to their end, A then B then S (R13, R14; log
entry 17). -/
def State.takeHalt (s : State) : State :=
  let s := s.withSweep { s.sweep with state := .halting, haltTaken := true, lists := ⟨[], [], []⟩ }
  allChannels.foldl State.haltSlot s

/-- HALT carried out (R13). -/
def State.handleHalt (payload : List Byte) (s : State) : State :=
  match payload with
  | [] =>
    let s := s.reply 0x10 .done
    if s.sweep.state = .running then s.takeHalt.closeStep else s
  | _ => s.reply 0x10 .badForm

/-! ### CHANNEL_RESUME (R161) -/

/-- A CAN controller prepared for the reopening of its channel: out of OFF_IDLE where BUS_OFF was among the causes, its
rate setting taken, a fresh load window (R137, R161). -/
def State.prepareController (s : State) (c : Channel) (busOff : Bool) : State :=
  match canOf c with
  | none => s
  | some k =>
    let s := if busOff then
        s.withCan k { s.canCtl k with errorState := .active, transmitErrors := 0, receiveErrors := 0, idleSequences := 0 }
      else s
    s.freshController k

/-- The two bytes every CHANNEL_RESUME reply carries (R161, R169). -/
def State.shareBytes (s : State) (c : Channel) : List Byte := [(s.shareState c).code, (s.shareOf c).causes.code]

/-- A silenced channel reopened, its causes emptied, and the reply (R161). -/
def State.reopen (s : State) (c : Channel) : State :=
  let s := s.prepareController c (s.shareOf c).causes.busOff
  let yields := s.yieldTrigger c
  let s := s.withShareOf c { s.shareOf c with state := if yields then .yielded else .opened, causes := {} }
  let s := s.reply 0x11 .done (s.shareBytes c)
  (if yields then s.notify (.channelEvent c .yielded none) else s).closeStep

/-- CHANNEL_RESUME of a channel carried out (R161). -/
def State.resumeChannel (s : State) (c : Channel) : State :=
  if s.shareState c ≠ .silenced then s.reply 0x11 .done (s.shareBytes c)
  else if s.somePersists c then s.reply 0x11 .refused (s.shareBytes c)
  else s.reopen c

/-- CHANNEL_RESUME carried out (R161); a payload that names no channel has no share state to carry (log entry 38). -/
def State.handleChannelResume (payload : List Byte) (s : State) : State :=
  match payload with
  | [b] =>
    match channelOfCode b with
    | none => s.reply 0x11 .badForm
    | some c => s.resumeChannel c
  | _ => s.reply 0x11 .badForm

/-! ### RESET (R173) -/

/-- RESET carried out: the DONE reply, the link reset, then the engine reset of the other blocks (R173). -/
def State.handleReset (payload : List Byte) (s : State) : State :=
  match payload with
  | [] =>
    let s := s.reply 0x14 .done
    (s.withLink s.link.atReset).engineReset
  | _ => s.reply 0x14 .badForm

/-! ### The request handler (R169) -/

/-- A request carried out by its KIND (R169). -/
def State.handleFrame (f : HostFrame) (s : State) : State :=
  match f.kind.toNat with
  | 0x01 => s.handleIdent f.payload
  | 0x02 => s.handleStatus f.payload
  | 0x03 => s.handleTablePut f.payload
  | 0x04 => s.handleTableGet f.payload
  | 0x05 => s.handleTableRemove f.payload
  | 0x06 => s.handleProfileLoad f.payload
  | 0x07 => s.handleProfileGet f.payload
  | 0x08 => s.handleProfileUnload f.payload
  | 0x09 => s.handleBind f.payload
  | 0x0A => s.handleDecline f.payload
  | 0x0B => s.handleBindingsGet f.payload
  | 0x0C => s.handleSettingsPut f.payload
  | 0x0D => s.handleSettingsGet f.payload
  | 0x0E => s.handleReferenceSet f.payload
  | 0x0F => s.handleSweep f.payload
  | 0x10 => s.handleHalt f.payload
  | 0x11 => s.handleChannelResume f.payload
  | 0x12 => s.handleHistoryRead f.payload
  | 0x13 => s.handleHistoryPurge f.payload
  | 0x14 => s.handleReset f.payload
  | _ => s.handleUnknownKind f.kind

/-! ### The commands -/

/-- SWEEP (R3). -/
def execSweep (payload : List Byte) (s : State) : Host.Outcome State Fault Refusal :=
  .next (s.takeRequest ⟨0x0F, payload⟩ (State.handleSweep payload))

/-- HALT (R13). -/
def execHalt (payload : List Byte) (s : State) : Host.Outcome State Fault Refusal :=
  .next (s.takeRequest ⟨0x10, payload⟩ (State.handleHalt payload))

/-- CHANNEL_RESUME (R161). -/
def execChannelResume (payload : List Byte) (s : State) : Host.Outcome State Fault Refusal :=
  .next (s.takeRequest ⟨0x11, payload⟩ (State.handleChannelResume payload))

/-- RESET (R173). -/
def execReset (payload : List Byte) (s : State) : Host.Outcome State Fault Refusal :=
  .next (s.takeRequest ⟨0x14, payload⟩ (State.handleReset payload))

/-- UNKNOWN_KIND_REQUEST (R169). A KIND that names a request is that request. -/
def execUnknownKindRequest (kind : Byte) (payload : List Byte) (s : State) : Host.Outcome State Fault Refusal :=
  .next (s.takeRequest ⟨kind, payload⟩ (State.handleFrame ⟨kind, payload⟩))

end Sys2Proof.Machine
end

