-- ==== Sys2Proof/WellFormed.lean ====
section
/-! DEFINITION. Which commands can occur: the limits the frames, the fields and the counters of the part put on the
operands of a command. -/

namespace Sys2Proof

/-- A payload that a host frame can carry: LEN is 0..250 (R166). -/
def payloadOk (payload : List Byte) : Bool := payload.length ≤ 250

/-- The KINDs that name a request (R169). -/
def kindNamesRequest (kind : Byte) : Bool := 1 ≤ kind.toNat && kind.toNat ≤ 0x14

/-- A frame that a CAN bus can carry: at most 8 data bytes, none in a remote frame, and an identifier of 11 bits in the
standard format and of 29 bits in the extended one (R127, R128). -/
def CanFrame.wellFormed (f : CanFrame) : Bool :=
  f.data.length ≤ 8 && (!f.remote || f.data.isEmpty) && f.ident < (if f.extended then 2 ^ 29 else 2 ^ 11)

/-- The page bytes a SEGMENT can carry on a channel: 1..7 on CAN, 1..16 on line S (R36, R128, R141). -/
def segmentOk (ch : Channel) (data : List Byte) : Bool :=
  1 ≤ data.length && data.length ≤ (match ch with | .a => 7 | .b => 7 | .s => 16)

/-- A command whose operands fit their frames, fields and counters. -/
def Instr.wellFormed : Instr → Bool
  | .ident p => payloadOk p
  | .status p => payloadOk p
  | .tablePut p => payloadOk p
  | .tableGet p => payloadOk p
  | .tableRemove p => payloadOk p
  | .profileLoad p => payloadOk p
  | .profileGet p => payloadOk p
  | .profileUnload p => payloadOk p
  | .bind p => payloadOk p
  | .decline p => payloadOk p
  | .bindingsGet p => payloadOk p
  | .settingsPut p => payloadOk p
  | .settingsGet p => payloadOk p
  | .referenceSet p => payloadOk p
  | .sweep p => payloadOk p
  | .halt p => payloadOk p
  | .channelResume p => payloadOk p
  | .historyRead p => payloadOk p
  | .historyPurge p => payloadOk p
  | .reset p => payloadOk p
  | .unknownKindRequest k p => !kindNamesRequest k && payloadOk p
  | .hostFrameReceived bytes => !bytes.isEmpty
  | .hostGapTimerExpiry => true
  | .outboundFrameSent => true
  | .dialogStart _ => true
  | .idReply _ _ _ _ => true
  | .pageHead _ _ _ _ _ _ => true
  | .segment ch _ data => segmentOk ch data
  | .holdOn _ _ => true
  | .deny _ _ => true
  | .eraseDone _ => true
  | .responseTimerExpiry _ => true
  | .bootTimerExpiry _ => true
  | .keepAwakeTimerExpiry _ => true
  | .referralTimerExpiry _ => true
  | .canAttemptStart _ => true
  | .canFrameSent _ => true
  | .arbitrationLost _ => true
  | .canTransmitError _ => true
  | .canReceiveError _ => true
  | .canFrameReceived _ f => f.wellFormed
  | .foreignTesterRequest _ _ => true
  | .busDominantTimeout _ => true
  | .idleSequence _ => true
  | .gapTimerExpiry _ => true
  | .windowTimerExpiry _ => true
  | .lineTransmitStart => true
  | .lineFrameSent => true
  | .lineFrameAbandoned => true
  | .turnaroundTimerExpiry => true
  | .lineFrameReceived bytes => 4 ≤ bytes.length && bytes.length ≤ 21
  | .lineFrameDiscarded => true
  | .wakePatternStart => true
  | .wakePatternEnd => true
  | .stuckTimerExpiry => true
  | .stuckClearTimerExpiry => true
  | .attentionPulse w => w ≤ 268
  | .widthOverflow => true
  | .releaseTimerExpiry => true
  | .tpresChange _ => true
  | .releaseHoldTimerExpiry _ => true
  | .keyOff => true
  | .keyOn => true
  | .settleTimerExpiry => true
  | .chassisTimeAdvance => true
  | .fullReset _ => true
  | .lineEdge _ samples => 1 ≤ samples
  | .receiverLocked intervals _ => intervals.length == 9

end Sys2Proof
end

