-- ==== Sys2Proof/Machine/DialogEvents.lean ====
section
/-! DEFINITION. The commands of the dialog slots: DIALOG_START (R22), the services a module sends (R24), and the
expiries of the slots' timers (R25, R27, R28, R34). -/

namespace Sys2Proof.Machine

/-- Whether a tester hold keeps the answers of the module at this address from the slot (R130). -/
def Can.holds (k : Can) (address : Nat) : Bool :=
  match k.testerHold with
  | some a => a.toNat == address
  | none => false

/-- The address of the module in a channel's slot. -/
def State.slotAddress (s : State) (c : Channel) : Nat := ((s.slotEntry c).getD {}).address

/-- Whether a channel's controller lets its module's services reach the slot: the slot takes frames, and on CAN the
controller is on line and holds no answer of this module back (R24, R129, R130). -/
def State.reaches (s : State) (c : Channel) : Bool :=
  (s.slot c).listens &&
    (match canOf c with
     | some k => (s.canCtl k).onLine && !(s.canCtl k).holds (s.slotAddress c)
     | none => true)

/-- A service of the slot's module received (R24). -/
def State.serviceReceived (s : State) (c : Channel) (v : Service) : State :=
  if s.reaches c then (s.deliver c v).closeStep else s

/-- A slot takes the head of its channel's work list, where it may (R7, R22). -/
def State.dialogStart (s : State) (c : Channel) : State :=
  match s.workList c with
  | [] => s
  | i :: rest => if s.mayStart c then ((s.withWorkList c rest).startDialog c i).closeStep else s

/-! ### The commands -/

/-- DIALOG_START (R22). -/
def execDialogStart (c : Channel) (s : State) : Host.Outcome State Fault Refusal := .next (s.dialogStart c)

/-- ID_REPLY (R31). -/
def execIdReply (c : Channel) (tag : Word16) (clock : ClockBytes) (flags : Byte) (s : State) :
    Host.Outcome State Fault Refusal :=
  .next (s.serviceReceived c (.idReply tag clock flags))

/-- PAGE_HEAD (R35). -/
def execPageHead (c : Channel) (page count : Byte) (length : Word16) (flags : Byte) (sum : Word16) (s : State) :
    Host.Outcome State Fault Refusal :=
  .next (s.serviceReceived c (.pageHead page count length flags sum))

/-- SEGMENT (R38). A segment longer than the channel's frames carry is not received (R128, R141). -/
def execSegment (c : Channel) (index : BitVec 3) (data : List Byte) (s : State) : Host.Outcome State Fault Refusal :=
  .next (if segmentOk c data then s.serviceReceived c (.segment index data) else s)

/-- HOLD_ON (R26). -/
def execHoldOn (c : Channel) (n : Byte) (s : State) : Host.Outcome State Fault Refusal :=
  .next (s.serviceReceived c (.holdOn n))

/-- DENY (R24). -/
def execDeny (c : Channel) (reason : Byte) (s : State) : Host.Outcome State Fault Refusal :=
  .next (s.serviceReceived c (.deny reason))

/-- ERASE_DONE (R43). -/
def execEraseDone (c : Channel) (s : State) : Host.Outcome State Fault Refusal := .next (s.serviceReceived c .eraseDone)

/-- RESPONSE_TIMER_EXPIRY (R25). -/
def execResponseTimerExpiry (c : Channel) (s : State) : Host.Outcome State Fault Refusal :=
  .next (s.responseExpired c).closeStep

/-- The expiry of the boot timer, while it runs (R28, R29). -/
def State.bootTimerExpired (s : State) (c : Channel) : State :=
  match (s.slot c).boot with
  | some _ => s.bootExpired c
  | none => s

/-- BOOT_TIMER_EXPIRY (R29). -/
def execBootTimerExpiry (c : Channel) (s : State) : Host.Outcome State Fault Refusal :=
  .next (s.bootTimerExpired c).closeStep

/-- KEEP_AWAKE_TIMER_EXPIRY (R27). -/
def execKeepAwakeTimerExpiry (c : Channel) (s : State) : Host.Outcome State Fault Refusal :=
  .next (s.keepAwakeExpired c)

/-- REFERRAL_TIMER_EXPIRY (R34). -/
def execReferralTimerExpiry (c : Channel) (s : State) : Host.Outcome State Fault Refusal :=
  .next (s.referralExpired c).closeStep

end Sys2Proof.Machine
end

