-- ==== Sys2Proof/Machine/CanEvents.lean ====
section
/-! DEFINITION. The commands of the CAN controllers: attempts and their ends (R131), reception (R129, R130), errors and
bus-off (R135 to R137), the gap timer (R132) and the load window (R134). -/

namespace Sys2Proof.Machine

/-! ### Attempts (R131) -/

/-- Whether a frame's earliest start has passed (R132). -/
def TxFrame.mayStartNow (f : TxFrame) : Bool :=
  match f.earliest with
  | none => true
  | some n => n == 0

/-- Whether the controller can put a frame on the bus: on line, with no attempt of a withdrawn frame still there. -/
def Can.busFree (k : Can) : Bool := k.onLine && !k.orphan

/-- Whether a frame in progress is attempted again in this share state (R131, R138). -/
def ShareState.repeats : ShareState → Bool
  | .opened => true
  | .yieldPending => true
  | _ => false

/-- The holding after an attempt starts, where it may: the first attempt of a frame, or a repeated one (R131). -/
def Can.startAttempt (k : Can) (st : ShareState) : Holding :=
  match k.holding with
  | .empty => .empty
  | .waiting f =>
    if k.gap.isNone && f.mayStartNow && st == .opened && k.busFree then .inProgress f true else .waiting f
  | .inProgress f onBus => .inProgress f (onBus || (st.repeats && k.busFree))

/-- An attempt started at a bus idle (R131). -/
def State.canAttemptStart (s : State) (k : CanChannel) : State :=
  s.withCan k { s.canCtl k with holding := (s.canCtl k).startAttempt (s.shareState k.toChannel) }

/-- One frame counted while the window timer runs (R129, R134). -/
def Can.countFrame (k : Can) : Can :=
  match k.window with
  | some _ => { k with windowCount := satSucc 65535 k.windowCount }
  | none => k

/-- A frame of the part completed: the transmit error count falls, the frame is counted, the gap timer starts (R131,
R132, R134, R135). -/
def Can.frameCompleted (k : Can) : Can :=
  { ({ k with transmitErrors := k.transmitErrors - 1 }.followCounts).countFrame with gap := some k.effectiveGap }

/-- The frame of a frame in progress with an attempt on the bus. -/
def Can.attempting (k : Can) : Option TxFrame :=
  match k.holding with
  | .inProgress f true => some f
  | _ => none

/-- The frame on the bus completed without error (R131): its slot learns that it has been sent, and the next frame the
slot has to hand follows it; a frame already withdrawn has no slot to tell. -/
def State.canFrameSent (s : State) (k : CanChannel) : State :=
  let x := s.canCtl k
  if !x.onLine then s
  else if x.orphan then s.withCan k { x.frameCompleted with orphan := false }
  else
    match x.attempting with
    | some f =>
      (((s.withCan k { x.frameCompleted with holding := .empty }).slotFrameSent k.toChannel f).handNext
        k.toChannel).closeStep
    | none => s

/-- The attempt on the bus ended without its frame: a withdrawn frame is not repeated, any other waits for the next bus
idle (R131). -/
def Can.attemptLost (k : Can) : Can :=
  if k.orphan then { k with orphan := false }
  else
    match k.attempting with
    | some f => { k with holding := .inProgress f false }
    | none => k

/-- Whether an attempt of the part is on the bus. -/
def Can.transmitting (k : Can) : Bool := k.onLine && (k.orphan || k.attempting.isSome)

/-- Arbitration lost (R131). -/
def State.arbitrationLost (s : State) (k : CanChannel) : State :=
  if (s.canCtl k).transmitting then s.withCan k (s.canCtl k).attemptLost else s

/-! ### Errors and bus-off (R135 to R137) -/

/-- A controller going OFF with this transmit error count: frames withdrawn, gap timer and load meter stopped, tester
hold and idle sequence count cleared (R136, items 1 to 4). -/
def Can.goOff (k : Can) (transmitErrors : Nat) : Can :=
  { k.stopMeter with
    errorState := .off, transmitErrors, idleSequences := 0, holding := .empty, orphan := false, gap := none,
    testerHold := none }

/-- A controller goes OFF and hands BUS_OFF to the share unit (R136). -/
def State.busOff (s : State) (k : CanChannel) (transmitErrors : Nat) : State :=
  ((s.withCan k ((s.canCtl k).goOff transmitErrors)).silence k.toChannel .busOff).closeStep

/-- The transmit error count a controller keeps when a rise takes it OFF: not stated, a free value (R135; log
entry 20). -/
def Can.countAtOff (k : Can) : Nat := (Config.transmitCountAtOff (byte k.transmitErrors)).toNat

/-- An error during a frame the part transmits (R131, R135). -/
def State.canTransmitError (s : State) (k : CanChannel) : State :=
  let x := s.canCtl k
  if !x.transmitting then s
  else if 255 < x.transmitErrors + 8 then s.busOff k x.countAtOff
  else s.withCan k { x.attemptLost with transmitErrors := x.transmitErrors + 8 }.followCounts

/-- An error while receiving a frame (R135). -/
def State.canReceiveError (s : State) (k : CanChannel) : State :=
  let x := s.canCtl k
  if x.onLine then s.withCan k { x with receiveErrors := satSucc 255 x.receiveErrors }.followCounts else s

/-- The bus held dominant for 100 ms (R135). -/
def State.busDominant (s : State) (k : CanChannel) : State :=
  let x := s.canCtl k
  if x.onLine then s.busOff k x.transmitErrors else s

/-- Eleven recessive bits on the bus of an OFF controller; the 128th makes it OFF_IDLE (R137). -/
def State.idleSequence (s : State) (k : CanChannel) : State :=
  let x := s.canCtl k
  if x.errorState = .off then
    let n := x.idleSequences + 1
    s.withCan k { x with idleSequences := n, errorState := if 128 ≤ n then .offIdle else .off }
  else s

/-! ### Reception (R128 to R130) -/

/-- A frame received without error: the receive error count falls and the frame is counted (R129, R134, R135). -/
def Can.frameReceived (k : Can) : Can := ({ k with receiveErrors := k.receiveErrors - 1 }.followCounts).countFrame

/-- What a received frame is to the controller (R129). -/
inductive FrameClass where
  | tester (address : BitVec 5)
  | answer
  | other
  deriving DecidableEq, Repr

/-- A received frame classified against the bases in effect and the address of the slot's module (R129). -/
def Can.classify (k : Can) (slotAddress : Nat) (f : CanFrame) : FrameClass :=
  if f.extended || f.remote then .other
  else if k.requestBase ≤ f.ident ∧ f.ident ≤ k.requestBase + 31 then .tester (BitVec.ofNat 5 (f.ident - k.requestBase))
  else if f.ident = k.responseBase + slotAddress then .answer
  else .other

/-- A foreign tester request handed on: the tester hold set where it names the module of a slot that takes frames, then
a trigger occurrence (R130, R154). -/
def State.testerRequest (s : State) (k : CanChannel) (address : BitVec 5) : State :=
  let c := k.toChannel
  let s := if (s.slot c).listens ∧ s.slotAddress c = address.toNat then
      s.withCan k { s.canCtl k with testerHold := some address } else s
  (s.triggerOccurs c).closeStep

/-- FOREIGN_TESTER_REQUEST as the controller hands it on, while it is on line (R129, R130). -/
def State.foreignTester (s : State) (k : CanChannel) (address : BitVec 5) : State :=
  if (s.canCtl k).onLine then s.testerRequest k address else s

/-- An answer's body taken as a service and delivered, where its length fits (R128, R129). -/
def State.answerReceived (s : State) (c : Channel) (body : List Byte) : State :=
  match parseService c body with
  | some v => s.serviceReceived c v
  | none => s

/-- A frame of another node completed on the bus: counted, classified, and delivered or handed on (R129, R130). -/
def State.canFrameReceived (s : State) (k : CanChannel) (f : CanFrame) : State :=
  let c := k.toChannel
  if (s.canCtl k).onLine then
    let s := s.withCan k (s.canCtl k).frameReceived
    match (s.canCtl k).classify (s.slotAddress c) f with
    | .tester address => s.testerRequest k address
    | .answer => s.answerReceived c f.data
    | .other => s
  else s

/-! ### Timers (R132, R134) -/

/-- The expiry of the gap timer, while it runs: pending values are taken into use (R132, R133). -/
def Can.gapExpired (k : Can) : Can :=
  match k.gap with
  | none => k
  | some _ =>
    { k with gap := none, pace := k.pacePending.getD k.pace, pacePending := none,
             verdict := k.verdictPending.getD k.verdict, verdictPending := none }

/-- The verdict of a window (R134). -/
def windowVerdict (count threshold : Nat) : Verdict := if threshold < count then .busy else .quiet

/-- The expiry of the window timer, while it runs (R134).
DESIGN CHOICE: while the gap timer runs, a verdict equal to the one in use is stored as pending like any other, in place of an
earlier pending one; R134's "changes nothing" can be read to leave that one pending (log entry 58). -/
def Can.windowExpired (k : Can) (threshold : Nat) : Can :=
  match k.window with
  | none => k
  | some _ =>
    let v := windowVerdict k.windowCount threshold
    let k := { k with window := some 100, lastWindow := k.windowCount, windowCount := 0 }
    match k.gap with
    | none => { k with verdict := v }
    | some _ => { k with verdictPending := some v }

/-- The gap timer of a controller expired. -/
def State.gapExpired (s : State) (k : CanChannel) : State := s.withCan k (s.canCtl k).gapExpired

/-- The window timer of a controller expired. -/
def State.windowExpired (s : State) (k : CanChannel) : State :=
  s.withCan k ((s.canCtl k).windowExpired (s.setting (thresholdSetting k)))

/-! ### The commands -/

/-- CAN_ATTEMPT_START (R131). -/
def execCanAttemptStart (k : CanChannel) (s : State) : Host.Outcome State Fault Refusal := .next (s.canAttemptStart k)

/-- CAN_FRAME_SENT (R131). -/
def execCanFrameSent (k : CanChannel) (s : State) : Host.Outcome State Fault Refusal := .next (s.canFrameSent k)

/-- ARBITRATION_LOST (R131). -/
def execArbitrationLost (k : CanChannel) (s : State) : Host.Outcome State Fault Refusal := .next (s.arbitrationLost k)

/-- CAN_TRANSMIT_ERROR (R135). -/
def execCanTransmitError (k : CanChannel) (s : State) : Host.Outcome State Fault Refusal := .next (s.canTransmitError k)

/-- CAN_RECEIVE_ERROR (R135). -/
def execCanReceiveError (k : CanChannel) (s : State) : Host.Outcome State Fault Refusal := .next (s.canReceiveError k)

/-- CAN_FRAME_RECEIVED (R129). -/
def execCanFrameReceived (k : CanChannel) (f : CanFrame) (s : State) : Host.Outcome State Fault Refusal :=
  .next (if f.wellFormed then s.canFrameReceived k f else s)

/-- FOREIGN_TESTER_REQUEST (R130). -/
def execForeignTesterRequest (k : CanChannel) (address : BitVec 5) (s : State) : Host.Outcome State Fault Refusal :=
  .next (s.foreignTester k address)

/-- BUS_DOMINANT_TIMEOUT (R135). -/
def execBusDominantTimeout (k : CanChannel) (s : State) : Host.Outcome State Fault Refusal := .next (s.busDominant k)

/-- IDLE_SEQUENCE (R137). -/
def execIdleSequence (k : CanChannel) (s : State) : Host.Outcome State Fault Refusal := .next (s.idleSequence k)

/-- GAP_TIMER_EXPIRY (R132). -/
def execGapTimerExpiry (k : CanChannel) (s : State) : Host.Outcome State Fault Refusal := .next (s.gapExpired k)

/-- WINDOW_TIMER_EXPIRY (R134). -/
def execWindowTimerExpiry (k : CanChannel) (s : State) : Host.Outcome State Fault Refusal := .next (s.windowExpired k)

end Sys2Proof.Machine
end

