-- ==== Sys2Proof/Machine/LineEvents.lean ====
section
/-! DEFINITION. The commands of the single-wire line controller: edges (R140, R145, R148, R149, R151), sending and
read-back (R142, R143), turnaround (R144), the sync lock and reception (R145, R146), the wake pattern (R147), the stuck
monitor (R148) and the attention detector (R149 to R151). -/

namespace Sys2Proof.Machine

/-! ### The attention detector (R149, R150) -/

/-- The attention slot a captured width matches (R150): slot n takes the widths 20 + 16n .. 28 + 16n. -/
def attentionSlotOf (w : Nat) : Option Nat :=
  if 20 ≤ w ∧ w ≤ 268 ∧ (w - 20) % 16 ≤ 8 then some ((w - 20) / 16) else none

/-- The entry in use on channel S with an attention slot (R150). -/
def State.attentionEntry (s : State) (n : Nat) : Option ModuleIndex :=
  s.findEntry (fun e => e.channel == .s && e.attentionSlot == some n)

/-- A recognised pulse of a module: its flag set, ATTENTION queued, and the module handed to the sweep controller, which
weighs an append in RUNNING or runs its attention check in IDLE (R17, R19, R150). -/
def State.recognise (s : State) (i : ModuleIndex) : State :=
  let s := (s.withEntry i { s.entry i with attention := true }).notify (.attention i)
  if s.sweep.state = .idle then s.attentionCheck else s.weighAppend i

/-- A captured width mapped (R150). -/
def State.mapWidth (s : State) (w : Nat) : State :=
  match attentionSlotOf w with
  | none => s
  | some n =>
    match s.attentionEntry n with
    | none => s
    | some i => s.recognise i

/-- What an edge is to the detector (R149, R151). -/
inductive DetectorStep where
  | none
  | mark
  | capture
  | ends
  | release
  deriving DecidableEq, Repr

/-- What the edge into `level` is to the detector: from READY a falling edge starts MARK under HIGH and CAPTURE under
LOW; a rising edge ends MARK; CAPTURE ends at the edge that its polarity names; in RELEASE the timer is stopped or loaded
(R149, R151). -/
def detectorStep (polarityHigh : Bool) (level : Level) : Detector → DetectorStep
  | .ready => match level with | .low => if polarityHigh then .mark else .capture | .high => .none
  | .mark => match level with | .high => .capture | .low => .none
  | .capture => if polarityHigh == (level == .low) then .ends else .none
  | .release => .release
  | .suppressed => .none

/-- The detector moved by an edge, the level already taken (R149, R151). -/
def Line.moveDetector (l : Line) : DetectorStep → Line
  | .none => l
  | .mark => { l with detector := .mark }
  | .capture => { l with detector := .capture, width := 0 }
  | .ends => l.enterRelease
  | .release => l.enterRelease

/-! ### Edges (R140, R145, R148) -/

/-- The stuck timers at an edge, the level already taken (R148). -/
def Line.moveStuckTimers (l : Line) : Line :=
  match l.level with
  | .low =>
    { l with stuckTimer := if l.transmitter = .drivingWake then none else some 200, stuckClear := none }
  | .high => { l with stuckTimer := none, stuckClear := if l.stuck then some 100 else none }

/-- The receiver at an edge, the level already taken: a falling edge on an idle line takes it from HUNT to SYNC, after a
failed sync only when the line has rested one bit time (R145). -/
def Line.moveReceiver (l : Line) (rested : Bool) : Line :=
  if l.level = .low ∧ l.receiver = .hunt ∧ (!l.mustRest || rested) then
    { l with receiver := .sync, measuredSpan := none, buffer := [], mustRest := false }
  else l

/-- The samples of one bit time (R140). -/
def samplesPerBit : Nat := 16

/-- The filtered level of line S changes (R140, R145, R148, R149, R151). The receiver takes the edge as one on a rested
line where the level has been HIGH for one bit time. A pulse that the edge ends is mapped with the width counted (log
entry 25). -/
def State.lineEdge (s : State) (level : Level) : State :=
  if s.line.level = level then s
  else
    let move := detectorStep s.polarityHigh level s.line.detector
    let w := s.line.width
    let rested := samplesPerBit * s.samplePeriod ≤ s.line.idleTime
    let l := { s.line with level, filterRun := 0, idleTime := 0 }
    let s := s.withLine ((l.moveStuckTimers.moveReceiver rested).moveDetector move)
    if move = .ends then (s.mapWidth w).closeStep else s

/-- One sample of SWL_RX, a sample period after the last, through the filter: an agreeing one returns the filter run to 0, a disagreeing one raises it, and
the fourth disagreeing one in a row changes the filtered level (R140). -/
def State.takeSample (s : State) (x : Level) : State :=
  let l := s.line.idleFor s.samplePeriod
  if x = l.level then s.withLine { l with filterRun := 0 }
  else if 4 ≤ l.filterRun + 1 then (s.withLine l).lineEdge x
  else s.withLine { l with filterRun := l.filterRun + 1 }

/-- So many successive samples at one level (R140). -/
def State.takeSamples (s : State) (x : Level) : Nat → State
  | 0 => s
  | n + 1 => (s.takeSample x).takeSamples x n

/-- The level at which a pulse ends (R149). -/
def State.pulseEnd (s : State) : Level := if s.polarityHigh then .low else .high

/-- The idle time that a capture of this width shows: two units, 0.5 ms, are more than one bit time at every line rate, that of
2400 bit/s among them (R145). -/
def Line.idleOfWidth (l : Line) (w : Nat) : Nat :=
  if 2 ≤ w then samplesPerBit * LineRate.r2400.samplePeriod else l.idleTime

/-- The edge that ends a capture, with the captured width (R149, R150; log entry 25). -/
def State.attentionPulse (s : State) (w : Nat) : State :=
  if s.line.detector = .capture then
    (s.withLine { s.line with width := w, idleTime := s.line.idleOfWidth w }).lineEdge s.pulseEnd
  else s

/-- The width count would rise past 268: the pulse is ignored and the detector goes to RELEASE (R149; log entry 26).
DESIGN CHOICE: where the line is idle at that moment, as it is under HIGH polarity, the release timer is loaded with its 10 ms
at once; R151 names no load there (log entry 59). -/
def Line.widthOverflow (l : Line) : Line :=
  if l.detector = .capture then { l with width := 269 }.enterRelease else l

/-- The expiry of the release timer, while it runs, which it does on an idle line alone (R151; log entry 23). -/
def Line.releaseExpired (l : Line) : Line :=
  match l.detector, l.release, l.level with
  | .release, some _, .high => { l with detector := .ready, release := none }
  | _, _, _ => l

/-! ### Sending (R142 to R144, R147) -/

/-- Ten bit times at the line rate of a frame's module (R142). -/
def TxFrame.idleNeeded (f : TxFrame) : Nat :=
  match f.dest with
  | .line _ r => 10 * samplesPerBit * r.samplePeriod
  | .can _ => 0

/-- Whether the transmitter may start what it holds: IDLE, the channel OPEN, no frame being received, the line idle for at
least ten bit times at the module's line rate (R142). -/
def State.lineMayStart (s : State) (f : TxFrame) : Bool :=
  s.line.transmitter == .idle && s.shareState .s == .opened && s.line.receiver ≠ .sync && s.line.receiver ≠ .locked
    && s.line.level == .high && f.idleNeeded ≤ s.line.idleTime

/-- A held frame starts on line S; the receiver goes on as it is (R142, R152; log entry 24). -/
def State.lineTransmitStart (s : State) : State :=
  match s.line.holding with
  | some f =>
    if f.request ≠ .wake ∧ s.lineMayStart f then s.withLine (s.line.beginDriving .sending f) else s
  | none => s

/-- A held wake request starts on line S, to be driven for 25 ms; meanwhile the receiver is OFF and the stuck monitor does not
run (R147, R148). -/
def State.wakePatternStart (s : State) : State :=
  match s.line.holding with
  | some f =>
    if f.request = .wake ∧ s.lineMayStart f then
      s.withLine { s.line.receiverOff.beginDriving .drivingWake f with stuckTimer := none, wakeLeft := some 25 }
    else s
  | none => s

/-- The frame being sent, while the transmitter is in this state. -/
def Line.drivenFrame (l : Line) (t : Transmitter) : Option TxFrame := if l.transmitter = t then l.driving else none

/-- A frame of the part sent, its read-back matched to the end (R142, R143). -/
def State.lineFrameSent (s : State) : State :=
  match s.line.drivenFrame .sending with
  | none => s
  | some f =>
    let l := { s.line with echoMismatches := 0 }.enterTurnaround (s.setting .turnaroundBits)
    (((s.withLine l).slotFrameSent .s f).handNext .s).closeStep

/-- The echo mismatch count raised by an abandoned frame; from 2 it returns to 0 and ECHO_FAULT is handed to the share
unit, which silences when ECHO_SILENCE is on (R143, R158). -/
def State.countAbandoned (s : State) : State :=
  let n := s.line.echoMismatches
  if n < 2 then s.withLine { s.line with echoMismatches := n + 1 }
  else
    let s := s.withLine { s.line with echoMismatches := 0 }
    if s.setting .echoSilence = 1 then s.silence .s .echoFault else s

/-- A frame of the part abandoned on its read-back: its slot reacts, and a yield that waited for that is YIELDED (R156); then
the mismatch is counted (R143; log entry 30). -/
def State.lineFrameAbandoned (s : State) : State :=
  match s.line.drivenFrame .sending with
  | none => s
  | some f =>
    let s := s.withLine (s.line.enterTurnaround (s.setting .turnaroundBits))
    ((((s.slotFrameAbandoned f).handNext .s).yieldSettle .s).countAbandoned).closeStep

/-- The expiry of the turnaround timer, while it runs (R144). -/
def State.turnaroundExpired (s : State) : State :=
  if s.line.transmitter = .turnaround then s.withLine (s.line.transmitterIdle (s.slot .s).listens) else s

/-- The wake pattern ends: the line is released, turnaround starts, the slot loads its boot timer (R28, R147). -/
def State.wakePatternEnd (s : State) : State :=
  match s.line.drivenFrame .drivingWake with
  | none => s
  | some f =>
    let s := s.withLine (s.line.releaseWake (s.setting .turnaroundBits))
    ((s.slotFrameSent .s f).handNext .s).closeStep

/-! ### Receiving (R145, R146) -/

/-- The receiver back in HUNT, its measurement dropped and its buffer empty (R145, R146). -/
def Line.huntAgain (l : Line) (mustRest : Bool) : Line :=
  { l with receiver := .hunt, measuredSpan := none, buffer := [], mustRest }

/-- The three sync checks (R145): nine intervals of 12..20 sample periods, a span of 136..152, a HIGH stop bit. -/
def syncPasses (intervals : List Nat) (stop : Level) : Bool :=
  intervals.length == 9 && intervals.all (fun n => 12 ≤ n && n ≤ 20) && 136 ≤ intervals.sum && intervals.sum ≤ 152
    && stop == .high

/-- The sync of a frame judged at the middle of its stop bit (R145; the measured span is kept for its ninth, log
entry 27). -/
def Line.judgeSync (l : Line) (intervals : List Nat) (stop : Level) : Line :=
  if l.receiver = .sync then
    if syncPasses intervals stop then
      { l with receiver := .locked, measuredSpan := some intervals.sum, buffer := [], mustRest := false }
    else l.huntAgain true
  else l

/-- A frame discarded: a sync that failed makes the receiver wait for a rested line (R145, R146). -/
def Line.discard (l : Line) : Line :=
  match l.receiver with
  | .sync => l.huntAgain true
  | .locked => l.huntAgain false
  | _ => l

/-- A complete frame delivered where it comes from the slot's module and its body fits its service (R24, R141, R146). -/
def State.lineBodyReceived (s : State) (address : Nat) (body : List Byte) : State :=
  if address = s.slotAddress .s then s.answerReceived .s body else s

/-- The bytes of a locked frame, from its address to its check byte (R146). -/
def State.lineFrameReceived (s : State) (bytes : List Byte) : State :=
  if s.line.receiver = .locked then
    let s := s.withLine (s.line.huntAgain false)
    match parseLineFrame bytes with
    | some (address, body) => s.lineBodyReceived address body
    | none => s
  else s

/-! ### The stuck monitor (R148) -/

/-- The line held LOW for 200 ms (R148). -/
def State.stuckExpired (s : State) : State :=
  match s.line.stuckTimer with
  | none => s
  | some _ => ((s.withLine { s.line with stuckTimer := none, stuck := true }).silence .s .lineStuck).closeStep

/-- The line idle for 100 ms (R148). -/
def Line.stuckCleared (l : Line) : Line :=
  match l.stuckClear with
  | none => l
  | some _ => { l with stuckClear := none, stuck := false }

/-! ### The commands -/

/-- LINE_TRANSMIT_START (R142). -/
def execLineTransmitStart (s : State) : Host.Outcome State Fault Refusal := .next s.lineTransmitStart

/-- LINE_FRAME_SENT (R143). -/
def execLineFrameSent (s : State) : Host.Outcome State Fault Refusal := .next s.lineFrameSent

/-- LINE_FRAME_ABANDONED (R143). -/
def execLineFrameAbandoned (s : State) : Host.Outcome State Fault Refusal := .next s.lineFrameAbandoned

/-- TURNAROUND_TIMER_EXPIRY (R144). -/
def execTurnaroundTimerExpiry (s : State) : Host.Outcome State Fault Refusal := .next s.turnaroundExpired

/-- LINE_FRAME_RECEIVED (R146). -/
def execLineFrameReceived (bytes : List Byte) (s : State) : Host.Outcome State Fault Refusal :=
  .next (s.lineFrameReceived bytes)

/-- LINE_FRAME_DISCARDED (R146). -/
def execLineFrameDiscarded (s : State) : Host.Outcome State Fault Refusal := .next (s.withLine s.line.discard)

/-- WAKE_PATTERN_START (R147). -/
def execWakePatternStart (s : State) : Host.Outcome State Fault Refusal := .next s.wakePatternStart

/-- WAKE_PATTERN_END (R147). -/
def execWakePatternEnd (s : State) : Host.Outcome State Fault Refusal := .next s.wakePatternEnd

/-- STUCK_TIMER_EXPIRY (R148). -/
def execStuckTimerExpiry (s : State) : Host.Outcome State Fault Refusal := .next s.stuckExpired

/-- STUCK_CLEAR_TIMER_EXPIRY (R148). -/
def execStuckClearTimerExpiry (s : State) : Host.Outcome State Fault Refusal := .next (s.withLine s.line.stuckCleared)

/-- ATTENTION_PULSE (R150). -/
def execAttentionPulse (w : Nat) (s : State) : Host.Outcome State Fault Refusal := .next (s.attentionPulse w)

/-- WIDTH_OVERFLOW (R149). -/
def execWidthOverflow (s : State) : Host.Outcome State Fault Refusal := .next (s.withLine s.line.widthOverflow)

/-- RELEASE_TIMER_EXPIRY (R151). -/
def execReleaseTimerExpiry (s : State) : Host.Outcome State Fault Refusal := .next (s.withLine s.line.releaseExpired)

/-- LINE_EDGE (R140). -/
def execLineEdge (level : Level) (samples : Nat) (s : State) : Host.Outcome State Fault Refusal :=
  .next (s.takeSamples level samples)

/-- RECEIVER_LOCKED (R145). -/
def execReceiverLocked (intervals : List Nat) (stop : Level) (s : State) : Host.Outcome State Fault Refusal :=
  .next (s.withLine (s.line.judgeSync intervals stop))

end Sys2Proof.Machine
end

