-- ==== Sys2Proof/Machine/KeyEvents.lean ====
section
/-! DEFINITION. The commands of the share unit, the key monitor and the timebase: TPRES_CHANGE (R154),
RELEASE_HOLD_TIMER_EXPIRY (R157), KEY_OFF (R177), KEY_ON and SETTLE_TIMER_EXPIRY (R178), CHASSIS_TIME_ADVANCE (R91) and
FULL_RESET (R180). -/

namespace Sys2Proof.Machine

/-! ### The share unit's two inputs (R154, R157) -/

/-- The accepted TPRES level taken, the debounce run at 0 and the sampled pin at that level (R154; log entry 53). -/
def State.acceptTpres (s : State) (active : Bool) : State :=
  { s with share := { s.share with tpresActive := active, debounce := 0 }, pins := { s.pins with tpres := !active } }

/-- What a change of the accepted TPRES level is to one channel: a trigger occurrence on a socket channel, and the test of
R157 on a YIELDED one (R154, R157). -/
def State.tpresReaches (s : State) (c : Channel) : State :=
  (if s.isSocket c then s.triggerOccurs c else s).reopenIfClear c

/-- The accepted TPRES level changes (R154). That the channels are reached in the order A, B, S, and so queue their notices
in it, is the model's choice (log entry 51). -/
def State.tpresChange (s : State) (active : Bool) : State :=
  if s.share.tpresActive = active then s
  else (allChannels.foldl State.tpresReaches (s.acceptTpres active)).closeStep

/-- The expiry of a release hold timer, while it runs (R157). -/
def State.holdExpired (s : State) (c : Channel) : State :=
  match (s.shareOf c).hold with
  | none => s
  | some _ => ((s.withShareOf c { s.shareOf c with hold := none }).reopenIfClear c).closeStep

/-! ### The key (R177, R178) -/

/-- The key state taken, the filter run at 0 and the sampled pin at that level (R176). That a key command stands for the pin
having held the new level for the filter's 50 ms, and so moves the pin too, is the model's choice (log entry 53). -/
def State.acceptKey (s : State) (on : Bool) : State :=
  { s with key := { s.key with on, run := 0 }, pins := { s.pins with key := on } }

/-- Key-off: the settle timer stopped and settle expired cleared, then standby (R177). -/
def State.keyOff (s : State) : State :=
  if s.key.on then
    let s := s.acceptKey false
    { s with key := { s.key with settle := none, settled := false } }.standby
  else s

/-- Key-on: wake, then the settle timer loaded (R178). -/
def State.keyOn (s : State) : State :=
  if s.key.on then s
  else
    let s := (s.acceptKey true).wake
    { s with key := { s.key with settle := some (s.setting .keyOnSettle * 1000) } }

/-- Whether a key-on sweep is called for (R20). -/
def State.keyOnSweepCalled (s : State) : Bool := s.setting .autoKeyOn == 1 || s.straps.ksw

/-- The expiry of the settle timer, while it runs: a key-on sweep, or the attention check (R20, R178). -/
def State.settleExpired (s : State) : State :=
  match s.key.settle with
  | none => s
  | some _ =>
    let s := { s with key := { s.key with settle := none, settled := true } }
    (if s.keyOnSweepCalled && s.sweep.state == .idle then s.startSweep .keyOn s.defaultOptions .all
      else s.attentionCheck).closeStep

/-! ### Chassis time (R91) -/

/-- A second of key-on time completed: the millisecond count returns to 0 and T rises, held at its largest value
(R91). -/
def Clock.advance (k : Clock) : Clock := { k with ms := 0, t := if k.t = 0xFFFFFFFF then k.t else k.t + 1 }

/-- The tick at which the millisecond count reaches 1000 while the key is on (R91). With the count below 999 there is no such
tick: a REFERENCE_SET that has returned it to 0 leaves the advance it would have met undone (R93). -/
def State.chassisAdvance (s : State) : State :=
  if s.key.on && 1000 ≤ s.clock.ms + 1 then { s with clock := s.clock.advance } else s

/-! ### The commands -/

/-- TPRES_CHANGE (R154). -/
def execTpresChange (active : Bool) (s : State) : Host.Outcome State Fault Refusal := .next (s.tpresChange active)

/-- RELEASE_HOLD_TIMER_EXPIRY (R157). -/
def execReleaseHoldTimerExpiry (c : Channel) (s : State) : Host.Outcome State Fault Refusal := .next (s.holdExpired c)

/-- KEY_OFF (R177). -/
def execKeyOff (s : State) : Host.Outcome State Fault Refusal := .next s.keyOff

/-- KEY_ON (R178). -/
def execKeyOn (s : State) : Host.Outcome State Fault Refusal := .next s.keyOn

/-- SETTLE_TIMER_EXPIRY (R178). -/
def execSettleTimerExpiry (s : State) : Host.Outcome State Fault Refusal := .next s.settleExpired

/-- CHASSIS_TIME_ADVANCE (R91). -/
def execChassisTimeAdvance (s : State) : Host.Outcome State Fault Refusal := .next s.chassisAdvance

/-- FULL_RESET (R180): every item at its full-reset value with these pin levels; the commands that wait stay (they are
none of the part's). -/
def execFullReset (pins : ResetPins) (s : State) : Host.Outcome State Fault Refusal :=
  .next { State.afterReset pins with pending := s.pending }

end Sys2Proof.Machine
end

