-- ==== Sys2Proof/Machine/Dispatch.lean ====
section
/-! DEFINITION. The meaning of every command: one direct call per row of spec/opcode_table.json. -/

namespace Sys2Proof.Machine

def exec (i : Instr) (s : State) : Host.Outcome State Fault Refusal :=
  match i with
  | .ident payload => Sys2Proof.Machine.execIdent payload s
  | .status payload => Sys2Proof.Machine.execStatus payload s
  | .tablePut payload => Sys2Proof.Machine.execTablePut payload s
  | .tableGet payload => Sys2Proof.Machine.execTableGet payload s
  | .tableRemove payload => Sys2Proof.Machine.execTableRemove payload s
  | .profileLoad payload => Sys2Proof.Machine.execProfileLoad payload s
  | .profileGet payload => Sys2Proof.Machine.execProfileGet payload s
  | .profileUnload payload => Sys2Proof.Machine.execProfileUnload payload s
  | .bind payload => Sys2Proof.Machine.execBind payload s
  | .decline payload => Sys2Proof.Machine.execDecline payload s
  | .bindingsGet payload => Sys2Proof.Machine.execBindingsGet payload s
  | .settingsPut payload => Sys2Proof.Machine.execSettingsPut payload s
  | .settingsGet payload => Sys2Proof.Machine.execSettingsGet payload s
  | .referenceSet payload => Sys2Proof.Machine.execReferenceSet payload s
  | .sweep payload => Sys2Proof.Machine.execSweep payload s
  | .halt payload => Sys2Proof.Machine.execHalt payload s
  | .channelResume payload => Sys2Proof.Machine.execChannelResume payload s
  | .historyRead payload => Sys2Proof.Machine.execHistoryRead payload s
  | .historyPurge payload => Sys2Proof.Machine.execHistoryPurge payload s
  | .reset payload => Sys2Proof.Machine.execReset payload s
  | .unknownKindRequest kind payload => Sys2Proof.Machine.execUnknownKindRequest kind payload s
  | .hostFrameReceived bytes => Sys2Proof.Machine.execHostFrameReceived bytes s
  | .hostGapTimerExpiry => Sys2Proof.Machine.execHostGapTimerExpiry s
  | .outboundFrameSent => Sys2Proof.Machine.execOutboundFrameSent s
  | .dialogStart ch => Sys2Proof.Machine.execDialogStart ch s
  | .idReply ch tag clock flags => Sys2Proof.Machine.execIdReply ch tag clock flags s
  | .pageHead ch page count length flags sum => Sys2Proof.Machine.execPageHead ch page count length flags sum s
  | .segment ch index data => Sys2Proof.Machine.execSegment ch index data s
  | .holdOn ch n => Sys2Proof.Machine.execHoldOn ch n s
  | .deny ch reason => Sys2Proof.Machine.execDeny ch reason s
  | .eraseDone ch => Sys2Proof.Machine.execEraseDone ch s
  | .responseTimerExpiry ch => Sys2Proof.Machine.execResponseTimerExpiry ch s
  | .bootTimerExpiry ch => Sys2Proof.Machine.execBootTimerExpiry ch s
  | .keepAwakeTimerExpiry ch => Sys2Proof.Machine.execKeepAwakeTimerExpiry ch s
  | .referralTimerExpiry ch => Sys2Proof.Machine.execReferralTimerExpiry ch s
  | .canAttemptStart c => Sys2Proof.Machine.execCanAttemptStart c s
  | .canFrameSent c => Sys2Proof.Machine.execCanFrameSent c s
  | .arbitrationLost c => Sys2Proof.Machine.execArbitrationLost c s
  | .canTransmitError c => Sys2Proof.Machine.execCanTransmitError c s
  | .canReceiveError c => Sys2Proof.Machine.execCanReceiveError c s
  | .canFrameReceived c frame => Sys2Proof.Machine.execCanFrameReceived c frame s
  | .foreignTesterRequest c address => Sys2Proof.Machine.execForeignTesterRequest c address s
  | .busDominantTimeout c => Sys2Proof.Machine.execBusDominantTimeout c s
  | .idleSequence c => Sys2Proof.Machine.execIdleSequence c s
  | .gapTimerExpiry c => Sys2Proof.Machine.execGapTimerExpiry c s
  | .windowTimerExpiry c => Sys2Proof.Machine.execWindowTimerExpiry c s
  | .lineTransmitStart => Sys2Proof.Machine.execLineTransmitStart s
  | .lineFrameSent => Sys2Proof.Machine.execLineFrameSent s
  | .lineFrameAbandoned => Sys2Proof.Machine.execLineFrameAbandoned s
  | .turnaroundTimerExpiry => Sys2Proof.Machine.execTurnaroundTimerExpiry s
  | .lineFrameReceived bytes => Sys2Proof.Machine.execLineFrameReceived bytes s
  | .lineFrameDiscarded => Sys2Proof.Machine.execLineFrameDiscarded s
  | .wakePatternStart => Sys2Proof.Machine.execWakePatternStart s
  | .wakePatternEnd => Sys2Proof.Machine.execWakePatternEnd s
  | .stuckTimerExpiry => Sys2Proof.Machine.execStuckTimerExpiry s
  | .stuckClearTimerExpiry => Sys2Proof.Machine.execStuckClearTimerExpiry s
  | .attentionPulse width => Sys2Proof.Machine.execAttentionPulse width s
  | .widthOverflow => Sys2Proof.Machine.execWidthOverflow s
  | .releaseTimerExpiry => Sys2Proof.Machine.execReleaseTimerExpiry s
  | .tpresChange active => Sys2Proof.Machine.execTpresChange active s
  | .releaseHoldTimerExpiry ch => Sys2Proof.Machine.execReleaseHoldTimerExpiry ch s
  | .keyOff => Sys2Proof.Machine.execKeyOff s
  | .keyOn => Sys2Proof.Machine.execKeyOn s
  | .settleTimerExpiry => Sys2Proof.Machine.execSettleTimerExpiry s
  | .chassisTimeAdvance => Sys2Proof.Machine.execChassisTimeAdvance s
  | .fullReset pins => Sys2Proof.Machine.execFullReset pins s
  | .lineEdge level samples => Sys2Proof.Machine.execLineEdge level samples s
  | .receiverLocked intervals stop => Sys2Proof.Machine.execReceiverLocked intervals stop s

end Sys2Proof.Machine
end

