-- ==== Sys2Proof/Machine/Timebase.lean ====
section
/-! DEFINITION. The timebase (R179): one tick of 1 ms, which counts every millisecond timer down, runs the two filters
(R154, R176) and chassis time (R91), and carries out the expiries in the order of log entry 3. -/

namespace Sys2Proof.Machine

/-! ### Counting down -/

/-- A running timer with one millisecond less. -/
def tickTimer : Option Nat → Option Nat
  | none => none
  | some n => some (n - 1)

/-- A slot's timers one millisecond on (R25, R27, R28, R33). -/
def Slot.tick (x : Slot) : Slot :=
  { x with
    response := x.response.map (fun t => { left := t.left - 1, since := t.since + 1 }),
    boot := tickTimer x.boot,
    keepAwake := x.keepAwake.map (fun t => { t with left := t.left - 1 }),
    referral := tickTimer x.referral }

/-- The earliest start of a held frame one millisecond nearer (R132). -/
def TxFrame.tick (f : TxFrame) : TxFrame := { f with earliest := tickTimer f.earliest }

/-- The holding one millisecond on. -/
def Holding.tick : Holding → Holding
  | .empty => .empty
  | .waiting f => .waiting f.tick
  | .inProgress f b => .inProgress f b

/-- A CAN controller's timers one millisecond on (R132, R134). -/
def Can.tick (k : Can) : Can :=
  { k with gap := tickTimer k.gap, window := tickTimer k.window, holding := k.holding.tick }

/-- The bit times of one millisecond at a line rate, in fifths (R144). -/
def LineRate.fifthsPerMs : LineRate → Nat
  | .r2400 => 12
  | .r4800 => 24
  | .r9600 => 48
  | .r19200 => 96

/-- The fifths of a bit time that one millisecond takes off the turnaround timer (R144). -/
def Line.turnaroundPerMs (l : Line) : Nat := (l.driveRate.getD .r19200).fifthsPerMs

/-- The line controller's timers one millisecond on: the wake pattern's (R147), the turnaround timer by the bit times of that
millisecond (R144), the stuck timers (R148), and the release timer while the line is idle (R151; log entry 23). -/
def Line.tick (l : Line) : Line :=
  { l with
    wakeLeft := tickTimer l.wakeLeft, turnaround := l.turnaround.map (· - l.turnaroundPerMs),
    stuckTimer := tickTimer l.stuckTimer, stuckClear := tickTimer l.stuckClear,
    release := match l.level with | .high => tickTimer l.release | .low => l.release }

/-- The share unit's release hold timers one millisecond on (R154). -/
def Share.tick (h : Share) : Share :=
  let t (x : ShareChannel) : ShareChannel := { x with hold := tickTimer x.hold }
  { h with channels := ⟨t h.channels.a, t h.channels.b, t h.channels.s⟩ }

/-- Every millisecond timer one millisecond on (R179). -/
def State.countDown (s : State) : State :=
  { s with
    slots := ⟨s.slots.a.tick, s.slots.b.tick, s.slots.s.tick⟩,
    toHand := ⟨s.toHand.a.map TxFrame.tick, s.toHand.b.map TxFrame.tick, s.toHand.s.map TxFrame.tick⟩,
    can := ⟨s.can.a.tick, s.can.b.tick⟩,
    line := s.line.tick,
    share := s.share.tick,
    link := { s.link with assembler := { s.link.assembler with gap := tickTimer s.link.assembler.gap } },
    key := { s.key with settle := tickTimer s.key.settle } }

/-! ### The filters and chassis time -/

/-- The level of line S's last sample: the filtered level where the filter run is 0, else the other (R140). -/
def Line.lastSample (l : Line) : Level :=
  if l.filterRun = 0 then l.level else match l.level with | .high => .low | .low => .high

/-- What the samples of one millisecond, 307 sample periods of 19 200 bit/s, leave beside those counted: an idle line has been
idle for the rest of it, but one that the part drives has not (R142; log entry 55). -/
def Line.restOfMs (l : Line) (counted : Nat) : Line :=
  if l.transmitter.drives then { l with idleTime := 0 } else l.idleFor (307 - counted)

/-- The samples of one millisecond, 38 or more at every line rate, all at the level of the last one: a part-run filter runs
to its end, and an idle line has been idle for a millisecond more (R140, R142; log entry 55). -/
def State.sampleTick (s : State) : State :=
  let t := s.takeSamples s.line.lastSample 38
  t.withLine (t.line.restOfMs (38 * s.samplePeriod))

/-- The KEY filter at a tick (R176). -/
def State.keyFilter (s : State) : State :=
  if s.pins.key = s.key.on then { s with key := { s.key with run := 0 } }
  else if 50 ≤ s.key.run + 1 then (if s.pins.key then s.keyOn else s.keyOff)
  else { s with key := { s.key with run := s.key.run + 1 } }

/-- The TPRES debounce at a tick; the pin is active low (R154). -/
def State.tpresFilter (s : State) : State :=
  if (!s.pins.tpres) = s.share.tpresActive then { s with share := { s.share with debounce := 0 } }
  else if 10 ≤ s.share.debounce + 1 then s.tpresChange (!s.pins.tpres)
  else { s with share := { s.share with debounce := s.share.debounce + 1 } }

/-- Chassis time at a tick (R91). -/
def State.chassisTick (s : State) : State :=
  if s.key.on then
    if 1000 ≤ s.clock.ms + 1 then s.chassisAdvance else { s with clock := { s.clock with ms := s.clock.ms + 1 } }
  else s

/-! ### Expiries -/

/-- A timer that has run out at this tick. -/
def due (t : Option Nat) : Bool := t == some 0

/-- The expiries of one slot: response, boot, keep-awake, referral, each with all that follows from it. -/
def State.slotExpiries (s : State) (c : Channel) : State :=
  let s := if due ((s.slot c).response.map ResponseTimer.left) then (s.responseExpired c).closeStep else s
  let s := if due (s.slot c).boot then (s.bootTimerExpired c).closeStep else s
  let s := if due ((s.slot c).keepAwake.map AutoTimer.left) then s.keepAwakeExpired c else s
  if due (s.slot c).referral then (s.referralExpired c).closeStep else s

/-- The expiries of one CAN controller: gap, then window. -/
def State.canExpiries (s : State) (k : CanChannel) : State :=
  let s := if due (s.canCtl k).gap then s.gapExpired k else s
  if due (s.canCtl k).window then s.windowExpired k else s

/-- The width count over one millisecond of a capture: four units of 0.25 ms (R149). -/
def Line.countWidth (l : Line) : Line :=
  if l.detector = .capture then (if 268 < l.width + 4 then l.widthOverflow else { l with width := l.width + 4 }) else l

/-- The expiries of the line controller: the width count, release, turnaround, stuck, stuck clear, the end of a wake
pattern. -/
def State.lineExpiries (s : State) : State :=
  let s := s.withLine s.line.countWidth
  let s := if due s.line.release then s.withLine s.line.releaseExpired else s
  let s := if due s.line.turnaround then s.turnaroundExpired else s
  let s := if due s.line.stuckTimer then s.stuckExpired else s
  let s := if due s.line.stuckClear then s.withLine s.line.stuckCleared else s
  if due s.line.wakeLeft then s.wakePatternEnd else s

/-- The expiry of a release hold timer, where it is due. -/
def State.holdExpiries (s : State) (c : Channel) : State := if due (s.shareOf c).hold then s.holdExpired c else s

/-- One tick of the timebase (R179; log entries 2 and 3). -/
def State.tick (s : State) : State :=
  let s := s.sampleTick.countDown.keyFilter.tpresFilter.chassisTick
  let s := if due s.link.assembler.gap then s.hostGapExpired else s
  let s := allChannels.foldl State.holdExpiries s
  let s := allCanChannels.foldl State.canExpiries s
  let s := allChannels.foldl State.slotExpiries s
  let s := s.lineExpiries
  if due s.key.settle then s.settleExpired else s

end Sys2Proof.Machine
end

