-- ==== Sys2Proof/Machine/Step.lean ====
section
/-! DEFINITION. One step: the command at the front of the queue, or, on an empty queue, the part's own work. -/

namespace Sys2Proof.Machine

/-- The part left to itself for one step (log entry 2): the request handler takes the oldest waiting request while it can
(R167); otherwise one millisecond passes (R179). -/
def State.idleStep (s : State) : State :=
  match s.link.requests with
  | [] => s.tick
  | f :: rest => if s.link.canTake then (s.withLink { s.link with requests := rest }).serve f (State.handleFrame f) else s.tick

/-- One step: the command at the front of the queue is carried out on the rest of the queue; with no command waiting, the
part is left to itself. -/
def step (s : State) : Host.Outcome State Fault Refusal :=
  match s.pending with
  | [] => .next s.idleStep
  | i :: rest => exec i { s with pending := rest }

/-- The state with the command that a word spells at the front of its queue; no row of the table gives bits, so no word
spells one. -/
def State.withFetchWord (s : State) (nbits w : Nat) : State :=
  match decodeTableWord nbits w with
  | some i => { s with pending := i :: s.pending }
  | none => s

end Sys2Proof.Machine
end

