-- ==== Sys2Proof/Safety.lean ====
section
/-! DEFINITION. What every run of the part keeps: the bounds of its queues (R165, R168), the form of its history table
(R105 to R110), and the ranges of its settings (R171). -/

namespace Sys2Proof.Machine

/-! ### The queues (R165, R168) -/

/-- At most 4 requests wait, none is left in service by a step, and the outbound queue holds at most 12 notices and at
most 4 replies (R165). -/
abbrev Link.bounded (l : Link) : Prop :=
  l.requests.length ≤ 4 ∧ l.inService = none ∧ l.noticesHeld ≤ 12 ∧ l.repliesHeld ≤ 4

/-! ### The history table (R105 to R110) -/

/-- The records stand in ascending number (R109). -/
abbrev ascending (rs : List Record) : Prop := rs.Pairwise (fun a b => a.number.toNat < b.number.toNat)

/-- No two records have the same module and fault code (R105). -/
abbrev oneEach (rs : List Record) : Prop := rs.Pairwise (fun a b => ¬ (a.module = b.module ∧ a.code = b.code))

/-- A record's number is never 0 (R108), and a record that is GONE never has SIGHTED set (R106). -/
abbrev Record.sound (r : Record) : Prop := r.number ≠ 0 ∧ (r.state = .gone → r.sighted = false)

/-- The form of the history table: at most 384 records in ascending number, one for each module and code, each of them
sound; the pool bytes in use are their snapshot bytes, at most 3072; the next number is never 0 (R105 to R110). -/
abbrev History.wf (h : History) : Prop :=
  ascending h.records ∧ oneEach h.records ∧ h.records.length ≤ maxRecords ∧ (∀ r ∈ h.records, r.sound)
    ∧ h.poolUsed = snapshotBytes h.records ∧ h.poolUsed ≤ poolSize ∧ h.next ≠ 0

/-! ### The settings (R127, R171) -/

/-- The stored values a setting can have (R127, R171). -/
def SettingRange.holds : SettingRange → Nat → Bool
  | .codes max, v => v ≤ max
  | .range lo hi, v => lo ≤ v && v ≤ hi
  | .canBase, v => v ≤ 0x7C0 && v % 32 == 0
  | .canRate, v => v == 125 || v == 250 || v == 500 || v == 1000

/-- Every setting holds a value of its range, and the bases of each CAN channel differ (R127, R171). -/
abbrev State.legalSettings (s : State) : Prop :=
  (∀ i ∈ allSettings, i.range.holds (s.setting i))
    ∧ ∀ k ∈ allCanChannels, s.setting (requestBaseSetting k) ≠ s.setting (responseBaseSetting k)

/-! ### What the part's own work never changes (R52, R57) -/

/-- The configured fields of an entry, with whether it is in use: the host alone writes them (R52). -/
def Entry.configured (e : Entry) :
    Bool × Channel × Nat × Bool × Nat × BootStep × Nat × Nat × Option LineRate × Option Nat :=
  (e.inUse, e.channel, e.address, e.sleepy, e.bootWait, e.bootStep, e.responseWait, e.retries, e.lineRate,
    e.attentionSlot)

end Sys2Proof.Machine
end

