-- ==== Sys2Proof/Certificates/Slice0/Obligations.lean ====
section
/-! DEFINITION. The statements about the part, for the provers: first the words they share, then one definition per
statement, block by block in the order of the manual's chapters. -/

open Sys2Proof Sys2Proof.Machine

namespace Sys2Proof.Claim

/-! ### The host link -/

/-- The request handler can take a request and none waits: no request in the queue or in service, and fewer than 4
replies held (R167). -/
abbrev Ready (s : State) : Prop := s.link.requests = [] ∧ s.link.inService = none ∧ s.link.repliesHeld < 4

/-- The state with one reply queued: its frame KIND, its status and the bytes after the status (R168, R169). -/
def answered (s : State) (kind : Byte) (st : Status) (content : List Byte := []) : State :=
  { s with link := { s.link with outbound := s.link.outbound ++ [.reply kind st content] } }

/-- The state with a notice queued while fewer than 12 are held, and dropped with NOTICES_LOST set otherwise (R168). -/
def noticed (s : State) (n : Notice) : State :=
  { s with link :=
      if (s.link.outbound.filter OutFrame.isNotice).length < 12 then
        { s.link with outbound := s.link.outbound ++ [.notice n] }
      else { s.link with noticesLost := true } }

/-- The request frame of a request command: its KIND and its payload (R169). -/
def requestOf : Instr → Option HostFrame
  | .ident p => some ⟨0x01, p⟩ | .status p => some ⟨0x02, p⟩ | .tablePut p => some ⟨0x03, p⟩
  | .tableGet p => some ⟨0x04, p⟩ | .tableRemove p => some ⟨0x05, p⟩ | .profileLoad p => some ⟨0x06, p⟩
  | .profileGet p => some ⟨0x07, p⟩ | .profileUnload p => some ⟨0x08, p⟩ | .bind p => some ⟨0x09, p⟩
  | .decline p => some ⟨0x0A, p⟩ | .bindingsGet p => some ⟨0x0B, p⟩ | .settingsPut p => some ⟨0x0C, p⟩
  | .settingsGet p => some ⟨0x0D, p⟩ | .referenceSet p => some ⟨0x0E, p⟩ | .sweep p => some ⟨0x0F, p⟩
  | .halt p => some ⟨0x10, p⟩ | .channelResume p => some ⟨0x11, p⟩ | .historyRead p => some ⟨0x12, p⟩
  | .historyPurge p => some ⟨0x13, p⟩ | .reset p => some ⟨0x14, p⟩
  | .unknownKindRequest k p => some ⟨k, p⟩
  | _ => none

/-- The payload lengths that the table of R169 allows a KIND. -/
def lengthAllowed (kind : Byte) (n : Nat) : Bool :=
  match kind.toNat with
  | 0x03 => n == 9 | 0x04 => n == 1 | 0x05 => n == 2 | 0x06 => n == 22 | 0x07 => n == 1 | 0x08 => n == 1
  | 0x09 => n == 3 | 0x0A => n == 2 | 0x0C => 3 ≤ n && n ≤ 75 && n % 3 == 0 | 0x0D => n ≤ 25 | 0x0E => n == 9
  | 0x0F => 2 ≤ n && n ≤ 50 | 0x11 => n == 1 | 0x12 => n == 7 | _ => n == 0

/-- A byte received without a framing error. -/
def good (b : Byte) : LineByte := { value := b }

/-- The bytes of a request frame on HRXD: sync, LEN, KIND, payload, SUM (R166). -/
def frameBytes (kind : Byte) (payload : List Byte) : List Byte :=
  0xA7 :: byte payload.length :: kind :: payload ++ [0 - (byte payload.length + kind + sum8 payload)]

/-! ### What a step leaves settled -/

/-- A step leaves nothing to settle: no yield waits for a slot that is FREE or PARKED (R156), no sweep has met its end
condition (R12), and TGNT and PNEED are as R160 gives them. -/
def Settled (s : State) : Prop :=
  (∀ c, s.shareState c = .yieldPending → (s.slot c).state ≠ .free ∧ (s.slot c).state ≠ .parked)
    ∧ s.sweepDone = false ∧ s.share.tgnt = s.tgntValue ∧ s.share.pneed = s.pneedValue

/-- With the key off no sweep exists and the settle timer is stopped (R15, R177). -/
def KeyOffRests (s : State) : Prop := s.key.on = false → s.sweep.state = .idle ∧ s.key.settle = none

/-- Whether some slot waits on a referral for a tag (R66). -/
def waitedFor (s : State) (tag : Word16) : Prop := ∃ c, (s.slot c).waitsOnReferral = true ∧ (s.slot c).tag = some tag

end Sys2Proof.Claim

open Sys2Proof.Claim

/-! ### The queue of commands -/

/-- The command at the front of the queue is carried out on the rest of the queue. -/
def Obligations.StepRunsTheFrontCommand : Prop :=
  ∀ (c : Instr) (s : State), step { s with pending := c :: s.pending } = exec c s

/-- Every command completes in every state and leaves the queue of commands as it is. Nothing in the manual stops the part;
that a command which the part's state rules out completes with that state as it is, is the model's choice (log entry 1), and
so is it that a full reset keeps the queue, which is the model's own (log entry 41). -/
def Obligations.EveryCommandCompletes : Prop :=
  ∀ (c : Instr) (s : State), ∃ t, exec c s = .next t ∧ t.pending = s.pending

/-- On an empty queue the part is left to itself: it takes the oldest waiting request while it can, and otherwise one
millisecond passes. The model's choice (log entry 2). -/
def Obligations.IdleStepServesOrTicks : Prop :=
  ∀ s : State, s.pending = [] →
    (∀ f rest, s.link.requests = f :: rest → s.link.inService = none → s.link.repliesHeld < 4 →
      ∀ c, requestOf c = some f → step s = exec c s)
    ∧ ((s.link.requests = [] ∨ s.link.inService ≠ none ∨ 4 ≤ s.link.repliesHeld) → step s = .next s.tick)

/-! ### The host link (R165 to R173) -/

/-- A well-formed frame whose bytes arrive whole, in HUNT, is appended to a request queue that holds fewer than 4
requests, and is otherwise discarded with FRAME_REJECTED (QUEUE_FULL, its KIND); the assembler is back in HUNT with its
gap timer stopped, and nothing else changes (R166, R167). -/
def Sys2Proof.Claim.WellFormedFrameIsOffered : Prop :=
  ∀ (s : State) (kind : Byte) (payload : List Byte), payload.length ≤ 250 → s.link.assembler = {} →
    exec (.hostFrameReceived ((frameBytes kind payload).map good)) s =
      .next (if s.link.requests.length < 4 then
          { s with link := { s.link with requests := s.link.requests ++ [⟨kind, payload⟩] } }
        else noticed s (.frameRejected .queueFull kind))

/-- What discards a frame in assembly: the gap timer's expiry (GAP), a byte with a framing error outside HUNT
(BYTE_ERROR), a LEN above 250 (TOO_LONG), a wrong SUM (BAD_SUM). Each returns the assembler to HUNT and queues
FRAME_REJECTED with the KIND byte once KIND has been passed, and in HUNT no byte but 0xA7 has an effect (R166). With the gap
timer stopped its expiry, as a command, does nothing: the model's choice (log entry 1). -/
def Sys2Proof.Claim.DiscardedFrames : Prop :=
  ∀ (s : State),
    let a := s.link.assembler
    let kind := if a.state = .payload ∨ a.state = .sum then a.kind else 0
    let hunting : State := { s with link := { s.link with assembler := {} } }
    exec .hostGapTimerExpiry s =
        .next (if a.gap.isSome then noticed hunting (.frameRejected .gap kind) else s)
    ∧ (a.state = .hunt → ∀ b : LineByte, b.value ≠ 0xA7 ∨ b.framingError = true →
        exec (.hostFrameReceived [b]) s = .next s)
    ∧ (a.state ≠ .hunt → ∀ b : Byte,
        exec (.hostFrameReceived [⟨b, true⟩]) s = .next (noticed hunting (.frameRejected .byteError kind)))
    ∧ (a.state = .length → ∀ b : Byte, 250 < b.toNat →
        exec (.hostFrameReceived [good b]) s = .next (noticed hunting (.frameRejected .tooLong 0)))
    ∧ (a.state = .sum → ∀ b : Byte, byte a.len + a.kind + sum8 a.payload + b ≠ 0 →
        exec (.hostFrameReceived [good b]) s = .next (noticed hunting (.frameRejected .badSum a.kind)))

/-- The frame that has been sent, the oldest, leaves the outbound queue; the others keep their order and nothing else
changes (R168). -/
def Sys2Proof.Claim.SentFrameLeavesTheQueue : Prop :=
  ∀ (s : State) (f : OutFrame) (fs : List OutFrame), s.link.outbound = f :: fs →
    exec .outboundFrameSent s = .next { s with link := { s.link with outbound := fs } }

/-- The frames of the host link: one assembled whole is offered to the request queue, one that fails is discarded, and the
oldest outbound one leaves when it has been sent (R166 to R168). -/
def Obligations.HostFramesAreAssembledDiscardedAndSent : Prop :=
  WellFormedFrameIsOffered ∧ DiscardedFrames ∧ SentFrameLeavesTheQueue

/-- A request that comes while the handler cannot take it waits: it is appended to a request queue that holds fewer than
4, and is discarded with FRAME_REJECTED (QUEUE_FULL) by a full one (R167; that a request command is offered to the queue is
the model's choice, log entry 5). -/
def Sys2Proof.Claim.RequestsWaitForTheHandler : Prop :=
  ∀ (s : State) (c : Instr) (f : HostFrame), requestOf c = some f → s.link.requests.head? ≠ some f →
    (s.link.requests ≠ [] ∨ s.link.inService ≠ none ∨ 4 ≤ s.link.repliesHeld) →
    exec c s =
      .next (if s.link.requests.length < 4 then { s with link := { s.link with requests := s.link.requests ++ [f] } }
        else noticed s (.frameRejected .queueFull f.kind))

/-- Every request that the handler takes gets exactly one reply, and none is left in service: the replies held rise by
one, and what the queue held stays in front of what the request queues, unless the request is RESET, which discards
notices (R167, R173). -/
def Sys2Proof.Claim.EveryRequestGetsOneReply : Prop :=
  ∀ (s : State) (c : Instr) (f : HostFrame), Ready s → requestOf c = some f →
    ∃ t, exec c s = .next t ∧ t.link.requests = [] ∧ t.link.inService = none
      ∧ t.link.repliesHeld = s.link.repliesHeld + 1
      ∧ (f.kind ≠ 0x14 → s.link.outbound <+: t.link.outbound)

/-- A request waits while the handler cannot take it, and gets exactly one reply when it is taken (R167, R169, R173). -/
def Obligations.RequestsWaitAndGetOneReply : Prop :=
  RequestsWaitForTheHandler ∧ EveryRequestGetsOneReply

/-- IDENT reports the part code 0x3148, the silicon revision, the baud code and the KSW level latched, and changes no
state; with a payload it is BAD_FORM (R169, R170; the revision is a free value, log entry 8). -/
def Sys2Proof.Claim.IdentReportsThePart : Prop :=
  ∀ s : State, Ready s →
    exec (.ident []) s =
        .next (answered s 0x81 .done
          [0x31, 0x48, Config.siliconRevision,
            (if s.straps.br1 then 2 else 0) + (if s.straps.br0 then 1 else 0), if s.straps.ksw then 1 else 0])
      ∧ ∀ payload, payload ≠ [] → exec (.ident payload) s = .next (answered s 0x81 .badForm)

/-- The tag that a channel's slot waits on in the STATUS reply, 0x0000 where it waits on none (R66, R174). -/
def Sys2Proof.Claim.tagWaitedOn (s : State) (c : Channel) : Word16 :=
  if (s.slot c).state = .referred ∨ ((s.slot c).state = .parked ∧ (s.slot c).resume = .refer) then
    (s.slot c).tag.getD 0
  else 0

/-- The eight bytes of a CAN channel in the STATUS reply (10.6, bytes 41 to 56). -/
def Sys2Proof.Claim.canStatus (k : Can) : List Byte :=
  [k.errorState.code, byte k.transmitErrors, byte k.receiveErrors, k.verdict.code] ++ num16 k.lastWindow
    ++ [byte k.pace, k.rate.code]

/-- The bytes 1 to 67 of the STATUS reply, field by field as 10.6 lays them out. -/
def Sys2Proof.Claim.statusContent (s : State) : List Byte :=
  let module (c : Channel) : Byte := match (s.slot c).module with | some i => byte i.val | none => 0xFF
  [flagsByte [s.link.noticesLost, s.key.on, s.key.settled, s.share.tpresActive, s.share.tgnt, s.share.pneed],
      s.sweep.state.code]
    ++ bytes16 s.sweep.number
    ++ [byte s.sweep.lists.a.length, byte s.sweep.lists.b.length, byte s.sweep.lists.s.length,
      (s.slot .a).state.code, (s.slot .b).state.code, (s.slot .s).state.code, module .a, module .b, module .s]
    ++ bytes16 (tagWaitedOn s .a) ++ bytes16 (tagWaitedOn s .b) ++ bytes16 (tagWaitedOn s .s)
    ++ [byte (s.store.loaded.toList.countP Option.isSome), byte s.store.bindings.length]
    ++ bytes32 s.clock.t ++ bytes32 s.clock.d ++ [flagsByte [s.clock.tSet, s.clock.dSet]]
    ++ num16 s.history.records.length ++ num16 (s.history.records.countP (fun r => r.unread))
    ++ num16 s.history.poolUsed ++ bytes32 s.history.next
    ++ canStatus s.can.a ++ canStatus s.can.b
    ++ [s.line.transmitter.code, s.line.receiver.code, byte s.line.echoMismatches, if s.line.stuck then 1 else 0,
      s.line.detector.code]
    ++ [(s.shareState .a).code, (s.shareState .b).code, (s.shareState .s).code]
    ++ [(s.shareOf .a).causes.code, (s.shareOf .b).causes.code, (s.shareOf .s).causes.code]

/-- STATUS replies with its 67 bytes as the state stands when it is taken, NOTICES_LOST as it stood among them, then clears
NOTICES_LOST, and changes nothing else; with a payload it is BAD_FORM (R169, R170, 10.6). -/
def Sys2Proof.Claim.StatusReportsAndClearsTheFlag : Prop :=
  ∀ s : State, Ready s →
    (statusContent s).length = 67
      ∧ exec (.status []) s =
          .next
            (let t := answered s 0x82 .done (statusContent s)
             { t with link := { t.link with noticesLost := false } })
      ∧ ∀ payload, payload ≠ [] → exec (.status payload) s = .next (answered s 0x82 .badForm)

/-- IDENT and STATUS report, and STATUS alone changes the state: it clears NOTICES_LOST; either with a payload is BAD_FORM
(R169, R170; the silicon revision is a free value, log entry 8). -/
def Obligations.IdentAndStatusReport : Prop :=
  IdentReportsThePart ∧ StatusReportsAndClearsTheFlag

/-- A KIND that names no request gets UNKNOWN_KIND, which carries the KIND, and changes no state (R169). -/
def Sys2Proof.Claim.UnknownKindIsAnswered : Prop :=
  ∀ (s : State) (kind : Byte) (payload : List Byte), Ready s → ¬ (1 ≤ kind.toNat ∧ kind.toNat ≤ 0x14) →
    exec (.unknownKindRequest kind payload) s = .next (answered s (0x80 + kind % 0x80) .unknownKind [kind])

/-- A payload whose length the layout of its request does not allow gives BAD_FORM, with the status byte alone, and
changes no state, for every request (R169). For CHANNEL_RESUME, so is the reply to a payload that names no channel; that
it then carries no share state is the model's choice (log entry 38). -/
def Sys2Proof.Claim.WrongLengthIsBadForm : Prop :=
  ∀ (s : State) (c : Instr) (f : HostFrame), Ready s → requestOf c = some f → 1 ≤ f.kind.toNat → f.kind.toNat ≤ 0x14 →
    (lengthAllowed f.kind f.payload.length = false
      ∨ f.kind = 0x11 ∧ ∀ ch, f.payload ≠ [channelCode ch]) →
    exec c s = .next (answered s (0x80 + f.kind) .badForm)

/-! ### The module table (R58 to R63) -/

namespace Sys2Proof.Claim

/-- The entry that a TABLE_PUT writes (R58 step 4, R59 steps 1 and 2). -/
def writtenEntry (c : Channel) (address flags boot wait retries rate slot : Byte) : Entry where
  inUse := true
  channel := c
  address := address.toNat
  sleepy := flags.getLsbD 0
  bootWait := boot.toNat
  bootStep := if flags.getLsbD 1 then .coarse else .fine
  responseWait := if wait = 0 then 15 else wait.toNat
  retries := min 3 retries.toNat
  lineRate := if c = .s then LineRate.ofCode rate else none
  attentionSlot := if c = .s ∧ flags.getLsbD 2 = true then some slot.toNat else none
  resolution := .unresolved
  lastOutcome := none
  lastSweep := 0
  attention := false

/-- What R58 step 1 and R169 step 3 refuse in a TABLE_PUT whose index is 0..47 and whose channel code is 0..2. -/
def putFormBad (c : Channel) (address flags rate slot : Byte) : Prop :=
  8 ≤ flags.toNat ∨ (c ≠ .s ∧ 31 < address.toNat)
    ∨ (c = .s ∧ (15 < address.toNat ∨ 3 < rate.toNat ∨ (flags.getLsbD 2 = true ∧ 15 < slot.toNat)))

/-- What R58 step 2 refuses: another entry in use with the same channel and address, or on S the same attention slot. -/
def putClashes (s : State) (i : ModuleIndex) (e : Entry) : Prop :=
  ∃ j, j ≠ i ∧ (s.entry j).inUse = true ∧
    ((s.entry j).channel = e.channel ∧ (s.entry j).address = e.address
      ∨ e.channel = .s ∧ (s.entry j).channel = .s ∧ e.attentionSlot ≠ none
          ∧ (s.entry j).attentionSlot = e.attentionSlot)

/-- The entry is engaged: a slot that is not FREE holds it, or a work list names it (R57). -/
def isEngaged (s : State) (i : ModuleIndex) : Prop :=
  ∃ c, ((s.slot c).state ≠ .free ∧ (s.slot c).module = some i) ∨ i ∈ s.workList c

/-- The sweep controller with the reached and appended marks of an entry cleared while a sweep runs (R59, R63). -/
def marksCleared (w : Sweep) (i : ModuleIndex) : Sweep :=
  if w.state = .idle then w
  else { w with reached := w.reached.set i false, appended := w.appended.set i false }

end Sys2Proof.Claim

/-- TABLE_PUT checks form, uniqueness and engagement in that order, each refusal with its status alone and no change of
state; passing all, it writes the entry with its running fields at their starting values, clears its marks while a sweep
runs, and replies with the entry as it now stands, DONE_ADJUSTED where a response wait of 0 or a retries value above 3 was
changed (R58, R59). The history and everything else stay. -/
def Obligations.TablePutChecksAndWrites : Prop :=
  ∀ (s : State) (i : ModuleIndex) (c : Channel) (address flags boot wait retries rate slot : Byte), Ready s →
    let r := exec (.tablePut [byte i, channelCode c, address, flags, boot, wait, retries, rate, slot]) s
    let e := writtenEntry c address flags boot wait retries rate slot
    (putFormBad c address flags rate slot ∨ putClashes s i e → r = .next (answered s 0x83 .badForm))
    ∧ (¬ putFormBad c address flags rate slot → ¬ putClashes s i e → isEngaged s i → r = .next (answered s 0x83 .busy))
    ∧ (¬ putFormBad c address flags rate slot → ¬ putClashes s i e → ¬ isEngaged s i →
        r = .next
          (answered { s with table := s.table.set i e, sweep := marksCleared s.sweep i } 0x83
            (if wait = 0 ∨ 3 < retries.toNat then .doneAdjusted else .done) (configuredBytes i e)))

/-- A TABLE_PUT whose index is above 47 or whose channel code is above 2 is BAD_FORM, and changes nothing (R58,
step 1). -/
def Sys2Proof.Claim.TablePutNamesAnEntryAndAChannel : Prop :=
  ∀ (s : State) (index ch : Byte) (rest : List Byte), Ready s → rest.length = 7 → (47 < index.toNat ∨ 2 < ch.toNat) →
    exec (.tablePut (index :: ch :: rest)) s = .next (answered s 0x83 .badForm)

/-- TABLE_GET of an entry in use carries its configured fields, its resolution, its last outcome and sweep number,
attention pending, its engagement and the number of its records; of an entry not in use it is ABSENT; index 0xFF carries
four bytes for each of the 48 entries; any other index is BAD_FORM. It changes no state (R61). -/
def Sys2Proof.Claim.TableGetReadsTheTable : Prop :=
  ∀ s : State, Ready s →
    (∀ i : ModuleIndex, (s.entry i).inUse = true →
      exec (.tableGet [byte i]) s =
        .next (answered s 0x84 .done
          (configuredBytes i (s.entry i)
            ++ (match (s.entry i).resolution with
                | .unresolved => [0, 0xFF, 0, 0]
                | .resolved ref t => [1, ref.code] ++ bytes16 t
                | .declined t => [2, 0xFF] ++ bytes16 t)
            ++ [lastOutcomeCode (s.entry i).lastOutcome] ++ bytes16 (s.entry i).lastSweep
            ++ [flagByte (s.entry i).attention, if s.inSlot i then 2 else if s.listed i then 1 else 0]
            ++ num16 (s.history.records.countP (fun r => r.module == i)))))
    ∧ (∀ i : ModuleIndex, (s.entry i).inUse = false → exec (.tableGet [byte i]) s = .next (answered s 0x84 .absent))
    ∧ exec (.tableGet [0xFF]) s =
        .next (answered s 0x84 .done
          (allModules.flatMap (fun i =>
            [flagsByte [(s.entry i).inUse, (s.entry i).attention], lastOutcomeCode (s.entry i).lastOutcome]
              ++ bytes16 (s.entry i).lastSweep)))
    ∧ (∀ b : Byte, 47 < b.toNat → b ≠ 0xFF → exec (.tableGet [b]) s = .next (answered s 0x84 .badForm))

/-- TABLE_REMOVE checks presence, engagement and, with the flag clear, that no record names the entry; each refusal
changes nothing. Passing, it removes the entry's records with their snapshot bytes when the flag is set, returns the entry
to the cleared form, clears its marks while a sweep runs, and replies with the number of records removed (R62, R63). -/
def Sys2Proof.Claim.TableRemoveOfAnEntry : Prop :=
  ∀ (s : State) (i : ModuleIndex) (withHistory : Bool), Ready s →
    let r := exec (.tableRemove [byte i, flagByte withHistory]) s
    let held := s.history.records.countP (fun x => x.module == i)
    ((s.entry i).inUse = false → r = .next (answered s 0x85 .absent))
    ∧ ((s.entry i).inUse = true → (isEngaged s i ∨ (withHistory = false ∧ held ≠ 0)) →
        r = .next (answered s 0x85 .busy))
    ∧ ((s.entry i).inUse = true → ¬ isEngaged s i → (withHistory = true ∨ held = 0) →
        r = .next
          (answered
            { s with
              table := s.table.set i {}, sweep := marksCleared s.sweep i,
              history :=
                if withHistory then
                  { s.history with
                    records := s.history.records.filter (fun x => x.module != i),
                    poolUsed := s.history.poolUsed
                      - snapshotBytes (s.history.records.filter (fun x => x.module == i)) }
                else s.history }
            0x85 .done (num16 held)))

/-- A TABLE_REMOVE whose index is above 47 or whose flag byte has a bit other than bit 0 is BAD_FORM, and changes nothing
(R62, R169). -/
def Sys2Proof.Claim.TableRemoveForm : Prop :=
  ∀ (s : State) (index flags : Byte), Ready s → (47 < index.toNat ∨ 2 ≤ flags.toNat) →
    exec (.tableRemove [index, flags]) s = .next (answered s 0x85 .badForm)

/-- TABLE_REMOVE is checked for its form, then for presence, engagement and records, and is refused without a change or
carried out (R62, R63). -/
def Obligations.TableRemoveChecksAndRemoves : Prop :=
  TableRemoveForm ∧ TableRemoveOfAnEntry

/-! ### Profiles and bindings (R69 to R82) -/

namespace Sys2Proof.Claim

/-- A dialog slot that is not FREE has this loaded profile in use (R73). -/
def loadedInUse (s : State) (n : Fin 12) : Prop :=
  ∃ c, (s.slot c).state ≠ .free ∧ (s.slot c).profile = some (.loaded n)

/-- What the release of a loaded slot does: its bindings removed, the entries RESOLVED to it UNRESOLVED (R72). -/
def released (s : State) (n : Fin 12) : State :=
  { s with
    store := { s.store with bindings := s.store.bindings.filter (fun b => b.target != .profile (.loaded n)) },
    table := s.table.map (fun e =>
      match e.resolution with
      | .resolved ref _ => if ref = .loaded n then { e with resolution := .unresolved } else e
      | _ => e) }

/-- The two numbers that a release reports: bindings removed and entries returned to UNRESOLVED (R70, R72). -/
def releaseNumbers (s : State) (n : Fin 12) : List Byte :=
  [byte (s.store.bindings.countP (fun b => b.target == .profile (.loaded n))),
    byte (s.table.toList.countP (fun e =>
      match e.resolution with | .resolved ref _ => ref == .loaded n | _ => false))]

end Sys2Proof.Claim

/-- A PROFILE_LOAD of good form is BUSY while the slot's profile is in use, by a PARKED or resumed dialog too (log entry 31).
Otherwise it releases an old profile as an unload would, stores the new one and replies with the slot and the two numbers, 0
and 0 when the slot was empty; where no dialog slot waits on the tag nothing else changes (R69, R70). A payload of bad form
changes nothing. -/
def Sys2Proof.Claim.ProfileLoadFillsTheSlot : Prop :=
  ∀ (s : State) (payload : List Byte), Ready s →
    (parseProfileLoad payload = none → exec (.profileLoad payload) s = .next (answered s 0x86 .badForm))
    ∧ ∀ (n : Fin 12) (p : Profile), parseProfileLoad payload = some (n, p) →
      (loadedInUse s n → exec (.profileLoad payload) s = .next (answered s 0x86 .busy))
      ∧ (¬ loadedInUse s n → ¬ waitedFor s p.tag → Settled s →
          exec (.profileLoad payload) s =
            .next
              (if (s.store.loaded[n]).isSome then
                let t := released s n
                answered { t with store := { t.store with loaded := s.store.loaded.set n (some p) } } 0x86 .done
                  (byte n.val :: releaseNumbers s n)
              else
                answered { s with store := { s.store with loaded := s.store.loaded.set n (some p) } } 0x86 .done
                  [byte n.val, 0, 0]))

/-- The bytes PROFILE_GET gives for a profile, loaded again, give the same profile, for every profile that PROFILE_LOAD
accepts: no field of the layout is dropped, and an absent field reads back absent (R69, R71, R174). -/
def Sys2Proof.Claim.ProfileBytesReadBack : Prop :=
  ∀ (payload : List Byte) (n m : Fin 12) (p : Profile), parseProfileLoad payload = some (n, p) →
    parseProfileLoad (byte m.val :: profileBytes p) = some (m, p)

/-- The nine bytes that TABLE_PUT and TABLE_GET reply, put again, give the same entry with no adjustment, for every entry
that TABLE_PUT accepts (R58, R61). -/
def Sys2Proof.Claim.ConfiguredBytesReadBack : Prop :=
  ∀ (payload : List Byte) (i j : ModuleIndex) (e : Entry) (adjusted : Bool),
    parseTablePut payload = some (i, e, adjusted) → parseTablePut (configuredBytes j e) = some (j, e, false)

/-- What the part replies for a profile and for an entry, sent back to it, is the same profile and the same entry: no field of
either layout is dropped (R58, R61, R69, R71, R174). -/
def Obligations.ConfiguredAndProfileBytesReadBack : Prop :=
  ProfileBytesReadBack ∧ ConfiguredBytesReadBack

/-- PROFILE_GET of an occupied or built-in profile carries its fields, the bindings that name it, the entries RESOLVED to
it and the slots that use it, PARKED and resumed dialogs among them (log entry 31); an empty loaded slot is ABSENT and any
other reference BAD_FORM. It changes no state (R71; that erase allowed is carried as 1 is log entry 49). -/
def Sys2Proof.Claim.ProfileGetReads : Prop :=
  ∀ s : State, Ready s →
    (∀ (ref : ProfileRef) (p : Profile), s.store.profile ref = some p →
      exec (.profileGet [ref.code]) s =
        .next (answered s 0x87 .done
          (profileBytes p
            ++ [byte (s.store.bindings.countP (fun b => b.target == .profile ref)),
              byte (s.table.toList.countP (fun e =>
                match e.resolution with | .resolved r _ => r == ref | _ => false)),
              flagsByte (allChannels.map (fun c =>
                (s.slot c).state != .free && (s.slot c).profile == some ref))])))
    ∧ (∀ n : Fin 12, s.store.loaded[n] = none →
        exec (.profileGet [byte (16 + n.val)]) s = .next (answered s 0x87 .absent))
    ∧ (∀ b : Byte, 12 ≤ b.toNat → ¬ (16 ≤ b.toNat ∧ b.toNat < 28) →
        exec (.profileGet [b]) s = .next (answered s 0x87 .badForm))

/-- PROFILE_UNLOAD of a built-in profile or of a bad index is BAD_FORM, of an empty slot ABSENT, of a profile in use BUSY,
and each changes nothing; otherwise it removes the bindings that name the slot, returns the entries RESOLVED to it to
UNRESOLVED, empties the slot and replies with the two numbers (R72). -/
def Sys2Proof.Claim.ProfileUnloadReleases : Prop :=
  ∀ s : State, Ready s →
    (∀ b : Byte, ¬ (16 ≤ b.toNat ∧ b.toNat < 28) → exec (.profileUnload [b]) s = .next (answered s 0x88 .badForm))
    ∧ ∀ n : Fin 12,
      let r := exec (.profileUnload [byte (16 + n.val)]) s
      (s.store.loaded[n] = none → r = .next (answered s 0x88 .absent))
      ∧ (s.store.loaded[n] ≠ none → loadedInUse s n → r = .next (answered s 0x88 .busy))
      ∧ (s.store.loaded[n] ≠ none → ¬ loadedInUse s n →
          r = .next
            (let t := released s n
             answered { t with store := { t.store with loaded := s.store.loaded.set n none } } 0x88 .done
               (releaseNumbers s n)))

/-- PROFILE_LOAD and PROFILE_UNLOAD: their refusals, and what they write and release (R69, R70, R72, R73; that a PARKED or
resumed dialog keeps its profile in use is the model's reading, log entry 31). -/
def Obligations.LoadedSlotsAreFilledAndReleased : Prop :=
  ProfileLoadFillsTheSlot ∧ ProfileUnloadReleases

/-- BIND refused: a tag of 0x0000 or 0xFFFF, or a reference that is none, is BAD_FORM; an empty loaded slot is ABSENT; NONE
for a tag without a binding is ABSENT; a new binding in a full list is NO_ROOM. Nothing changes (R75). -/
def Sys2Proof.Claim.BindRefusals : Prop :=
  ∀ (s : State) (t1 t0 b : Byte), Ready s →
    let tag := beWord16 t1 t0
    let r := exec (.bind [t1, t0, b]) s
    ((tag = 0 ∨ tag = 0xFFFF ∨ (b ≠ 0xFF ∧ ProfileRef.ofCode b = none)) → r = .next (answered s 0x89 .badForm))
    ∧ (tag ≠ 0 → tag ≠ 0xFFFF → b = 0xFF → s.store.binding tag = none → r = .next (answered s 0x89 .absent))
    ∧ (tag ≠ 0 → tag ≠ 0xFFFF → b ≠ 0xFF → ∀ ref, ProfileRef.ofCode b = some ref →
        (s.store.profile ref = none → r = .next (answered s 0x89 .absent))
        ∧ (s.store.profile ref ≠ none → s.store.binding tag = none → 16 ≤ s.store.bindings.length →
            r = .next (answered s 0x89 .noRoom)))

namespace Sys2Proof.Claim

/-- The table after the binding for a tag has changed: the entries DECLINED with the tag return to UNRESOLVED where the old
binding was a DECLINE (R77). -/
def liftedTable (s : State) (tag : Word16) : Vector Entry 48 :=
  if s.store.binding tag = some ⟨tag, .decline⟩ then
    s.table.map (fun e => if e.resolution = .declined tag then { e with resolution := .unresolved } else e)
  else s.table

/-- How many entries a lifted decline releases (R77). -/
def liftedCount (s : State) (tag : Word16) : Nat :=
  if s.store.binding tag = some ⟨tag, .decline⟩ then s.table.toList.countP (fun e => e.resolution == .declined tag)
  else 0

end Sys2Proof.Claim

/-- A BIND that is carried out, with a reference or with NONE, leaves the tag bound to the reference or unbound and every
other tag's binding as it was; it replies with the bindings held and the entries released from a decline, and releases
them where the old binding was a DECLINE. Where no dialog slot waits on the tag nothing else changes (R75, R77). -/
def Sys2Proof.Claim.BindChangesOneBinding : Prop :=
  ∀ (s : State) (t1 t0 b : Byte), Ready s → Settled s →
    let tag := beWord16 t1 t0
    tag ≠ 0 → tag ≠ 0xFFFF → ¬ waitedFor s tag →
    (b = 0xFF ∧ s.store.binding tag ≠ none
      ∨ ∃ ref, b ≠ 0xFF ∧ ProfileRef.ofCode b = some ref ∧ s.store.profile ref ≠ none
          ∧ (s.store.binding tag ≠ none ∨ s.store.bindings.length < 16)) →
    ∃ bs : List Binding,
      exec (.bind [t1, t0, b]) s =
        .next (answered { s with store := { s.store with bindings := bs }, table := liftedTable s tag } 0x89 .done
          [byte bs.length, byte (liftedCount s tag)])
      ∧ bs.find? (fun x => x.tag == tag) = (ProfileRef.ofCode b).map (fun ref => ⟨tag, .profile ref⟩)
      ∧ ∀ u, u ≠ tag → bs.find? (fun x => x.tag == u) = s.store.bindings.find? (fun x => x.tag == u)

/-- DECLINE with a tag of 0x0000 or 0xFFFF is BAD_FORM, and with no room for a new binding NO_ROOM, and changes nothing;
otherwise the tag is bound to DECLINE, every other binding stays, the reply carries the bindings held, and where no dialog
slot waits on the tag nothing else changes: no resolution of an entry does (R76). -/
def Sys2Proof.Claim.DeclineBindsTheTag : Prop :=
  ∀ (s : State) (t1 t0 : Byte), Ready s → Settled s →
    let tag := beWord16 t1 t0
    let r := exec (.decline [t1, t0]) s
    ((tag = 0 ∨ tag = 0xFFFF) → r = .next (answered s 0x8A .badForm))
    ∧ (tag ≠ 0 → tag ≠ 0xFFFF → s.store.binding tag = none → 16 ≤ s.store.bindings.length →
        r = .next (answered s 0x8A .noRoom))
    ∧ (tag ≠ 0 → tag ≠ 0xFFFF → (s.store.binding tag ≠ none ∨ s.store.bindings.length < 16) → ¬ waitedFor s tag →
        ∃ bs : List Binding,
          r = .next (answered { s with store := { s.store with bindings := bs } } 0x8A .done [byte bs.length])
          ∧ bs.find? (fun x => x.tag == tag) = some ⟨tag, .decline⟩
          ∧ ∀ u, u ≠ tag → bs.find? (fun x => x.tag == u) = s.store.bindings.find? (fun x => x.tag == u))

/-- BIND and DECLINE: their refusals, and the one binding that they write or remove (R75 to R77). -/
def Obligations.BindAndDeclineChangeOneBinding : Prop :=
  BindRefusals ∧ BindChangesOneBinding ∧ DeclineBindsTheTag

/-- BINDINGS_GET carries the number of bindings and each binding in the order of the list, as its tag and its target, and
changes no state (R78). -/
def Sys2Proof.Claim.BindingsGetReadsTheList : Prop :=
  ∀ s : State, Ready s →
    exec (.bindingsGet []) s =
      .next (answered s 0x8B .done
        (byte s.store.bindings.length
          :: s.store.bindings.flatMap (fun b =>
            bytes16 b.tag ++ [match b.target with | .profile ref => ref.code | .decline => 0xFE])))

/-- A lookup takes the binding for the tag first, then the lowest loaded slot whose profile has the tag, then ROM for a
tag 0x1001..0x100C, and otherwise finds nothing (R79). -/
def Obligations.LookupOrder : Prop :=
  ∀ (st : Store) (tag : Word16),
    (∀ b, st.binding tag = some b → st.lookup tag = some b.target)
    ∧ (st.binding tag = none → ∀ n p, st.loaded[n] = some p → p.tag = tag →
        (∀ (m : Fin 12) q, m < n → st.loaded[m] = some q → q.tag ≠ tag) →
        st.lookup tag = some (.profile (.loaded n)))
    ∧ (st.binding tag = none → (∀ (m : Fin 12) q, st.loaded[m] = some q → q.tag ≠ tag) →
        (∀ n : Fin 12, tag = BitVec.ofNat 16 (0x1001 + n.val) → st.lookup tag = some (.profile (.rom n)))
        ∧ (tag.toNat < 0x1001 ∨ 0x100C < tag.toNat → st.lookup tag = none))

namespace Sys2Proof.Claim

/-- The channel's transmit holding is empty and its slot has nothing still to hand (R23). -/
def nothingWaits (s : State) (c : Channel) : Prop := s.holdingEmpty c = true ∧ s.waitingFrames c = []

/-- No frame of the part waits for its start on the channel, in the holding or still to hand (R23). -/
def noneWaits (s : State) (c : Channel) : Prop := s.frameWaiting c = none ∧ s.waitingFrames c = []

/-- In `t` the transmit holding of a channel holds exactly this frame, not started, bound for the module of an entry with
the identifier base that `s` has in effect: the identifier on CAN, the address and line rate on line S (R23, R127). -/
def holds (s t : State) (c : Channel) (e : Entry) (f : TxRequest) (earliest : Option Nat := none) (own : Bool := true) :
    Prop :=
  match c with
  | .a => t.can.a.holding = .waiting ⟨f, .can (s.can.a.requestBase + e.address), earliest, own⟩
  | .b => t.can.b.holding = .waiting ⟨f, .can (s.can.b.requestBase + e.address), earliest, own⟩
  | .s => t.line.holding = some ⟨f, .line e.address (e.lineRate.getD .r19200), earliest, own⟩

/-- The keep-awake timer running: as it runs, or started afresh (R27; that it starts on entering READING, REFERRED or ERASING
is read from "runs while", log entry 14). -/
def awake (s : State) (c : Channel) : Option AutoTimer :=
  match (s.slot c).keepAwake with
  | some k => some k
  | none => some ⟨s.setting .keepAwakePeriod, s.setting .keepAwakePeriod⟩

/-- The slot waits on a referral for a tag: REFERRED, or PARKED with resume point REFER (R66). -/
def waitsOn (x : Slot) (tag : Word16) : Prop :=
  (x.state = .referred ∨ (x.state = .parked ∧ x.resume = .refer)) ∧ x.tag = some tag

/-- The bindings stand in ascending tag with no tag twice, are at most 16, have legal tags, and name occupied slots
(R74). -/
def StoreSound (st : Store) : Prop :=
  st.bindings.Pairwise (fun a b => a.tag.toNat < b.tag.toNat) ∧ st.bindings.length ≤ 16
    ∧ ∀ b ∈ st.bindings, b.tag ≠ 0 ∧ b.tag ≠ 0xFFFF
        ∧ ∀ n, b.target = .profile (.loaded n) → st.loaded[n] ≠ none

/-- A host answer for a tag that is carried out: a BIND to a profile that exists, with room for its binding, or to NONE where
the tag is bound; a DECLINE with room; a PROFILE_LOAD of a profile with the tag into a slot not in use (R70, R75, R76). -/
def answersFor (s : State) (tag : Word16) : Instr → Prop
  | .bind [t1, t0, b] =>
    tag = beWord16 t1 t0 ∧ tag ≠ 0 ∧ tag ≠ 0xFFFF ∧
      (b = 0xFF ∧ s.store.binding tag ≠ none
        ∨ ∃ ref, b ≠ 0xFF ∧ ProfileRef.ofCode b = some ref ∧ s.store.profile ref ≠ none
            ∧ (s.store.binding tag ≠ none ∨ s.store.bindings.length < 16))
  | .decline [t1, t0] =>
    tag = beWord16 t1 t0 ∧ tag ≠ 0 ∧ tag ≠ 0xFFFF ∧ (s.store.binding tag ≠ none ∨ s.store.bindings.length < 16)
  | .profileLoad payload => ∃ n p, parseProfileLoad payload = some (n, p) ∧ p.tag = tag ∧ ¬ loadedInUse s n
  | _ => False

end Sys2Proof.Claim

/-- A host answer that is carried out, a BIND, a DECLINE or a PROFILE_LOAD, wakes every slot that waits on its tag, and no
other. Each redoes its lookup on the store as it then stands. A profile found makes the entry RESOLVED to it and stops the
referral timer: a slot in REFERRED asks page 0 with it, ASK_PAGE(0) being handed (channel OPEN, no halt), and one PARKED with
resume point REFER has it in use and resume point PAGE with page 0. DECLINE found makes the entry DECLINED and ends the
dialog UNSUPPORTED, with BYE on an OPEN channel (with AUTO_ATTENTION off). Nothing found leaves the slot as it is. The
keep-awake timer runs from then on (log entry 14). The history stays (R34, R47, R82). -/
def Obligations.HostAnswersWakeTheWaitingSlots : Prop :=
  ∀ (s : State) (command : Instr) (tag : Word16), Ready s → Settled s → answersFor s tag command →
    ∃ t, exec command s = .next t
      ∧ (∀ c, ¬ waitsOn (s.slot c) tag → t.slot c = s.slot c)
      ∧ (∀ c i, waitsOn (s.slot c) tag → (s.slot c).module = some i →
          (∀ ref, t.store.lookup tag = some (.profile ref) →
            (t.entry i).resolution = .resolved ref tag
            ∧ ((s.slot c).state = .parked →
                t.slot c = { s.slot c with profile := some ref, referral := none, resume := .page, page := 0 })
            ∧ ((s.slot c).state = .referred → s.shareState c = .opened → s.sweep.state ≠ .halting →
                t.slot c = { s.slot c with
                    state := .reading, sub := .asked, page := 0, attempt := 1, profile := some ref, referral := none,
                    keepAwake := awake s c }
                  ∧ (nothingWaits s c → holds s t c (s.entry i) (.askPage 0))))
          ∧ (t.store.lookup tag = some .decline → s.setting .autoAttention = 0 →
              t.slot c = {} ∧ (t.entry i).resolution = .declined tag ∧ (t.entry i).lastOutcome = some .unsupported
                ∧ (t.entry i).lastSweep = s.sweep.number
                ∧ (s.shareState c = .opened → nothingWaits s c → holds s t c (s.entry i) .bye none false))
          ∧ (t.store.lookup tag = none → t.slot c = s.slot c))
      ∧ t.history = s.history ∧ t.clock = s.clock ∧ t.settings = s.settings ∧ t.key = s.key

/-! ### The settings (R171) -/

namespace Sys2Proof.Claim

/-- The payload of a SETTINGS_PUT of these pairs: identifier and value, high byte first (R171, R174). -/
def pairsPayload (ps : List (SettingId × Word16)) : List Byte := ps.flatMap (fun p => p.1.code :: bytes16 p.2)

/-- Whether an enumerated setting accepts a value; the others accept every value (R171, step 1). -/
def codeAccepted (i : SettingId) (v : Word16) : Prop :=
  match i.range with
  | .codes max => v.toNat ≤ max
  | _ => True

/-- The value stored for a value requested: a range's nearer end, a base without its low five bits and at most 0x7C0, the
largest listed rate not above the value or 125 (R127, R171 step 2). -/
def stored (i : SettingId) (v : Word16) : Nat :=
  match i.range with
  | .codes _ => v.toNat
  | .range lo hi => if v.toNat < lo then lo else if hi < v.toNat then hi else v.toNat
  | .canBase => if 0x7DF < v.toNat then 0x7C0 else v.toNat - v.toNat % 32
  | .canRate => if v.toNat < 250 then 125 else if v.toNat < 500 then 250 else if v.toNat < 1000 then 500 else 1000

/-- The value a setting holds after a request: the stored one for a setting it names, the old one otherwise. -/
def heldAfter (s : State) (ps : List (SettingId × Word16)) (i : SettingId) : Nat :=
  match ps.find? (fun p => p.1 == i) with
  | some p => stored i p.2
  | none => s.setting i

/-- What R171 refuses in a SETTINGS_PUT whose identifiers name settings: no pair or more than 25, an identifier twice, a
value outside an enumerated setting's codes, or the two bases of a channel equal after adjustment. -/
def pairsRefused (s : State) (ps : List (SettingId × Word16)) : Prop :=
  ps = [] ∨ 25 < ps.length ∨ ¬ (ps.map Prod.fst).Nodup ∨ (∃ p ∈ ps, ¬ codeAccepted p.1 p.2)
    ∨ heldAfter s ps .requestBaseA = heldAfter s ps .responseBaseA
    ∨ heldAfter s ps .requestBaseB = heldAfter s ps .responseBaseB

end Sys2Proof.Claim

/-- SETTINGS_PUT refused by a check of form or by the cross-check is BAD_FORM and changes nothing, however many of its
pairs are good (R171). -/
def Sys2Proof.Claim.SettingsPutRefusedAsAWhole : Prop :=
  ∀ (s : State) (ps : List (SettingId × Word16)), Ready s → pairsRefused s ps →
    exec (.settingsPut (pairsPayload ps)) s = .next (answered s 0x8C .badForm)

/-- A SETTINGS_PUT that passes its checks stores every value of the request, adjusted, and leaves every other setting; its
reply, DONE_ADJUSTED where a value was changed, carries identifier, value requested and value stored of each pair in request
order, and comes before any notice. The module table's configured fields, the store, the references, the key and the history
stay (R171). -/
def Sys2Proof.Claim.SettingsPutStoresEveryValue : Prop :=
  ∀ (s : State) (ps : List (SettingId × Word16)), Ready s → ¬ pairsRefused s ps →
    ∃ t, exec (.settingsPut (pairsPayload ps)) s = .next t
      ∧ (∀ i, t.setting i = heldAfter s ps i)
      ∧ s.link.outbound ++
          [.reply 0x8C (if ∃ p ∈ ps, stored p.1 p.2 ≠ p.2.toNat then .doneAdjusted else .done)
            (ps.flatMap (fun p => p.1.code :: bytes16 p.2 ++ num16 (stored p.1 p.2)))] <+: t.link.outbound
      ∧ (∀ i, (t.entry i).configured = (s.entry i).configured)
      ∧ t.store = s.store ∧ t.clock = s.clock ∧ t.key = s.key ∧ t.history = s.history

/-- A SETTINGS_PUT in which a pair has an identifier that names no setting is BAD_FORM and changes nothing, wherever among
its pairs that one stands (R171, step 1). -/
def Sys2Proof.Claim.SettingsPutNamesSettings : Prop :=
  ∀ (s : State) (before after : List Byte) (id hi lo : Byte), Ready s → before.length % 3 = 0 →
    (id.toNat = 0 ∨ 25 < id.toNat) →
    exec (.settingsPut (before ++ id :: hi :: lo :: after)) s = .next (answered s 0x8C .badForm)

/-- The reply of a SETTINGS_PUT of one pair (R171). -/
def Sys2Proof.Claim.pairReply (i : SettingId) (v : Word16) : OutFrame :=
  .reply 0x8C (if stored i v = v.toNat then .done else .doneAdjusted) (i.code :: bytes16 v ++ num16 (stored i v))

/-- What some settings do at once when their stored value changes. A base of a CAN channel is taken into the bases in effect
while the channel's slot is FREE, and the bases in effect stay while it is not. ATTENTION_POLARITY drops a pulse in MARK or
CAPTURE and puts the detector in RELEASE, from READY too; a release period goes on, and a SUPPRESSED detector stays so (R127,
R149, R151, R171; from READY, RELEASE and SUPPRESSED it is the model's reading, log entry 19). -/
def Sys2Proof.Claim.SettingsActAtOnce : Prop :=
  ∀ (s : State) (v : Word16), Ready s → Settled s →
    (∀ (k : CanChannel) (i : SettingId), (i = requestBaseSetting k ∨ i = responseBaseSetting k) →
      ¬ pairsRefused s [(i, v)] → stored i v ≠ s.setting i →
      exec (.settingsPut (pairsPayload [(i, v)])) s =
        .next
          { s with
            settings := s.settings.set i.index (BitVec.ofNat 16 (stored i v)),
            can :=
              if (s.slot k.toChannel).state = .free then
                s.can.set k
                  { s.canCtl k with
                    requestBase := heldAfter s [(i, v)] (requestBaseSetting k),
                    responseBase := heldAfter s [(i, v)] (responseBaseSetting k) }
              else s.can,
            link := { s.link with outbound := s.link.outbound ++ [pairReply i v] } })
    ∧ (¬ pairsRefused s [(.attentionPolarity, v)] → v.toNat ≠ s.setting .attentionPolarity →
        exec (.settingsPut (pairsPayload [(.attentionPolarity, v)])) s =
          .next
            { s with
              settings := s.settings.set SettingId.attentionPolarity.index v,
              line :=
                if s.line.detector = .release ∨ s.line.detector = .suppressed then s.line
                else { s.line with detector := .release, release := if s.line.level = .high then some 10 else none },
              link := { s.link with outbound := s.link.outbound ++ [pairReply .attentionPolarity v] } })

/-- SETTINGS_PUT is checked and applied as one whole: an identifier that names no setting, or any other failed check, refuses
all of it; and the CAN bases and the attention polarity act at once (R127, R149, R171; the detector's other states: log entry
19). What AUTO_ATTENTION, the pace gaps and SOCKET_CHANNELS do at once stands with the attention sweeps, the CAN channels and
the share unit. -/
def Obligations.SettingsPutIsOneWhole : Prop :=
  SettingsPutNamesSettings ∧ SettingsPutRefusedAsAWhole ∧ SettingsPutStoresEveryValue ∧ SettingsActAtOnce

/-- SETTINGS_GET with no identifier carries all 25 settings in ascending identifier, and with distinct identifiers those,
in request order (log entry 52): identifier and stored value, three bytes each. It changes no state (R171). -/
def Sys2Proof.Claim.SettingsGetReads : Prop :=
  ∀ (s : State), Ready s →
    exec (.settingsGet []) s =
      .next (answered s 0x8D .done (allSettings.flatMap (fun i => i.code :: num16 (s.setting i))))
    ∧ ∀ is : List SettingId, is ≠ [] → is.Nodup →
      exec (.settingsGet (is.map SettingId.code)) s =
        .next (answered s 0x8D .done (is.flatMap (fun i => i.code :: num16 (s.setting i))))

/-- TABLE_GET, PROFILE_GET, BINDINGS_GET and SETTINGS_GET report and change no state (R61, R71, R78, R171; the model's
choices in log entries 31, 49 and 52). -/
def Obligations.TablesStoreAndSettingsAreRead : Prop :=
  TableGetReadsTheTable ∧ ProfileGetReads ∧ BindingsGetReadsTheList ∧ SettingsGetReads

/-- SETTINGS_GET with an identifier that names no setting, or with one twice, is BAD_FORM and changes nothing (R171). -/
def Sys2Proof.Claim.SettingsGetForm : Prop :=
  ∀ (s : State) (payload : List Byte), Ready s →
    (¬ payload.Nodup ∨ ∃ b ∈ payload, b.toNat = 0 ∨ 25 < b.toNat) →
    exec (.settingsGet payload) s = .next (answered s 0x8D .badForm)

/-! ### The chassis references (R91 to R93) -/

/-- REFERENCE_SET with neither part, or with a presence bit that its layout does not use, is BAD_FORM and changes nothing.
Otherwise a present time part writes T, sets its flag and returns the millisecond count to 0, a present distance part
writes D and sets its flag, an absent part stays, and the reply carries both as they stand after it (R93). -/
def Sys2Proof.Claim.ReferenceSetWritesThePresentParts : Prop :=
  ∀ (s : State) (presence t3 t2 t1 t0 d3 d2 d1 d0 : Byte), Ready s →
    let r := exec (.referenceSet [presence, t3, t2, t1, t0, d3, d2, d1, d0]) s
    let time := presence.getLsbD 0
    let distance := presence.getLsbD 1
    let k : Clock :=
      { t := if time then t3 ++ t2 ++ t1 ++ t0 else s.clock.t, tSet := time || s.clock.tSet,
        ms := if time then 0 else s.clock.ms,
        d := if distance then d3 ++ d2 ++ d1 ++ d0 else s.clock.d, dSet := distance || s.clock.dSet }
    ((presence = 0 ∨ 4 ≤ presence.toNat) → r = .next (answered s 0x8E .badForm))
    ∧ (presence ≠ 0 → presence.toNat < 4 →
        r = .next (answered { s with clock := k } 0x8E .done
          (bytes32 k.t ++ bytes32 k.d ++ [flagsByte [k.tSet, k.dSet]])))

/-- When the millisecond count reaches 1000 while the key is on, it returns to 0 and T rises by one, held at 2^32 - 1; with a
lower count, and while the key is off, nothing changes: an advance that a REFERENCE_SET has forestalled does not happen (R91,
R93; log entry 4). -/
def Sys2Proof.Claim.ChassisTimeCountsKeyOnSeconds : Prop :=
  ∀ s : State,
    exec .chassisTimeAdvance s =
      .next (if s.key.on = true ∧ 999 ≤ s.clock.ms then
          { s with clock := { s.clock with ms := 0, t := BitVec.ofNat 32 (min (2 ^ 32 - 1) (s.clock.t.toNat + 1)) } }
        else s)

/-- The chassis references: REFERENCE_SET writes them, and key-on seconds advance T alone (R91 to R93). -/
def Obligations.ChassisReferencesAreSetAndCount : Prop :=
  ReferenceSetWritesThePresentParts ∧ ChassisTimeCountsKeyOnSeconds

/-! ### Record decoding and the history (R85 to R123) -/

namespace Sys2Proof.Claim

/-- Bytes as a number in a byte order (R87). -/
def number : ByteOrder → List Byte → Nat
  | .highFirst, bs => bs.foldl (fun n b => 256 * n + b.toNat) 0
  | .lowFirst, bs => bs.reverse.foldl (fun n b => 256 * n + b.toNat) 0

/-- The raw value of the stamp at an offset; nothing where the profile gives none or it is all ones (R96). -/
def presentStamp (order : ByteOrder) (record : List Byte) (width : Nat) (offset : Option Nat) : Option Nat :=
  offset.bind (fun o =>
    let v := number order ((record.drop o).take width)
    if v = 2 ^ (8 * width) - 1 then none else some v)

/-- The elapsed units between a stamp and the module clock (R96). -/
def unitsSince (f : StampFields) (clock stamp : Nat) : Nat :=
  min (2 ^ 32 - 1) (((((clock : Int) - stamp) % (2 ^ (8 * f.width) : Int)).toNat * f.numerator) / f.denominator)

/-- The normalised value of a stamp: the reference less the elapsed units, or 0 (R97). -/
def onChassisScale (f : StampFields) (reference clock stamp : Nat) : Nat := reference - unitsSince f clock stamp

/-- Whether a stamp lies before the zero of the reference (R97). -/
def beforeZero (f : StampFields) (reference clock stamp : Nat) : Bool := reference < unitsSince f clock stamp

end Sys2Proof.Claim

/-- The sighting of a record that is not empty carries the module, the code, the state and severity of the status field (ACTIVE
and 0 without one), the reported count (1 without a count field and for a value of 0), the stamps with their flags, and the
snapshot bytes; a record whose code is 0 is empty and gives none (R86 to R90). -/
def Sys2Proof.Claim.RecordFieldsAreDecoded : Prop :=
  ∀ (p : Profile) (sn : Option RefSnapshot) (m : ModuleIndex) (record : List Byte),
    let field (f : Field) : Nat := number p.byteOrder ((record.drop f.offset).take f.width)
    (field p.code = 0 → decodeRecord p sn m record = none)
    ∧ (field p.code ≠ 0 →
        ∃ sg, decodeRecord p sn m record = some sg ∧ sg.module = m ∧ sg.code = BitVec.ofNat 24 (field p.code)
          ∧ (p.status = none → sg.state = .active ∧ sg.severity = 0)
          ∧ (∀ f, p.status = some f →
              let b := record.getD f.offset 0
              sg.state = (if b &&& f.mask = 0 then .stored else .active)
                ∧ sg.severity.toNat = b.toNat / 2 ^ f.shift % 4)
          ∧ (p.count = none → sg.count = 1)
          ∧ (∀ f, p.count = some f →
              sg.count = (if field f = 0 then 1 else BitVec.ofNat 16 (field f)))
          ∧ (sg.stamps, sg.predates, sg.refUnset) = normalise p sn record
          ∧ (p.snapshot = none → sg.snapshot = [])
          ∧ (∀ f, p.snapshot = some f → sg.snapshot = (record.drop f.offset).take f.width))

/-- A page is as many records as its bytes hold, one after the other, and its sightings are those of its records that are not
empty, in record order (R85, R87). -/
def Sys2Proof.Claim.PagesAreCutIntoRecords : Prop :=
  ∀ (p : Profile) (sn : Option RefSnapshot) (m : ModuleIndex) (bytes : List Byte),
    decodePage p sn m bytes =
      (List.range (bytes.length / p.recordLength)).filterMap (fun k =>
        decodeRecord p sn m ((bytes.drop (k * p.recordLength)).take p.recordLength))

/-- The record decoder: from the bytes of a page to its sightings (R85 to R90). -/
def Obligations.RecordsAreDecoded : Prop :=
  PagesAreCutIntoRecords ∧ RecordFieldsAreDecoded

/-- The stamps of a record, for a profile of class TIME or DISTANCE: none while the module clock is all ones or neither
stamp is present; else each present stamp is placed at the reference less its elapsed units, or at 0 with PREDATES; an
absent one takes the other's value; a first above the last takes the last's; REF_UNSET is set where the reference's flag in
the snapshot is clear (R94 to R99). -/
def Sys2Proof.Claim.PresentStampsArePlaced : Prop :=
  ∀ (p : Profile) (f : StampFields) (sn : RefSnapshot) (record : List Byte), p.stamps = some f → p.stampClass ≠ .none →
    let clock := number p.byteOrder [sn.clock.b0, sn.clock.b1, sn.clock.b2, sn.clock.b3] % 2 ^ (8 * f.width)
    let reference := if p.stampClass = .time then sn.t.toNat else sn.d.toNat
    let unset := if p.stampClass = .time then !sn.tSet else !sn.dSet
    let v := onChassisScale f reference clock
    let pre := beforeZero f reference clock
    let r := normalise p (some sn) record
    (clock = 2 ^ (8 * f.width) - 1 → r = (none, false, false))
    ∧ (clock ≠ 2 ^ (8 * f.width) - 1 →
        match presentStamp p.byteOrder record f.width f.first, presentStamp p.byteOrder record f.width f.last with
        | none, none => r = (none, false, false)
        | some x, none => r = (some ⟨p.stampClass, BitVec.ofNat 32 (v x), BitVec.ofNat 32 (v x)⟩, pre x, unset)
        | none, some y => r = (some ⟨p.stampClass, BitVec.ofNat 32 (v y), BitVec.ofNat 32 (v y)⟩, pre y, unset)
        | some x, some y =>
          r = (some ⟨p.stampClass, BitVec.ofNat 32 (min (v x) (v y)), BitVec.ofNat 32 (v y)⟩, pre x || pre y, unset))

/-- A profile without stamp fields gives no stamps and neither flag (R94, R99). -/
def Sys2Proof.Claim.NoStampFieldsNoStamps : Prop :=
  ∀ (p : Profile) (sn : RefSnapshot) (record : List Byte), p.stamps = none →
    normalise p (some sn) record = (none, false, false)

/-- The stamps of a record are normalised to the chassis scale in the six stages, or absent (R94 to R99). -/
def Obligations.StampsAreNormalised : Prop :=
  PresentStampsArePlaced ∧ NoStampFieldsNoStamps

namespace Sys2Proof.Claim

/-- The lesser first and the greater last of two pairs of stamps of one class. -/
def spanOf (x y z : Stamps) : Prop :=
  z.cls = x.cls ∧ z.first.toNat = min x.first.toNat y.first.toNat ∧ z.last.toNat = max x.last.toNat y.last.toNat

/-- Whether a merge has changed a field that R117 counts: any but UNREAD, SIGHTED and the sweep number. -/
def changedBy (before after : Record) : Prop :=
  { after with unread := before.unread, sighted := before.sighted, sweepNumber := before.sweepNumber } ≠ before

/-- The number following a record number: 1 after 0xFFFFFFFF (R108). -/
def following (n : Word32) : Word32 := if n = 0xFFFFFFFF then 1 else n + 1

/-- The records that an eviction may take: GONE with UNREAD clear, in ascending number (R111). -/
def evictable (h : History) : List Record := h.records.filter (fun r => r.state == .gone && !r.unread)

/-- With the first `m` eviction candidates gone there is a place and room for so many snapshot bytes (R111, step 2). -/
def roomAfter (h : History) (need m : Nat) : Prop :=
  h.records.length - m < 384
    ∧ snapshotBytes h.records - snapshotBytes ((evictable h).take m) + need ≤ 3072

end Sys2Proof.Claim

/-- A first sighting in a dialog updates the record's count: the total rises by the growth of the reported count over the
box count, or by the whole reported count where the record was GONE or the count has dropped, held at 65 535; the box count
becomes the reported count. State and severity take the sighting's values, SIGHTED is set, the sweep number is the running
sweep's, and the merge is reported as an update. Stamps of one class widen; those of the side that alone carries some stand,
and the sighting's where the classes differ. A snapshot is replaced where the record was GONE: by the sighting's bytes where
they fit the free pool with the old ones released, else by none, with SNAP_LOST. UNREAD is set where a field that counts has
changed (R101, R102, R115, R117). -/
def Sys2Proof.Claim.FirstSightingCounts : Prop :=
  ∀ (h : History) (r : Record) (sg : Sighting) (sweepNumber : Word16),
    h.find sg.module sg.code = some r → r.sighted = false →
    ∃ h' r', h.merge sg sweepNumber = (h', .updated) ∧ h'.find sg.module sg.code = some r'
      ∧ r'.box = sg.count
      ∧ r'.total.toNat =
          min 65535 (r.total.toNat +
            (if r.state ≠ .gone ∧ r.box.toNat ≤ sg.count.toNat then sg.count.toNat - r.box.toNat else sg.count.toNat))
      ∧ r'.state = sg.state ∧ r'.severity = sg.severity ∧ r'.sighted = true ∧ r'.sweepNumber = sweepNumber
      ∧ r'.number = r.number ∧ r'.module = r.module ∧ r'.code = r.code
      ∧ r'.predates = (r.predates || sg.predates) ∧ r'.refUnset = (r.refUnset || sg.refUnset)
      ∧ (sg.stamps = none → r'.stamps = r.stamps) ∧ (r.stamps = none → r'.stamps = sg.stamps)
      ∧ (∀ x y, r.stamps = some x → sg.stamps = some y →
          (x.cls = y.cls → ∃ z, r'.stamps = some z ∧ spanOf x y z) ∧ (x.cls ≠ y.cls → r'.stamps = some y))
      ∧ (r.state ≠ .gone → r'.snapshot = r.snapshot ∧ r'.snapLost = r.snapLost)
      ∧ (r.state = .gone →
          (sg.snapshot.length ≤ 3072 - h.poolUsed + r.snapshot.length →
            r'.snapshot = sg.snapshot ∧ r'.snapLost = false)
          ∧ (sg.snapshot ≠ [] → 3072 - h.poolUsed + r.snapshot.length < sg.snapshot.length →
            r'.snapshot = [] ∧ r'.snapLost = true))
      ∧ h'.poolUsed = h.poolUsed - r.snapshot.length + r'.snapshot.length ∧ h'.next = h.next
      ∧ (r'.unread = true ↔ r.unread = true ∨ changedBy r r')
      ∧ (h.wf → ∀ x, x ≠ r → (x ∈ h'.records ↔ x ∈ h.records ∨ x = r'))

/-- A second sighting in the same dialog changes no count, severity, snapshot or sweep number: the state becomes ACTIVE where
either side is ACTIVE, the first stamp the lesser and the last the greater where both sides carry stamps of one class, and
where one side carries none the other's stand; PREDATES and REF_UNSET come with a stamp that is taken, and UNREAD with a field
that changes. It is no update, and every other record stays (R103, R116, R117; that a stamp is taken where it moves the
record's is log entry 46; classes that differ are log entry 50's, and left out). -/
def Sys2Proof.Claim.SecondSightingWidens : Prop :=
  ∀ (h : History) (r : Record) (sg : Sighting) (sweepNumber : Word16),
    h.find sg.module sg.code = some r → r.sighted = true →
    ∃ h' r', h.merge sg sweepNumber = (h', .second) ∧ h'.find sg.module sg.code = some r'
      ∧ r'.box = r.box ∧ r'.total = r.total ∧ r'.severity = r.severity ∧ r'.snapshot = r.snapshot
      ∧ r'.snapLost = r.snapLost ∧ r'.sweepNumber = r.sweepNumber ∧ r'.sighted = true ∧ r'.number = r.number
      ∧ r'.state = (if r.state = .active ∨ sg.state = .active then .active else .stored)
      ∧ (sg.stamps = none →
          r'.stamps = r.stamps ∧ r'.predates = r.predates ∧ r'.refUnset = r.refUnset)
      ∧ (r.stamps = none → sg.stamps ≠ none →
          r'.stamps = sg.stamps ∧ r'.predates = (r.predates || sg.predates)
            ∧ r'.refUnset = (r.refUnset || sg.refUnset))
      ∧ (∀ x y, r.stamps = some x → sg.stamps = some y → x.cls = y.cls →
          (∃ z, r'.stamps = some z ∧ spanOf x y z)
          ∧ (if y.first.toNat < x.first.toNat ∨ x.last.toNat < y.last.toNat then
              r'.predates = (r.predates || sg.predates) ∧ r'.refUnset = (r.refUnset || sg.refUnset)
            else r'.predates = r.predates ∧ r'.refUnset = r.refUnset))
      ∧ (r'.unread = true ↔ r.unread = true ∨ changedBy r r')
      ∧ h'.poolUsed = h.poolUsed ∧ h'.next = h.next
      ∧ (h.wf → ∀ x, x ≠ r → (x ∈ h'.records ↔ x ∈ h.records ∨ x = r'))

/-- The two merges of a sighting into its record: the first in a dialog counts, a further one widens (R100 to R103, R115 to
R117; log entry 46). -/
def Obligations.SightingsMergeIntoTheirRecord : Prop :=
  FirstSightingCounts ∧ SecondSightingWidens

/-- A sighting without a record, for which evicting candidates can make room, makes a record: the candidates are evicted in
ascending number, no more than it takes for fewer than 384 records and enough free pool, and none where there is room; the
record takes the first number from the next number on that no record then holds, and the next number becomes the one
following it. Total and box count are the reported count, UNREAD and SIGHTED are set, every record not evicted stays, and the
creation is reported (R104, R108, R111, R114). -/
def Sys2Proof.Claim.NewRecordTakesTheSighting : Prop :=
  ∀ (h : History) (sg : Sighting) (sweepNumber : Word16), h.wf → h.find sg.module sg.code = none →
    roomAfter h sg.snapshot.length (evictable h).length →
    ∃ (h' : History) (m k : Nat),
      let evicted := (evictable h).take m
      let n := following^[k] h.next
      let new : Record :=
        { number := n, module := sg.module, code := sg.code, state := sg.state, severity := sg.severity,
          box := sg.count, total := sg.count, stamps := sg.stamps, unread := true, sighted := true,
          predates := sg.predates, refUnset := sg.refUnset, snapLost := false, sweepNumber,
          snapshot := sg.snapshot }
      h.merge sg sweepNumber = (h', .created)
      ∧ m ≤ (evictable h).length ∧ roomAfter h sg.snapshot.length m
      ∧ (∀ j, j < m → ¬ roomAfter h sg.snapshot.length j)
      ∧ n ≠ 0 ∧ (∀ x ∈ h.records, x ∉ evicted → x.number ≠ n)
      ∧ (∀ j, j < k → ∃ x ∈ h.records, x ∉ evicted ∧ x.number = following^[j] h.next)
      ∧ h'.next = following n
      ∧ h'.find sg.module sg.code = some new
      ∧ (∀ x, x ∈ h'.records ↔ (x ∈ h.records ∧ x ∉ evicted) ∨ x = new)
      ∧ h'.records.length = h.records.length - m + 1
      ∧ h'.poolUsed = h.poolUsed - snapshotBytes evicted + sg.snapshot.length

/-- A sighting without a record that would find no room even with every GONE and read record evicted is refused, and the
table changes in no way (R111). -/
def Sys2Proof.Claim.RefusedSightingLeavesTheTable : Prop :=
  ∀ (h : History) (sg : Sighting) (sweepNumber : Word16), h.wf → h.find sg.module sg.code = none →
    (let staying := h.records.filter (fun r => !(r.state == .gone && !r.unread))
     384 ≤ staying.length ∨ 3072 < snapshotBytes staying + sg.snapshot.length) →
    h.merge sg sweepNumber = (h, .refused)

/-- A sighting without a record becomes a new one, where need be after evictions, or is refused for lack of room (R104, R108,
R111, R114). -/
def Obligations.NewSightingsFindRoomOrAreRefused : Prop :=
  NewRecordTakesTheSighting ∧ RefusedSightingLeavesTheTable

/-- HISTORY_READ of good form carries the matching records from the starting number on, in ascending number, as many as the
maximum count and the 244 bytes left allow, with the number of the first one not carried or 0; then UNREAD is cleared on the
records carried, and nothing else changes (R121). -/
def Sys2Proof.Claim.HistoryReadCarriesInOrder : Prop :=
  ∀ (s : State) (b0 b1 b2 b3 maximum filter m : Byte), Ready s → maximum ≠ 0 →
    (filter.toNat < 2 ∨ (filter.toNat = 2 ∧ m.toNat < 48)) →
    let start : Word32 := b0 ++ b1 ++ b2 ++ b3
    let matching := s.history.records.filter (fun r =>
      start.toNat ≤ r.number.toNat
        && (filter.toNat == 0 || (filter.toNat == 1 && r.unread)
          || (filter.toNat == 2 && r.module.val == m.toNat)))
    ∃ carried left : List Record, matching = carried ++ left
      ∧ carried.length ≤ maximum.toNat ∧ (carried.flatMap recordBytes).length ≤ 244
      ∧ (∀ r rs, left = r :: rs →
          carried.length = maximum.toNat ∨ 244 < (carried.flatMap recordBytes).length + (recordBytes r).length)
      ∧ exec (.historyRead [b0, b1, b2, b3, maximum, filter, m]) s =
          .next
            (answered
              { s with history := { s.history with records := s.history.records.map (fun r =>
                  if carried.any (fun x => x.number == r.number) then { r with unread := false } else r) } }
              0x92 .done
              (byte carried.length :: bytes32 ((left.head?.map Record.number).getD 0) ++ carried.flatMap recordBytes))

/-- HISTORY_READ with a maximum count of 0, a filter that is none of the three, or filter MODULE with an index above 47 is
BAD_FORM and changes nothing (R120). -/
def Sys2Proof.Claim.HistoryReadForm : Prop :=
  ∀ (s : State) (b0 b1 b2 b3 maximum filter m : Byte), Ready s →
    (maximum = 0 ∨ 2 < filter.toNat ∨ (filter.toNat = 2 ∧ 47 < m.toNat)) →
    exec (.historyRead [b0, b1, b2, b3, maximum, filter, m]) s = .next (answered s 0x92 .badForm)

/-- A flag byte or a channel set with a bit that its layout does not use is BAD_FORM, and changes nothing: in TABLE_PUT,
TABLE_REMOVE, REFERENCE_SET and SWEEP (R169, step 3). -/
def Sys2Proof.Claim.UnusedBitsAreBadForm : Prop :=
  ∀ s : State, Ready s →
    (∀ (index ch address flags : Byte) (rest : List Byte), rest.length = 5 → 8 ≤ flags.toNat →
      exec (.tablePut (index :: ch :: address :: flags :: rest)) s = .next (answered s 0x83 .badForm))
    ∧ (∀ index flags : Byte, 2 ≤ flags.toNat →
        exec (.tableRemove [index, flags]) s = .next (answered s 0x85 .badForm))
    ∧ (∀ (presence : Byte) (rest : List Byte), 4 ≤ presence.toNat →
        exec (.referenceSet (presence :: rest)) s = .next (answered s 0x8E .badForm))
    ∧ (∀ (scope options : Byte) (rest : List Byte), 4 ≤ options.toNat →
        exec (.sweep (scope :: options :: rest)) s = .next (answered s 0x8F .badForm))
    ∧ (∀ options set : Byte, 8 ≤ set.toNat → exec (.sweep [1, options, set]) s = .next (answered s 0x8F .badForm))

/-- A request that fails a check of kind, length or encoding gets one reply and changes no state: an unknown KIND
UNKNOWN_KIND, a wrong length BAD_FORM, and so a bad index, channel code, flag byte, setting identifier (in SETTINGS_PUT or
SETTINGS_GET), maximum count or filter (R58, R120, R161, R169, R171; the reply to a CHANNEL_RESUME that names no channel is
log entry 38). -/
def Obligations.BadRequestsChangeNothing : Prop :=
  UnknownKindIsAnswered
    ∧ WrongLengthIsBadForm
    ∧ TablePutNamesAnEntryAndAChannel
    ∧ UnusedBitsAreBadForm
    ∧ SettingsPutNamesSettings
    ∧ SettingsGetForm
    ∧ HistoryReadForm

/-- HISTORY_PURGE removes every record that is GONE with UNREAD clear, returns their snapshot bytes to the pool, replies
with their number and changes nothing else (R123). -/
def Sys2Proof.Claim.HistoryPurgeRemovesTheCandidates : Prop :=
  ∀ s : State, Ready s →
    let goes (r : Record) : Bool := r.state == .gone && !r.unread
    exec (.historyPurge []) s =
      .next
        (answered
          { s with history :=
              { s.history with
                records := s.history.records.filter (fun r => !goes r),
                poolUsed := s.history.poolUsed - snapshotBytes (s.history.records.filter goes) } }
          0x93 .done (num16 (s.history.records.countP goes)))

/-- HISTORY_READ and HISTORY_PURGE (R120 to R123). -/
def Obligations.HistoryIsReadAndPurged : Prop :=
  HistoryReadCarriesInOrder ∧ HistoryPurgeRemovesTheCandidates

/-! ### The sweep controller (R3 to R20) -/

namespace Sys2Proof.Claim

/-- A payload of good form for SWEEP: scope ALL, a channel set that names a channel, or 1 to 48 indices of 0..47, with an
options byte of two flags (R3, R169). -/
def sweepForm (payload : List Byte) : Prop :=
  ∃ options : Byte, options.toNat < 4 ∧
    (payload = [0, options]
      ∨ (∃ set : Byte, payload = [1, options, set] ∧ set ≠ 0 ∧ set.toNat < 8)
      ∨ ∃ is : List Byte, payload = 2 :: options :: is ∧ is ≠ [] ∧ is.length ≤ 48 ∧ ∀ b ∈ is, b.toNat < 48)

/-- An entry in scope of a SWEEP of good form: in use, and named by the scope (R5). -/
def inScopeOf (s : State) (payload : List Byte) (i : ModuleIndex) : Prop :=
  (s.entry i).inUse = true ∧
    (payload.head? = some 0
      ∨ (payload.head? = some 1 ∧ (payload.getD 2 0).getLsbD (channelBit (s.entry i).channel) = true)
      ∨ (payload.head? = some 2 ∧ byte i.val ∈ payload.drop 2))

/-- An entry that the start of a sweep gives SKIPPED: its channel is SILENCED, or it is sleepy and the options do not
include INCLUDE_SLEEPERS (R5). -/
def skippedAtStart (s : State) (options : Byte) (i : ModuleIndex) : Prop :=
  s.shareState (s.entry i).channel = .silenced ∨ ((s.entry i).sleepy = true ∧ options.getLsbD 1 = false)

/-- What the part's own work leaves alone: the profile store, the chassis references, the settings, the key monitor, the
straps, the pins, the queue of commands, every configured field of the module table (R52), and of the host link all but
its notices. -/
def OwnWork (s t : State) : Prop :=
  t.store = s.store ∧ t.clock = s.clock ∧ t.settings = s.settings ∧ t.key = s.key ∧ t.straps = s.straps
    ∧ t.pins = s.pins ∧ t.pending = s.pending ∧ (∀ i, (t.entry i).configured = (s.entry i).configured)
    ∧ t.link.assembler = s.link.assembler ∧ t.link.requests = s.link.requests ∧ t.link.inService = s.link.inService
    ∧ t.link.repliesHeld = s.link.repliesHeld ∧ s.link.outbound <+: t.link.outbound

/-- In IDLE every work list is empty, every slot FREE and halt taken clear (that the end of a sweep clears it is the model's
reading of R1, log entry 54); in HALTING every work list is empty (R12, R13). -/
def SweepRests (s : State) : Prop :=
  (s.sweep.state = .idle → s.sweep.haltTaken = false ∧ ∀ c, s.workList c = [] ∧ (s.slot c).state = .free)
    ∧ (s.sweep.state = .halting → ∀ c, s.workList c = [])

end Sys2Proof.Claim

/-- SWEEP is checked for its form, then against the key, then against the controller: BAD_FORM, REFUSED with the key off,
BUSY in RUNNING or HALTING. A refused or malformed SWEEP changes no state (R3). -/
def Sys2Proof.Claim.SweepRefusals : Prop :=
  ∀ (s : State) (payload : List Byte), Ready s →
    (¬ sweepForm payload → exec (.sweep payload) s = .next (answered s 0x8F .badForm))
    ∧ (sweepForm payload → s.key.on = false → exec (.sweep payload) s = .next (answered s 0x8F .refused))
    ∧ (sweepForm payload → s.key.on = true → s.sweep.state ≠ .idle →
        exec (.sweep payload) s = .next (answered s 0x8F .busy))

/-- A SWEEP taken in IDLE with the key on, with a module to place: the number advances by one, kind HOST and the options are
recorded, halt taken, appended marks and record counts are cleared, and the controller is RUNNING. The entries in scope are
dealt with in ascending index: one whose channel is SILENCED, or a sleepy one without INCLUDE_SLEEPERS, is given SKIPPED with
its attention flag cleared; any other is placed on its channel's list. Its DONE reply carries the new number and comes before
every notice; after it comes a MODULE_END (SKIPPED) for each entry skipped, in ascending index, while they find room, and they
are the sweep's one count. Slots, controllers and history stay (R4, R5, R8). -/
def Sys2Proof.Claim.SweepBuildsItsLists : Prop :=
  ∀ (s : State) (payload : List Byte) (options : Byte), Ready s → Settled s → SweepRests s → sweepForm payload →
    payload.getD 1 0 = options → s.key.on = true → s.sweep.state = .idle →
    (∃ i, inScopeOf s payload i ∧ ¬ skippedAtStart s options i) →
    ∃ t, exec (.sweep payload) s = .next t
      ∧ s.link.outbound ++ [.reply 0x8F .done (bytes16 (s.sweep.number + 1))] <+: t.link.outbound
      ∧ t.sweep.state = .running ∧ t.sweep.number = s.sweep.number + 1 ∧ t.sweep.kind = .host
      ∧ t.sweep.options = ⟨options.getLsbD 0, options.getLsbD 1⟩ ∧ t.sweep.haltTaken = false
      ∧ t.sweep.created = 0 ∧ t.sweep.updated = 0 ∧ t.sweep.refused = 0
      ∧ (∀ skipped : List ModuleIndex, skipped.Pairwise (· < ·) →
          (∀ i, i ∈ skipped ↔ inScopeOf s payload i ∧ skippedAtStart s options i) →
          t.sweep.counts = (Vector.replicate 11 0).set 9 skipped.length
          ∧ (s.link.noticesHeld + skipped.length ≤ 12 →
              let ends : List OutFrame := skipped.map (fun i => .notice (.moduleEnd i .skipped 0 0))
              t.link =
                { s.link with
                  outbound := s.link.outbound ++ .reply 0x8F .done (bytes16 (s.sweep.number + 1)) :: ends }))
      ∧ (∀ c i, i ∈ t.workList c ↔
          inScopeOf s payload i ∧ ¬ skippedAtStart s options i ∧ (s.entry i).channel = c)
      ∧ (∀ c, (t.workList c).Pairwise (· < ·))
      ∧ (∀ i, inScopeOf s payload i → skippedAtStart s options i →
          t.entry i = { s.entry i with
              attention := false, lastOutcome := some .skipped, lastSweep := s.sweep.number + 1 })
      ∧ (∀ i, ¬ (inScopeOf s payload i ∧ skippedAtStart s options i) → t.entry i = s.entry i)
      ∧ (∀ i : ModuleIndex, t.sweep.appended[i] = false)
      ∧ (∀ i : ModuleIndex, t.sweep.reached[i] = true ↔ inScopeOf s payload i ∧ skippedAtStart s options i)
      ∧ t.slots = s.slots ∧ t.toHand = s.toHand ∧ t.can = s.can ∧ t.line = s.line ∧ t.history = s.history
      ∧ t.share.channels = s.share.channels ∧ t.store = s.store ∧ t.clock = s.clock ∧ t.settings = s.settings
      ∧ t.key = s.key ∧ t.straps = s.straps ∧ t.pins = s.pins

/-- A SWEEP whose scope holds no in-use entry ends within its own start: DONE with the new number, then SWEEP_END (FINISHED)
with every count 0, and the controller is IDLE again. With AUTO_ATTENTION off nothing else changes (R6, R12). -/
def Sys2Proof.Claim.EmptySweepEndsWithinItsStart : Prop :=
  ∀ (s : State) (payload : List Byte) (options : Byte), Ready s → Settled s → SweepRests s → sweepForm payload →
    payload.getD 1 0 = options → s.key.on = true → s.sweep.state = .idle → (∀ i, ¬ inScopeOf s payload i) →
    s.setting .autoAttention = 0 →
    exec (.sweep payload) s =
      .next
        (noticed
          (answered
            { s with sweep :=
                { number := s.sweep.number + 1, kind := .host, options := ⟨options.getLsbD 0, options.getLsbD 1⟩ } }
            0x8F .done (bytes16 (s.sweep.number + 1)))
          (.sweepEnd .finished (s.sweep.number + 1) .host (Vector.replicate 11 0) 0 0 0))

/-- A SWEEP whose entries in scope are all given SKIPPED ends within its own start too: after the DONE reply come a
MODULE_END (SKIPPED) for each of them in ascending index and then SWEEP_END (FINISHED), while they find room; each entry has
its outcome, sweep number and mark, and no attention flag; the controller is IDLE. With AUTO_ATTENTION off nothing else
changes (R5, R6, R8, R12). -/
def Sys2Proof.Claim.SkippedSweepEndsWithinItsStart : Prop :=
  ∀ (s : State) (payload : List Byte) (options : Byte) (skipped : List ModuleIndex), Ready s → Settled s →
    SweepRests s → sweepForm payload → payload.getD 1 0 = options → s.key.on = true → s.sweep.state = .idle →
    skipped.Pairwise (· < ·) → (∀ i, i ∈ skipped ↔ inScopeOf s payload i) →
    (∀ i ∈ skipped, skippedAtStart s options i) → s.setting .autoAttention = 0 →
    ∃ t, exec (.sweep payload) s = .next t
      ∧ t.sweep =
          { number := s.sweep.number + 1, kind := .host, options := ⟨options.getLsbD 0, options.getLsbD 1⟩,
            reached := t.sweep.reached, counts := (Vector.replicate 11 0).set 9 skipped.length }
      ∧ (∀ i : ModuleIndex, t.sweep.reached[i] = true ↔ i ∈ skipped)
      ∧ (∀ i ∈ skipped, t.entry i = { s.entry i with
          attention := false, lastOutcome := some .skipped, lastSweep := s.sweep.number + 1 })
      ∧ (∀ i, i ∉ skipped → t.entry i = s.entry i)
      ∧ (s.link.noticesHeld + skipped.length < 12 →
          let ends : List OutFrame := skipped.map (fun i => .notice (.moduleEnd i .skipped 0 0))
          t.link =
            { s.link with
              outbound :=
                s.link.outbound ++ [.reply 0x8F .done (bytes16 (s.sweep.number + 1))] ++ ends
                  ++ [.notice (.sweepEnd .finished (s.sweep.number + 1) .host t.sweep.counts 0 0 0)] })
      ∧ t.slots = s.slots ∧ t.toHand = s.toHand ∧ t.can = s.can ∧ t.line = s.line ∧ t.history = s.history
      ∧ t.share = s.share ∧ t.store = s.store ∧ t.clock = s.clock ∧ t.settings = s.settings ∧ t.key = s.key
      ∧ t.straps = s.straps ∧ t.pins = s.pins

/-- A SWEEP is refused, builds its work lists, or ends within its own start (R3 to R6). -/
def Obligations.SweepIsRefusedOrStarts : Prop :=
  SweepRefusals ∧ SweepBuildsItsLists ∧ EmptySweepEndsWithinItsStart ∧ SkippedSweepEndsWithinItsStart

namespace Sys2Proof.Claim

/-- The slot's exchange unit is in progress: its answer or its boot wait is awaited, or the frame of the request that its step
awaits has started on its channel (R45). -/
def inExchangeUnit (s : State) (c : Channel) : Prop :=
  (s.slot c).response ≠ none ∨ (s.slot c).boot ≠ none
    ∨ ∃ f, s.frameInProgress c = some f ∧ f.own = true ∧ (s.slot c).awaits f.request = true

end Sys2Proof.Claim

/-- HALT is DONE in every controller state. In IDLE and HALTING it has no effect. In RUNNING halt taken is set and the work
lists are emptied, the modules on them taking no outcome. A slot in WAKING, IDENTIFYING, READING or ERASING with an exchange
unit in progress is left to it, and the controller is then HALTING; one at a boundary, a slot in REFERRED and one that is
PARKED end ABORTED at once, their unstarted frames withdrawn, with BYE on an OPEN channel; for a slot in ERASING whose ERASE
had not started that is the model's choice (log entry 47), and that the unstarted frames include a BYE of an earlier dialog,
so that the new BYE is all that is held, is its reading (log entry 35). When every slot is FREE the sweep ends with
SWEEP_END (HALTED), and halt taken is clear again (R13, R14; log entry 54). -/
def Obligations.HaltStopsTheSweep : Prop :=
  ∀ s : State, Ready s → Settled s →
    (s.sweep.state ≠ .running → exec (.halt []) s = .next (answered s 0x90 .done))
    ∧ (s.sweep.state = .running →
        ∃ t, exec (.halt []) s = .next t
          ∧ s.link.outbound ++ [.reply 0x90 .done []] <+: t.link.outbound
          ∧ (∀ c, t.workList c = [])
          ∧ ((∀ c, (t.slot c).state = .free) → t.sweep.state = .idle ∧ t.sweep.haltTaken = false)
          ∧ (∀ c, (t.slot c).state ≠ .free → t.sweep.state = .halting ∧ t.sweep.haltTaken = true)
          ∧ (∀ i, s.inSlot i = false → t.entry i = s.entry i)
          ∧ (∀ c, inExchangeUnit s c →
              ((s.slot c).state = .waking ∨ (s.slot c).state = .identifying ∨ (s.slot c).state = .reading
                ∨ (s.slot c).state = .erasing) →
              t.slot c = s.slot c)
          ∧ (∀ c i, (s.slot c).module = some i →
              ((s.slot c).state = .referred ∨ (s.slot c).state = .parked
                ∨ ((s.slot c).state ≠ .free ∧ ¬ inExchangeUnit s c)) →
              t.slot c = {} ∧ (t.entry i).lastOutcome = some .aborted ∧ (t.entry i).lastSweep = s.sweep.number
                ∧ t.sweep.reached[i] = true
                ∧ (s.shareState c = .opened → s.frameInProgress c = none → (s.slot c).state ≠ .parked →
                    holds s t c (s.entry i) .bye none false)
                ∧ (s.shareState c ≠ .opened → t.waitingFrames c = [] ∨ (s.slot c).state = .parked))
          ∧ ((∀ c, (s.slot c).state = .free) →
              t.sweep = { s.sweep with state := .idle, haltTaken := false, lists := ⟨[], [], []⟩ }
                ∧ (s.link.noticesHeld < 12 →
                    t.link.outbound = s.link.outbound ++
                      [.reply 0x90 .done [],
                        .notice (.sweepEnd .halted s.sweep.number s.sweep.kind s.sweep.counts s.sweep.created
                          s.sweep.updated s.sweep.refused)]))
          ∧ t.store = s.store ∧ t.clock = s.clock ∧ t.settings = s.settings ∧ t.key = s.key ∧ t.history = s.history)

/-- CHANNEL_RESUME of a channel that is not SILENCED is DONE and changes nothing, and of one with a cause that persists is
REFUSED and changes nothing; either reply carries the channel's share state and its causes (R161). -/
def Sys2Proof.Claim.ChannelResumeWhereNothingReopens : Prop :=
  ∀ (s : State) (c : Channel), Ready s →
    let carried := [(s.shareState c).code, (s.shareOf c).causes.code]
    (s.shareState c ≠ .silenced → exec (.channelResume [channelCode c]) s = .next (answered s 0x91 .done carried))
    ∧ (s.shareState c = .silenced →
        (((s.shareOf c).causes.busOff = true ∧ s.controllerOff c = true)
          ∨ ((s.shareOf c).causes.lineStuck = true ∧ s.line.stuck = true)
          ∨ ((s.shareOf c).causes.tester = true ∧ s.yieldTrigger c = true)) →
        exec (.channelResume [channelCode c]) s = .next (answered s 0x91 .refused carried))

/-- CHANNEL_RESUME of a SILENCED channel, none of whose causes persists, empties its causes and leaves it YIELDED where a
yield trigger is present and OPEN otherwise; the reply carries the new state with no cause, and a CHANNEL_EVENT (YIELDED)
follows it in the first case. A CAN controller whose channel went silent with BUS_OFF is ACTIVE again with both counts 0; it
takes its bit rate from its setting, and on the bus it starts a fresh load window with verdict QUIET. The other channels, the
slots, the history and the module table stay (R134, R137, R161). -/
def Sys2Proof.Claim.ChannelResumeReopens : Prop :=
  ∀ (s : State) (c : Channel), Ready s → Settled s → s.shareState c = .silenced →
    ¬ ((s.shareOf c).causes.busOff = true ∧ s.controllerOff c = true) →
    ¬ ((s.shareOf c).causes.lineStuck = true ∧ s.line.stuck = true) →
    ¬ ((s.shareOf c).causes.tester = true ∧ s.yieldTrigger c = true) →
    ∃ t, exec (.channelResume [channelCode c]) s = .next t
      ∧ t.shareState c = (if s.yieldTrigger c then .yielded else .opened) ∧ (t.shareOf c).causes = {}
      ∧ (t.shareOf c).hold = (s.shareOf c).hold ∧ (∀ d, d ≠ c → t.shareOf d = s.shareOf d)
      ∧ t.link.outbound =
          s.link.outbound ++ [.reply 0x91 .done [if s.yieldTrigger c then 2 else 0, 0]] ++
            (if s.yieldTrigger c = true ∧ s.link.noticesHeld < 12 then
              [.notice (.channelEvent c .yielded none)] else [])
      ∧ (∀ k : CanChannel, k.toChannel = c → (s.shareOf c).causes.busOff = true →
          (t.canCtl k).errorState = .active ∧ (t.canCtl k).transmitErrors = 0 ∧ (t.canCtl k).receiveErrors = 0
            ∧ (t.canCtl k).idleSequences = 0)
      ∧ (∀ k : CanChannel, k.toChannel = c →
          (t.canCtl k).rate = CanRate.ofKbit (s.setting (rateSetting k))
            ∧ ((t.canCtl k).errorState = .active ∨ (t.canCtl k).errorState = .passive →
                (t.canCtl k).window = some 100 ∧ (t.canCtl k).windowCount = 0 ∧ (t.canCtl k).verdict = .quiet))
      ∧ (∀ k : CanChannel, k.toChannel ≠ c → t.canCtl k = s.canCtl k)
      ∧ t.line = s.line ∧ t.slots = s.slots ∧ t.table = s.table ∧ t.sweep = s.sweep ∧ t.history = s.history
      ∧ t.store = s.store ∧ t.clock = s.clock ∧ t.settings = s.settings ∧ t.key = s.key

/-- CHANNEL_RESUME: where it changes nothing, and how it reopens a silenced channel (R137, R161). -/
def Obligations.ChannelResumeChecksAndReopens : Prop :=
  ChannelResumeWhereNothingReopens ∧ ChannelResumeReopens

namespace Sys2Proof.Claim

/-- A CAN controller after an engine reset: its frame withdrawn, an attempt on the bus left to its end, the tester hold
clear, the bases those of the settings; the error state and the counts, the gap timer, the pace gap and the load meter stay
(R126, R127, R131, R137; the attempt on the bus is log entry 12's). -/
def canAfterReset (s : State) (k : CanChannel) : Can :=
  let x := s.canCtl k
  { x with
    holding := .empty, orphan := x.orphan || (match x.holding with | .inProgress _ onBus => onBus | _ => false),
    testerHold := none, requestBase := s.setting (requestBaseSetting k),
    responseBase := s.setting (responseBaseSetting k) }

/-- Line S after an engine reset: nothing held, what was driven cut into a turnaround, a turnaround that ran ended, the
receiver OFF, the detector in RELEASE with its timer loaded; the level, the echo mismatch count and the stuck monitor stay
(R139, R142, R147; the cut of the transmitter is log entries 22's and 33's, the detector log entry 23's). -/
def lineAfterReset (s t : State) : Prop :=
  t.line.holding = none
    ∧ t.line.transmitter =
        (if s.line.transmitter = .sending ∨ s.line.transmitter = .drivingWake then .turnaround else .idle)
    ∧ (s.line.transmitter = .sending ∨ s.line.transmitter = .drivingWake →
        t.line.driving = none ∧ t.line.wakeLeft = none ∧ t.line.turnaround = some (5 * s.setting .turnaroundBits))
    ∧ (s.line.transmitter = .turnaround → t.line.turnaround = none)
    ∧ t.line.receiver = .off ∧ t.line.buffer = [] ∧ t.line.measuredSpan = none
    ∧ t.line.detector = .release ∧ t.line.release = some 10 ∧ t.line.width = 0
    ∧ t.line.level = s.line.level ∧ t.line.echoMismatches = s.line.echoMismatches ∧ t.line.stuck = s.line.stuck
    ∧ t.line.stuckClear = s.line.stuckClear
    ∧ (s.line.transmitter ≠ .drivingWake → t.line.stuckTimer = s.line.stuckTimer)

/-- The share state of a channel after an engine reset, and the notice it queues (R164). -/
def shareAfterReset (s : State) (c : Channel) : ShareState × List OutFrame :=
  match s.shareState c, s.yieldTrigger c with
  | .silenced, _ => (.silenced, [])
  | .standby, _ => (.standby, [])
  | .yielded, true => (.yielded, [])
  | .yielded, false => (.opened, [.notice (.channelEvent c .resumed none)])
  | _, true => (.yielded, [.notice (.channelEvent c .yielded none)])
  | _, false => (.opened, [])

end Sys2Proof.Claim

/-- RESET, taken when none waits or as the oldest that waits, queues its DONE, discards the other waiting requests and every
notice but one whose sending has begun, and keeps the replies in their order. Then every block is reset: the controller is
IDLE with its number, kind and options kept and no SWEEP_END or MODULE_END; every slot is FREE with a clear context; SIGHTED
is clear on every record; each channel controller drops its frames; each channel's share state is recomputed, in the order
A, B, S, with its notice; and settings, module table, store, references and key stay (R16, R51, R118, R126, R139, R164,
R173; that the oldest frame is the one being sent is the model's choice, log entry 9, and so is that a RESET command takes
the request that waits, log entry 5; what becomes of an attempt on the bus, a frame on line S and the detector are its
readings, log entries 12, 22, 23 and 33). -/
def Obligations.ResetKeepsWhatItShould : Prop :=
  ∀ (s : State) (waiting : List HostFrame), s.link.inService = none → s.link.repliesHeld < 4 →
    (s.link.requests = [] ∨ s.link.requests = ⟨0x14, []⟩ :: waiting) →
    ∃ t : State, exec (.reset []) s = .next t
      ∧ t.link.outbound =
          (match s.link.outbound with | [] => [] | f :: fs => f :: fs.filter (fun x => !x.isNotice))
            ++ [.reply 0x94 .done []]
            ++ (shareAfterReset s .a).2 ++ (shareAfterReset s .b).2 ++ (shareAfterReset s .s).2
      ∧ t.link.requests = [] ∧ t.link.inService = none ∧ t.link.assembler = s.link.assembler
      ∧ t.link.noticesLost = s.link.noticesLost
      ∧ t.sweep = { number := s.sweep.number, kind := s.sweep.kind, options := s.sweep.options }
      ∧ (∀ c, t.slot c = {}) ∧ (∀ c, t.waitingFrames c = [])
      ∧ (∀ k, t.canCtl k = canAfterReset s k) ∧ lineAfterReset s t
      ∧ (∀ c, t.shareOf c = { s.shareOf c with state := (shareAfterReset s c).1 })
      ∧ t.share.tpresActive = s.share.tpresActive ∧ t.share.pneed = false
      ∧ t.share.tgnt = ([Channel.a, .b, .s].any (fun c => s.isSocket c && (shareAfterReset s c).1 == .yielded))
      ∧ t.history = { s.history with records := s.history.records.map (fun r => { r with sighted := false }) }
      ∧ t.table = s.table ∧ t.store = s.store ∧ t.clock = s.clock ∧ t.settings = s.settings ∧ t.key = s.key
      ∧ t.straps = s.straps ∧ t.pins = s.pins

/-! ### The readout dialog (R22 to R50) -/

namespace Sys2Proof.Claim

/-- Where a frame handed for the module of an entry goes: the identifier on CAN, the address and line rate on line S (R23,
R127). -/
def destinationOf (s : State) (c : Channel) (e : Entry) : Destination :=
  match c with
  | .a => .can (s.can.a.requestBase + e.address)
  | .b => .can (s.can.b.requestBase + e.address)
  | .s => .line e.address (e.lineRate.getD .r19200)

/-- A service of the slot's module reaches the slot's channel: on CAN the controller is on line and holds no answer of this
module back (R24, R129, R130). -/
def heard (s : State) (c : Channel) (e : Entry) : Prop :=
  match c with
  | .a => (s.can.a.errorState = .active ∨ s.can.a.errorState = .passive)
      ∧ ∀ a : BitVec 5, s.can.a.testerHold = some a → a.toNat ≠ e.address
  | .b => (s.can.b.errorState = .active ∨ s.can.b.errorState = .passive)
      ∧ ∀ a : BitVec 5, s.can.b.testerHold = some a → a.toNat ≠ e.address
  | .s => True

/-- Beside the dialog in the slot of a channel, the sweep has other work: a module listed, or another slot busy. -/
def otherWork (s : State) (c : Channel) : Prop := ∃ d, s.workList d ≠ [] ∨ (d ≠ c ∧ (s.slot d).state ≠ .free)

/-- The end of a dialog as the sweep controller and the host learn it: the outcome, the pages read, the sightings refused, and
the notices that come before its MODULE_END. -/
structure DialogEnd where
  outcome : SweepOutcome
  pages : Nat
  refused : Nat
  before : List Notice := []
  deriving DecidableEq, Repr

/-- A request, or a wake, of the dialog that holds the slot; STAY and BYE are none (R23). -/
def asks (f : TxFrame) : Bool := f.own && !(f.request == .stay || f.request == .bye)

/-- The frames still to hand on a channel but for the requests of the dialog in its slot. -/
def stillToHand (s : State) (c : Channel) : List TxFrame := (s.waitingFrames c).filter (fun f => !asks f)

/-- `s` without the requests of the dialog in a channel's slot that have not started: those still to hand, and one that waits
in the transmit holding (R33; that the one in the holding goes too is log entry 57's). -/
def requestsDropped (s : State) (c : Channel) : State :=
  let u : State := { s with toHand := s.toHand.set c (stillToHand s c) }
  match s.frameWaiting c with
  | none => u
  | some f =>
    if asks f then
      match c with
      | .a => { u with can := u.can.set .a { u.can.a with holding := .empty } }
      | .b => { u with can := u.can.set .b { u.can.b with holding := .empty } }
      | .s => { u with line := { u.line with holding := none } }
    else u

/-- A frame that may wait on a channel after the end of its dialog: the BYE on an OPEN channel; what was still to hand but for the
requests of the dialog; and what waited in the transmit holding, but for its ERASE (R42, R44; but for the ERASE, log
entry 57). -/
def mayWaitAfterwards (s : State) (c : Channel) (e : Entry) (f : TxFrame) : Prop :=
  (s.shareState c = .opened ∧ f = { request := .bye, dest := destinationOf s c e, own := false })
    ∨ (∃ g ∈ stillToHand s c, f = { g with own := false })
    ∨ (∃ g, s.frameWaiting c = some g ∧ ¬ (g.own = true ∧ g.request = .erase) ∧ f = { g with own := false })

/-- The end of a channel's dialog with an outcome, its pages and refusals as they stand, and no notice before its MODULE_END. -/
def endOf (s : State) (c : Channel) (o : SweepOutcome) : DialogEnd := ⟨o, (s.slot c).pagesRead, (s.slot c).refused, []⟩

/-- The dialog of a channel has ended for a module, as R8 and R44 lay down: the slot is FREE with a clear context; outcome and
sweep number stand in the entry, which is reached; the outcome is counted; MODULE_END is queued before any notice but those
named; BYE is handed when the channel is OPEN, and otherwise none is and no frame is left waiting; neither an ERASE of the dialog
nor any other request it had still to hand is left to be sent (R42; but for the ERASE, log entry 57); the other slots and
entries, and all that is not the part's own work, stay. -/
def EndedWith (s t : State) (c : Channel) (i : ModuleIndex) (e : DialogEnd) : Prop :=
  t.slot c = {}
    ∧ (t.entry i).lastOutcome = some e.outcome ∧ (t.entry i).lastSweep = s.sweep.number
    ∧ (∀ j, j ≠ i → t.entry j = s.entry j)
    ∧ t.sweep.number = s.sweep.number ∧ t.sweep.reached[i] = true
    ∧ t.sweep.counts[e.outcome.index] = min 255 (s.sweep.counts[e.outcome.index] + 1)
    ∧ (s.link.noticesHeld + e.before.length < 12 →
        s.link.outbound ++ e.before.map OutFrame.notice ++ [.notice (.moduleEnd i e.outcome e.pages e.refused)]
          <+: t.link.outbound)
    ∧ (s.shareState c = .opened → nothingWaits s c → holds s t c (s.entry i) .bye none false)
    ∧ (s.shareState c ≠ .opened →
        t.waitingFrames c = (stillToHand s c).map (fun f => { f with own := false }) ∧ (noneWaits s c → noneWaits t c))
    ∧ (∀ f, f ∈ t.waitingFrames c ∨ t.frameWaiting c = some f → mayWaitAfterwards s c (s.entry i) f)
    ∧ (∀ d, d ≠ c → t.slot d = s.slot d) ∧ OwnWork s t

/-- The dialog of a channel has ended with an outcome that stands alone: nothing else of the entry, and no history, changes. -/
def Ended (s t : State) (c : Channel) (i : ModuleIndex) (o : SweepOutcome) : Prop :=
  EndedWith s t c i (endOf s c o)
    ∧ t.entry i = { s.entry i with lastOutcome := some o, lastSweep := s.sweep.number } ∧ t.history = s.history

/-- A slot after an identity reply is accepted: its timers stopped, tag, erase-capable flag and reference snapshot recorded
(R31). -/
def identifiedSlot (s : State) (c : Channel) (tag : Word16) (clock : ClockBytes) (flags : Byte) : Slot :=
  { s.slot c with
    response := none, boot := none, tag := some tag, eraseCapable := flags.getLsbD 0, identified := true,
    snapshot := some { t := s.clock.t, tSet := s.clock.tSet, d := s.clock.d, dSet := s.clock.dSet, clock } }

/-- A history with SIGHTED clear on every record of a module (R118). -/
def unsighted (h : History) (i : ModuleIndex) : History :=
  { h with records := h.records.map (fun r => if r.module = i then { r with sighted := false } else r) }

/-- A slot that awaits its module's first identity reply: IDENTIFYING, or WAKING on CAN, with none accepted yet (R24). -/
def awaitsFirstReply (s : State) (c : Channel) : Prop :=
  ((s.slot c).state = .identifying ∨ ((s.slot c).state = .waking ∧ c ≠ .s)) ∧ (s.slot c).identified = false

/-- The whole state but one channel's slot, its frames and its controller. -/
def SameBeyond (s t : State) (c : Channel) : Prop :=
  (∀ d, d ≠ c → t.slot d = s.slot d ∧ t.waitingFrames d = s.waitingFrames d)
    ∧ (∀ k : CanChannel, k.toChannel ≠ c → t.canCtl k = s.canCtl k) ∧ (c ≠ .s → t.line = s.line)
    ∧ t.share = s.share ∧ t.sweep = s.sweep ∧ t.link = s.link ∧ OwnWork s t

/-- The segments that a page of this length needs on a channel: 7 bytes each on CAN, 16 on line S (R36). -/
def segmentsNeeded (c : Channel) (length : Nat) : Nat :=
  match c with | .s => (length + 15) / 16 | _ => (length + 6) / 7

/-- The length of segment `j` of a page of this length (R36). -/
def segmentBytes (c : Channel) (length j : Nat) : Nat :=
  match c with | .s => min 16 (length - 16 * j) | _ => min 7 (length - 7 * j)

/-- A page head that fails a check of R35. -/
def headMalformed (p : Profile) (x : Slot) (page count : Byte) (length : Word16) : Prop :=
  page.toNat ≠ x.page ∨ 16 < count.toNat ∨ length.toNat ≠ count.toNat * p.recordLength ∨ 512 < length.toNat

/-- A segment that is not the next one the page needs: its index or its length (R38). -/
def segmentMisfits (c : Channel) (x : Slot) (h : PageHead) (index : BitVec 3) (data : List Byte) : Prop :=
  index.toNat ≠ x.received % 8 ∨ data.length ≠ segmentBytes c h.length x.received

/-- What a failed page attempt does, sweep not halted and channel OPEN: the first time the staging is dropped and the same
page asked again with page attempt 2; the second time the dialog ends PARTIAL (R39; that segments expected return to 0 is
log entry 48's). -/
def AttemptFailed (s : State) (c : Channel) (i : ModuleIndex) (r : Host.Outcome State Fault Refusal) : Prop :=
  ((s.slot c).attempt = 1 →
      ∃ t, r = .next t
        ∧ t.slot c = { s.slot c with
            response := none, staging := [], head := none, expected := 0, received := 0, outstanding := 0, attempt := 2,
            sub := .asked }
        ∧ (nothingWaits s c → holds s t c (s.entry i) (.askPage (s.slot c).page))
        ∧ SameBeyond s t c ∧ t.table = s.table ∧ t.history = s.history)
    ∧ ((s.slot c).attempt ≠ 1 → otherWork s c → ∃ t, r = .next t ∧ Ended s t c i .partialRead)

/-- The sightings of a page merged in order, with what the table reports of each (R40, R100). -/
def mergedInOrder (sweepNumber : Word16) : History → List Sighting → History × List MergeReport
  | h, [] => (h, [])
  | h, sg :: sgs =>
    let (h', report) := h.merge sg sweepNumber
    let (h'', reports) := mergedInOrder sweepNumber h' sgs
    (h'', report :: reports)

/-- A record count of the sweep raised by so many events, held at 65 535 (R9). -/
def counted (n events : Nat) : Nat := if events = 0 then n else min 65535 (n + events)

/-- The last segment of a page: READING, DRAWING, the last outstanding segment and the last that the page needs, of the right
index and length, its DRAW sent (R38; that a segment before that is ignored is log entry 32). -/
def endsPage (s : State) (c : Channel) (h : PageHead) (index : BitVec 3) (data : List Byte) : Prop :=
  (s.slot c).state = .reading ∧ (s.slot c).sub = .drawing ∧ (s.slot c).outstanding = 1 ∧ (s.slot c).response ≠ none
    ∧ (s.slot c).head = some h ∧ (s.slot c).received + 1 = (s.slot c).expected
    ∧ index.toNat = (s.slot c).received % 8 ∧ data.length = segmentBytes c h.length (s.slot c).received ∧ data ≠ []

/-- The last segment of a page whose sum is right (R40). -/
def completesPage (s : State) (c : Channel) (h : PageHead) (index : BitVec 3) (data : List Byte) : Prop :=
  endsPage s c h index data ∧ sum16 ((s.slot c).staging ++ data) = h.sum

end Sys2Proof.Claim

/-- A slot takes the head of its channel's work list when the controller is RUNNING, the slot is FREE and the channel OPEN:
the head leaves the list, its attention flag is cleared, the slot starts with a clear context in WAKING for a sleepy module
and in IDENTIFYING otherwise, and the wake or ASK_ID is handed, behind a frame of an earlier dialog that is still unsent. On
line S the receiver hunts, outside turnaround and a wake pattern. Everything else stays (R7, R22, R23, R29, R147, R152; that
the receiver hunts while a frame is sent, and is left OFF in a wake pattern and a turnaround, is the model's reading, log
entry 24, and so is how a frame waits behind another, log entry 11). -/
def Obligations.DialogStartTakesTheHead : Prop :=
  ∀ (s : State) (c : Channel) (i : ModuleIndex) (rest : List ModuleIndex), Settled s → s.sweep.state = .running →
    (s.slot c).state = .free → s.shareState c = .opened → s.workList c = i :: rest →
    ∃ t, exec (.dialogStart c) s = .next t
      ∧ t.slot c =
          (if (s.entry i).sleepy then { state := .waking, module := some i }
          else { state := .identifying, module := some i })
      ∧ t.workList c = rest ∧ (∀ d, d ≠ c → t.workList d = s.workList d)
      ∧ t.entry i = { s.entry i with attention := false } ∧ (∀ j, j ≠ i → t.entry j = s.entry j)
      ∧ (nothingWaits s c →
          holds s t c (s.entry i) (if (s.entry i).sleepy = true ∧ c = .s then .wake else .askId))
      ∧ (s.holdingEmpty c = false →
          t.waitingFrames c = s.waitingFrames c ++
              [{ request := if (s.entry i).sleepy = true ∧ c = .s then .wake else .askId,
                 dest := destinationOf s c (s.entry i) }]
            ∧ t.frameInProgress c = s.frameInProgress c ∧ t.frameWaiting c = s.frameWaiting c)
      ∧ (∀ d, d ≠ c → t.slot d = s.slot d ∧ t.waitingFrames d = s.waitingFrames d)
      ∧ (∀ k : CanChannel,
          t.canCtl k = (if k.toChannel = c then { s.canCtl k with holding := (t.canCtl k).holding } else s.canCtl k))
      ∧ t.line =
          (if c = .s then
            { s.line with
              holding := t.line.holding,
              receiver :=
                if s.line.transmitter = .idle ∨ s.line.transmitter = .sending then .hunt else s.line.receiver }
          else s.line)
      ∧ t.sweep = { s.sweep with lists := t.sweep.lists } ∧ t.share = s.share ∧ t.link = s.link
      ∧ t.history = s.history ∧ OwnWork s t

/-- An identity reply accepted first in a dialog records tag, erase-capable flag and reference snapshot and clears SIGHTED on
the module's records. Where the entry is RESOLVED with the reported tag, or else a lookup of it finds a profile, the slot is
READING and asks page 0 with that profile, and the entry is RESOLVED to it (R31, R32, R80; channel OPEN, no halt; that a
stopped keep-awake timer starts with READING is the model's reading, log entry 14). -/
def Obligations.IdReplyLeadsToPageZero : Prop :=
  ∀ (s : State) (c : Channel) (i : ModuleIndex) (tag : Word16) (clock : ClockBytes) (flags : Byte) (ref : ProfileRef),
    Settled s → awaitsFirstReply s c → (s.slot c).module = some i → heard s c (s.entry i) → tag ≠ 0 → tag ≠ 0xFFFF →
    s.shareState c = .opened → s.sweep.state ≠ .halting →
    ((s.entry i).resolution = .resolved ref tag
      ∨ ((∀ r, (s.entry i).resolution ≠ .resolved r tag) ∧ (s.entry i).resolution ≠ .declined tag
          ∧ s.store.lookup tag = some (.profile ref))) →
    ∃ t, exec (.idReply c tag clock flags) s = .next t
      ∧ t.slot c = { identifiedSlot s c tag clock flags with
          state := .reading, sub := .asked, page := 0, attempt := 1, profile := some ref, referral := none,
          keepAwake := awake s c }
      ∧ t.entry i = { s.entry i with resolution := .resolved ref tag } ∧ (∀ j, j ≠ i → t.entry j = s.entry j)
      ∧ t.history = unsighted s.history i
      ∧ (nothingWaits s c → holds s t c (s.entry i) (.askPage 0)) ∧ SameBeyond s t c

/-- An identity reply whose tag the lookup finds nowhere makes the entry UNRESOLVED, queues REFERRAL with the module and the
tag, and puts the slot in REFERRED with its referral timer loaded from REFERRAL_TIMEOUT; no frame is handed, and a request
of the slot that has not started, such as the next identity attempt, is not sent (R32, R33, R81; channel OPEN, no halt; that
a stopped keep-awake timer starts with REFERRED, and that such a request is withdrawn from the transmit holding too, is the
model's reading, log entries 14 and 57). -/
def Sys2Proof.Claim.IdReplyFoundNowhereRefers : Prop :=
  ∀ (s : State) (c : Channel) (i : ModuleIndex) (tag : Word16) (clock : ClockBytes) (flags : Byte),
    Settled s → awaitsFirstReply s c → (s.slot c).module = some i → heard s c (s.entry i) → tag ≠ 0 → tag ≠ 0xFFFF →
    s.shareState c = .opened → s.sweep.state ≠ .halting → (∀ r, (s.entry i).resolution ≠ .resolved r tag) →
    (s.entry i).resolution ≠ .declined tag → s.store.lookup tag = none →
    exec (.idReply c tag clock flags) s =
      .next
        (noticed
          { requestsDropped s c with
            slots := s.slots.set c { identifiedSlot s c tag clock flags with
              state := .referred, sub := .asked, referral := some (s.setting .referralTimeout * 1000),
              keepAwake := awake s c },
            table := s.table.set i { s.entry i with resolution := .unresolved },
            history := unsighted s.history i }
          (.referral i tag))

/-- An identity reply with the tag of an unchanged decline, or whose lookup finds DECLINE, makes or keeps the entry
DECLINED with the tag and ends the dialog UNSUPPORTED, whether or not a halt has been taken (R14, R32, R44). -/
def Sys2Proof.Claim.IdReplyDeclinedIsUnsupported : Prop :=
  ∀ (s : State) (c : Channel) (i : ModuleIndex) (tag : Word16) (clock : ClockBytes) (flags : Byte),
    Settled s → awaitsFirstReply s c → (s.slot c).module = some i → heard s c (s.entry i) → tag ≠ 0 → tag ≠ 0xFFFF →
    otherWork s c →
    ((s.entry i).resolution = .declined tag
      ∨ ((∀ r, (s.entry i).resolution ≠ .resolved r tag) ∧ s.store.lookup tag = some .decline)) →
    ∃ t, exec (.idReply c tag clock flags) s = .next t
      ∧ Ended
          { s with
            table := s.table.set i { s.entry i with resolution := .declined tag },
            history := unsighted s.history i }
          t c i .unsupported

/-- An identity reply whose tag no profile serves: a referral, or the end UNSUPPORTED (R14, R32, R33, R81; log entries 14 and
57). -/
def Obligations.IdReplyRefersOrDeclines : Prop :=
  IdReplyFoundNowhereRefers ∧ IdReplyDeclinedIsUnsupported

/-- Frames that a slot ignores, or that do not reach it, change nothing: any service of its module on a CAN channel whose
controller is neither ACTIVE nor PASSIVE, or whose tester hold is the address of the slot's module; every service in FREE,
PARKED and REFERRED; in WAKING all but, on CAN, ID_REPLY and DENY; in IDENTIFYING, READING and ERASING those that the state
does not await; and an ID_REPLY with tag 0x0000 or 0xFFFF in every state (R24, R30, R129, R130). -/
def Sys2Proof.Claim.IgnoredServicesChangeNothing : Prop :=
  ∀ (s : State) (c : Channel), Settled s →
    (∀ tag clock flags,
        ((s.slot c).state ≠ .identifying ∧ ¬ ((s.slot c).state = .waking ∧ c ≠ .s)) ∨ tag = 0 ∨ tag = 0xFFFF →
        exec (.idReply c tag clock flags) s = .next s)
    ∧ (∀ page count length flags sum, ¬ ((s.slot c).state = .reading ∧ (s.slot c).sub = .asked) →
        exec (.pageHead c page count length flags sum) s = .next s)
    ∧ (∀ index data, ¬ ((s.slot c).state = .reading ∧ (s.slot c).sub = .drawing ∧ (s.slot c).outstanding ≠ 0) →
        exec (.segment c index data) s = .next s)
    ∧ (∀ n, ((s.slot c).state ≠ .identifying ∧ (s.slot c).state ≠ .reading ∧ (s.slot c).state ≠ .erasing)
          ∨ (s.slot c).response = none ∨ n = 0 ∨ 8 ≤ (s.slot c).holdOns →
        exec (.holdOn c n) s = .next s)
    ∧ (∀ reason, (s.slot c).state = .free ∨ (s.slot c).state = .parked ∨ (s.slot c).state = .referred
          ∨ ((s.slot c).state = .waking ∧ c = .s) →
        exec (.deny c reason) s = .next s)
    ∧ ((s.slot c).state ≠ .erasing → exec (.eraseDone c) s = .next s)
    ∧ (∀ i, (s.slot c).module = some i → ¬ heard s c (s.entry i) →
        (∀ tag clock flags, exec (.idReply c tag clock flags) s = .next s)
        ∧ (∀ page count length flags sum, exec (.pageHead c page count length flags sum) s = .next s)
        ∧ (∀ index data, exec (.segment c index data) s = .next s)
        ∧ (∀ n, exec (.holdOn c n) s = .next s) ∧ (∀ reason, exec (.deny c reason) s = .next s)
        ∧ exec (.eraseDone c) s = .next s)

/-- A page head that passes its four checks, for a page with records, stops the response timer, is recorded, and starts the
first draw burst: DRAW(k) is handed for the smaller of DRAW_SIZE and the segments the page needs (R35 to R37; channel OPEN,
no halt). -/
def Sys2Proof.Claim.PageHeadStartsTheFirstBurst : Prop :=
  ∀ (s : State) (c : Channel) (i : ModuleIndex) (p : Profile) (page count : Byte) (length : Word16) (flags : Byte)
    (sum : Word16), Settled s → (s.slot c).state = .reading → (s.slot c).sub = .asked → (s.slot c).module = some i →
    s.slotProfile c = some p → heard s c (s.entry i) → ¬ headMalformed p (s.slot c) page count length →
    length ≠ 0 → s.shareState c = .opened → s.sweep.state ≠ .halting →
    let m := segmentsNeeded c length.toNat
    let k := min (s.setting .drawSize) m
    ∃ t, exec (.pageHead c page count length flags sum) s = .next t
      ∧ t.slot c = { s.slot c with
          sub := .drawing, response := none, expected := m, received := 0, outstanding := k, staging := [],
          head := some { count := count.toNat, length := length.toNat, more := flags.getLsbD 0, sum } }
      ∧ (nothingWaits s c → holds s t c (s.entry i) (.draw k))
      ∧ SameBeyond s t c ∧ t.table = s.table ∧ t.history = s.history

/-- A page attempt fails on a malformed page head, on a segment of the wrong index or length, on a page sum that does not
match, be it that of an empty page, and on the expiry of the response timer in READING: the first failure of a page repeats
it, the second ends the dialog PARTIAL, and the history table stays (R35, R38 to R40; channel OPEN, no halt; that the
segments expected return to 0 as well is log entry 48). -/
def Obligations.PageAttemptsFail : Prop :=
  ∀ (s : State) (c : Channel) (i : ModuleIndex) (p : Profile), Settled s → (s.slot c).state = .reading →
    (s.slot c).module = some i → s.slotProfile c = some p → heard s c (s.entry i) →
    s.shareState c = .opened → s.sweep.state ≠ .halting →
    ((s.slot c).sub = .asked → ∀ page count length flags sum, headMalformed p (s.slot c) page count length →
        AttemptFailed s c i (exec (.pageHead c page count length flags sum) s))
    ∧ ((s.slot c).sub = .drawing → (s.slot c).outstanding ≠ 0 → (s.slot c).response ≠ none →
        ∀ h index data, (s.slot c).head = some h → segmentMisfits c (s.slot c) h index data → data ≠ [] →
          data.length ≤ (if c = .s then 16 else 7) → AttemptFailed s c i (exec (.segment c index data) s))
    ∧ (∀ h index data, endsPage s c h index data → sum16 ((s.slot c).staging ++ data) ≠ h.sum →
        AttemptFailed s c i (exec (.segment c index data) s))
    ∧ ((s.slot c).sub = .asked → ∀ page flags sum, page.toNat = (s.slot c).page → sum ≠ 0 →
        AttemptFailed s c i (exec (.pageHead c page 0 0 flags sum) s))
    ∧ ((s.slot c).response ≠ none → AttemptFailed s c i (exec (.responseTimerExpiry c) s))

/-- A segment that passes its checks and leaves segments outstanding is appended to the staging buffer, and the response
timer is loaded afresh with the hold-on count cleared; nothing else changes (R25, R38). -/
def Sys2Proof.Claim.SegmentIsStaged : Prop :=
  ∀ (s : State) (c : Channel) (i : ModuleIndex) (h : PageHead) (index : BitVec 3) (data : List Byte), Settled s →
    (s.slot c).state = .reading → (s.slot c).sub = .drawing → 2 ≤ (s.slot c).outstanding → (s.slot c).response ≠ none →
    (s.slot c).module = some i → heard s c (s.entry i) → (s.slot c).head = some h →
    ¬ segmentMisfits c (s.slot c) h index data → data ≠ [] →
    exec (.segment c index data) s =
      .next
        { s with
          slots := s.slots.set c { s.slot c with
            staging := (s.slot c).staging ++ data, received := (s.slot c).received + 1,
            outstanding := (s.slot c).outstanding - 1, holdOns := 0,
            response := some { left := (s.entry i).responseWait * 10, since := 0 } } }

/-- A segment that ends a burst of a page that needs more starts the next burst: DRAW(k) for the smaller of DRAW_SIZE and
the segments still needed (R37, R38; channel OPEN, no halt). -/
def Sys2Proof.Claim.BurstFollowsBurst : Prop :=
  ∀ (s : State) (c : Channel) (i : ModuleIndex) (h : PageHead) (index : BitVec 3) (data : List Byte), Settled s →
    (s.slot c).state = .reading → (s.slot c).sub = .drawing → (s.slot c).outstanding = 1 → (s.slot c).response ≠ none →
    (s.slot c).module = some i → heard s c (s.entry i) → (s.slot c).head = some h →
    ¬ segmentMisfits c (s.slot c) h index data → data ≠ [] → (s.slot c).received + 1 ≠ (s.slot c).expected →
    s.shareState c = .opened → s.sweep.state ≠ .halting →
    let k := min (s.setting .drawSize) ((s.slot c).expected - ((s.slot c).received + 1))
    ∃ t, exec (.segment c index data) s = .next t
      ∧ t.slot c = { s.slot c with
          staging := (s.slot c).staging ++ data, received := (s.slot c).received + 1, outstanding := k, response := none }
      ∧ (nothingWaits s c → holds s t c (s.entry i) (.draw k))
      ∧ SameBeyond s t c ∧ t.table = s.table ∧ t.history = s.history

/-- A page is drawn burst by burst: its head starts the first, each segment is staged, and a burst that leaves segments starts
the next (R25, R35 to R38). -/
def Obligations.PagesAreDrawnInBursts : Prop :=
  PageHeadStartsTheFirstBurst ∧ SegmentIsStaged ∧ BurstFollowsBurst

/-- A page complete with the right sum is committed whole: its sightings are merged in record order before the slot hands its
next frame, pages read rises by one, sightings refused by those the table refused, and the sweep's record counts by what the
table reports. With the more-pages flag and a page below 31 the next page is asked, with page attempt 1 (R9, R40, R41;
channel OPEN, no halt; the keep-awake timer is log entry 14's). -/
def Sys2Proof.Claim.PageIsCommittedWhole : Prop :=
  ∀ (s : State) (c : Channel) (i : ModuleIndex) (p : Profile) (h : PageHead) (index : BitVec 3) (data : List Byte),
    Settled s → completesPage s c h index data → (s.slot c).module = some i → s.slotProfile c = some p →
    heard s c (s.entry i) → s.shareState c = .opened → s.sweep.state ≠ .halting → h.more = true → (s.slot c).page < 31 →
    let sightings := decodePage p (s.slot c).snapshot i ((s.slot c).staging ++ data)
    let merged := mergedInOrder s.sweep.number s.history sightings
    ∃ t, exec (.segment c index data) s = .next t
      ∧ t.history = merged.1
      ∧ t.slot c = { s.slot c with
          response := none, staging := [], head := none, expected := 0, received := 0, outstanding := 0, sub := .asked,
          attempt := 1, page := (s.slot c).page + 1, pagesRead := (s.slot c).pagesRead + 1,
          refused := (s.slot c).refused + merged.2.count .refused, keepAwake := awake s c }
      ∧ t.sweep = { s.sweep with
          created := counted s.sweep.created (merged.2.count .created),
          updated := counted s.sweep.updated (merged.2.count .updated),
          refused := counted s.sweep.refused (merged.2.count .refused) }
      ∧ (nothingWaits s c → holds s t c (s.entry i) (.askPage ((s.slot c).page + 1)))
      ∧ t.table = s.table ∧ t.link = s.link ∧ (∀ d, d ≠ c → t.slot d = s.slot d) ∧ OwnWork s t

/-- A page head for an empty page of the right sum, 0, commits the page at once: no history record changes, pages read rises by
one, and with the more-pages flag and a page below 31 the next page is asked (R35, R40, R41; channel OPEN, no halt). -/
def Sys2Proof.Claim.EmptyPageIsCommittedAtItsHead : Prop :=
  ∀ (s : State) (c : Channel) (i : ModuleIndex) (p : Profile) (page flags : Byte), Settled s →
    (s.slot c).state = .reading → (s.slot c).sub = .asked → (s.slot c).module = some i → s.slotProfile c = some p →
    heard s c (s.entry i) → page.toNat = (s.slot c).page → flags.getLsbD 0 = true → (s.slot c).page < 31 →
    s.shareState c = .opened → s.sweep.state ≠ .halting →
    ∃ t, exec (.pageHead c page 0 0 flags 0) s = .next t
      ∧ t.slot c = { s.slot c with
          response := none, staging := [], head := none, expected := 0, received := 0, outstanding := 0, sub := .asked,
          attempt := 1, page := (s.slot c).page + 1, pagesRead := (s.slot c).pagesRead + 1, keepAwake := awake s c }
      ∧ (nothingWaits s c → holds s t c (s.entry i) (.askPage ((s.slot c).page + 1)))
      ∧ SameBeyond s t c ∧ t.table = s.table ∧ t.history = s.history

/-- A page 31 committed with the more-pages flag set ends the dialog PARTIAL, or ABORTED under a halt: its sightings are
merged, and no record is marked GONE (R14, R41). -/
def Sys2Proof.Claim.Page31WithMoreEndsThePartialRead : Prop :=
  ∀ (s : State) (c : Channel) (i : ModuleIndex) (p : Profile) (h : PageHead) (index : BitVec 3) (data : List Byte),
    Settled s → completesPage s c h index data → (s.slot c).module = some i → s.slotProfile c = some p →
    heard s c (s.entry i) → h.more = true → (s.slot c).page = 31 → otherWork s c →
    let merged := mergedInOrder s.sweep.number s.history
      (decodePage p (s.slot c).snapshot i ((s.slot c).staging ++ data))
    let o : SweepOutcome := if s.sweep.state = .halting then .aborted else .partialRead
    ∃ t, exec (.segment c index data) s = .next t
      ∧ t.history = merged.1 ∧ t.slot c = {} ∧ (t.entry i).lastOutcome = some o
      ∧ (t.entry i).lastSweep = s.sweep.number
      ∧ (s.link.noticesHeld < 12 →
          s.link.outbound ++
              [.notice (.moduleEnd i o ((s.slot c).pagesRead + 1) ((s.slot c).refused + merged.2.count .refused))]
            <+: t.link.outbound)
      ∧ (∀ d, d ≠ c → t.slot d = s.slot d) ∧ OwnWork s t

/-- A page complete with the right sum is committed whole, an empty one at its head; after page 31 with more pages to come the
read is partial (R9, R35, R40, R41; log entry 14). -/
def Obligations.PagesAreCommittedWhole : Prop :=
  PageIsCommittedWhole ∧ EmptyPageIsCommittedAtItsHead ∧ Page31WithMoreEndsThePartialRead

namespace Sys2Proof.Claim

/-- The history table after a complete read of a module: its records that are neither SIGHTED nor GONE become GONE, with
UNREAD set and the running sweep's number (R41, R119). -/
def goneMarked (s : State) (i : ModuleIndex) (h : History) : History :=
  { h with records := h.records.map (fun r =>
      if r.module = i ∧ r.sighted = false ∧ r.state ≠ .gone then
        { r with state := .gone, unread := true, sweepNumber := s.sweep.number }
      else r) }

/-- The sweep controller after a page is merged: its record counts have risen by what the table reports (R9). -/
def sweepAfterPage (s : State) (merged : History × List MergeReport) : Sweep :=
  { s.sweep with
    created := counted s.sweep.created (merged.2.count .created),
    updated := counted s.sweep.updated (merged.2.count .updated),
    refused := counted s.sweep.refused (merged.2.count .refused) }

/-- The sweep controller after the last page of a complete read: each GONE marking is an update too (R9). -/
def sweepAfterRead (s : State) (i : ModuleIndex) (merged : History × List MergeReport) : Sweep :=
  { sweepAfterPage s merged with
    updated :=
      min 65535 (counted s.sweep.updated (merged.2.count .updated)
        + merged.1.records.countP (fun r => r.module == i && !r.sighted && r.state != .gone)) }

/-- The record counts of the sweep after the last page of a complete read (R9). -/
def countsAfterRead (s t : State) (i : ModuleIndex) (merged : History × List MergeReport) : Prop :=
  t.sweep.created = (sweepAfterRead s i merged).created ∧ t.sweep.updated = (sweepAfterRead s i merged).updated
    ∧ t.sweep.refused = (sweepAfterRead s i merged).refused

/-- An erase is due after a complete read: ERASE_AFTER, a profile that allows erase, an erase-capable module, no sighting
refused in the dialog and no halt taken (R42). -/
def eraseDueAfter (s : State) (c : Channel) (p : Profile) (refused : Nat) : Prop :=
  s.sweep.options.eraseAfter = true ∧ p.eraseAllowed = true ∧ (s.slot c).eraseCapable = true ∧ refused = 0
    ∧ s.sweep.haltTaken = false

/-- ERASE has been asked for after a complete read, its last page merged: the vanished records are GONE, the sweep's counts
have risen, and the slot is ERASING (R41, R42). -/
def EraseAsked (s t : State) (c : Channel) (i : ModuleIndex) (merged : History × List MergeReport) : Prop :=
  t.history = goneMarked s i merged.1 ∧ t.sweep = sweepAfterRead s i merged
    ∧ t.slot c = { s.slot c with
        state := .erasing, sub := .asked, response := none, staging := [], head := none, expected := 0, received := 0,
        outstanding := 0, attempt := 1, pagesRead := (s.slot c).pagesRead + 1, keepAwake := awake s c }
    ∧ (nothingWaits s c → holds s t c (s.entry i) .erase)
    ∧ t.table = s.table ∧ t.link = s.link ∧ (∀ d, d ≠ c → t.slot d = s.slot d) ∧ OwnWork s t

/-- The dialog of a channel has ended after a complete read, its last page merged: the vanished records are GONE, the sweep's
counts have risen, the slot is FREE, and the outcome is COMPLETE when no sighting was refused and STORE_FULL otherwise (R41,
R44). -/
def ReadEnded (s t : State) (c : Channel) (i : ModuleIndex) (merged : History × List MergeReport) : Prop :=
  let refused := (s.slot c).refused + merged.2.count .refused
  let o : SweepOutcome := if refused = 0 then .complete else .storeFull
  t.history = goneMarked s i merged.1 ∧ countsAfterRead s t i merged
    ∧ t.slot c = {} ∧ (t.entry i).lastOutcome = some o ∧ (t.entry i).lastSweep = s.sweep.number
    ∧ (s.link.noticesHeld < 12 →
        s.link.outbound ++ [.notice (.moduleEnd i o ((s.slot c).pagesRead + 1) refused)] <+: t.link.outbound)
    ∧ (s.shareState c = .opened → nothingWaits s c → holds s t c (s.entry i) .bye none false)
    ∧ (∀ d, d ≠ c → t.slot d = s.slot d) ∧ OwnWork s t

end Sys2Proof.Claim

/-- The commit of the last page, or of an empty last page at its head, completes the read. Where no erase is due, for want of
ERASE_AFTER, of the profile's leave or of the module's capability, for a refused sighting or for a halt, the dialog ends
COMPLETE or STORE_FULL, halted or not (R14, R35, R41, R42, R44, R119). -/
def Sys2Proof.Claim.LastPageCompletesTheRead : Prop :=
  ∀ (s : State) (c : Channel) (i : ModuleIndex) (p : Profile), Settled s → (s.slot c).module = some i →
    s.slotProfile c = some p → heard s c (s.entry i) → otherWork s c →
    (∀ (h : PageHead) (index : BitVec 3) (data : List Byte), completesPage s c h index data → h.more = false →
      let merged := mergedInOrder s.sweep.number s.history
        (decodePage p (s.slot c).snapshot i ((s.slot c).staging ++ data))
      ¬ eraseDueAfter s c p ((s.slot c).refused + merged.2.count .refused) →
      ∃ t, exec (.segment c index data) s = .next t ∧ ReadEnded s t c i merged)
    ∧ (∀ page flags : Byte, (s.slot c).state = .reading → (s.slot c).sub = .asked → page.toNat = (s.slot c).page →
        flags.getLsbD 0 = false → ¬ eraseDueAfter s c p (s.slot c).refused →
        ∃ t, exec (.pageHead c page 0 0 flags 0) s = .next t ∧ ReadEnded s t c i (s.history, []))

/-- An erase that is due after a complete read on an OPEN channel is asked for, after an empty last page at its head too: the
page is merged and the vanished records are GONE, ERASE is handed and the slot is ERASING (R35, R41, R42, R119; log
entry 14). -/
def Sys2Proof.Claim.DueEraseIsAsked : Prop :=
  ∀ (s : State) (c : Channel) (i : ModuleIndex) (p : Profile), Settled s → (s.slot c).module = some i →
    s.slotProfile c = some p → heard s c (s.entry i) → s.shareState c = .opened →
    (∀ (h : PageHead) (index : BitVec 3) (data : List Byte), completesPage s c h index data → h.more = false →
      let merged := mergedInOrder s.sweep.number s.history
        (decodePage p (s.slot c).snapshot i ((s.slot c).staging ++ data))
      eraseDueAfter s c p ((s.slot c).refused + merged.2.count .refused) →
      ∃ t, exec (.segment c index data) s = .next t ∧ EraseAsked s t c i merged)
    ∧ (∀ page flags : Byte, (s.slot c).state = .reading → (s.slot c).sub = .asked → page.toNat = (s.slot c).page →
        flags.getLsbD 0 = false → eraseDueAfter s c p (s.slot c).refused →
        ∃ t, exec (.pageHead c page 0 0 flags 0) s = .next t ∧ EraseAsked s t c i (s.history, []))

/-- After the last page the read is complete: the dialog ends, or the erase that is due is asked (R41, R42, R119; log
entry 14). -/
def Obligations.LastPageCompletesOrErases : Prop :=
  LastPageCompletesTheRead ∧ DueEraseIsAsked

/-- A HOLD_ON(n), n not 0, taken while the response timer runs in IDENTIFYING, READING or ERASING with fewer than 8 honoured
since its load, makes the remaining time the larger of itself and n x 10 ms, but no more than 5000 ms after the start of the
wait; the hold-on count rises by one and nothing else changes (R26). -/
def Sys2Proof.Claim.HoldOnExtendsTheWait : Prop :=
  ∀ (s : State) (c : Channel) (i : ModuleIndex) (n : Byte) (w : ResponseTimer), Settled s →
    ((s.slot c).state = .identifying ∨ (s.slot c).state = .reading ∨ (s.slot c).state = .erasing) →
    (s.slot c).module = some i → heard s c (s.entry i) → (s.slot c).response = some w → (s.slot c).holdOns < 8 → n ≠ 0 →
    exec (.holdOn c n) s =
      .next
        { s with
          slots := s.slots.set c { s.slot c with
            response := some { w with left := min (max w.left (n.toNat * 10)) (5000 - w.since) },
            holdOns := (s.slot c).holdOns + 1 } }

/-- A DENY ends the dialog at once: DENIED in IDENTIFYING and, on CAN, in WAKING before any identity reply; in READING
PARTIAL, or ABORTED under a halt; ERASE_DENIED in ERASING (R14, R24, R30, R39, R43; that a halt does not change the last is
log entry 16's). -/
def Sys2Proof.Claim.DenyEndsTheDialog : Prop :=
  ∀ (s : State) (c : Channel) (i : ModuleIndex) (reason : Byte), Settled s → (s.slot c).module = some i →
    heard s c (s.entry i) → otherWork s c →
    (awaitsFirstReply s c → ∃ t, exec (.deny c reason) s = .next t ∧ Ended s t c i .denied)
    ∧ ((s.slot c).state = .reading →
        ∃ t, exec (.deny c reason) s = .next t
          ∧ Ended s t c i (if s.sweep.state = .halting then .aborted else .partialRead))
    ∧ ((s.slot c).state = .erasing → ∃ t, exec (.deny c reason) s = .next t ∧ Ended s t c i .eraseDenied)

/-- An ERASE_DONE in ERASING ends the dialog ERASED, and the history table stays (R24, R43). -/
def Sys2Proof.Claim.EraseDoneEndsErased : Prop :=
  ∀ (s : State) (c : Channel) (i : ModuleIndex), Settled s → (s.slot c).module = some i → heard s c (s.entry i) →
    otherWork s c → (s.slot c).state = .erasing → ∃ t, exec (.eraseDone c) s = .next t ∧ Ended s t c i .erased

namespace Sys2Proof.Claim

/-- An identity reply was accepted in this dialog before it parked, and the slot awaits one again: IDENTIFYING, or WAKING on CAN
(R48). -/
def awaitsResumedReply (s : State) (c : Channel) : Prop :=
  ((s.slot c).state = .identifying ∨ ((s.slot c).state = .waking ∧ c ≠ .s)) ∧ (s.slot c).identified = true

/-- A tag that is served: the entry is RESOLVED with it, or a lookup finds a profile (R32, R80). -/
def tagServed (s : State) (i : ModuleIndex) (tag : Word16) (ref : ProfileRef) : Prop :=
  (s.entry i).resolution = .resolved ref tag
    ∨ ((∀ r, (s.entry i).resolution ≠ .resolved r tag) ∧ (s.entry i).resolution ≠ .declined tag
        ∧ s.store.lookup tag = some (.profile ref))

/-- A tag that is declined: the entry is DECLINED with it, or a lookup finds DECLINE (R32, R80). -/
def tagDeclined (s : State) (i : ModuleIndex) (tag : Word16) : Prop :=
  (s.entry i).resolution = .declined tag
    ∨ ((∀ r, (s.entry i).resolution ≠ .resolved r tag) ∧ s.store.lookup tag = some .decline)

/-- A tag that is found nowhere (R32, R80). -/
def tagUnknown (s : State) (i : ModuleIndex) (tag : Word16) : Prop :=
  (∀ r, (s.entry i).resolution ≠ .resolved r tag) ∧ (s.entry i).resolution ≠ .declined tag ∧ s.store.lookup tag = none

/-- How settling a tag ends the dialog: a decline UNSUPPORTED; under a halt a profile found ABORTED, and a tag found nowhere
ABORTED after its REFERRAL (R14, R32, R33). -/
def settlingEnds (s : State) (c : Channel) (i : ModuleIndex) (tag : Word16) (e : DialogEnd) : Prop :=
  (tagDeclined s i tag ∧ e = endOf s c .unsupported)
    ∨ (s.sweep.state = .halting ∧ (∃ ref, tagServed s i tag ref) ∧ e = endOf s c .aborted)
    ∨ (s.sweep.state = .halting ∧ tagUnknown s i tag ∧ e = { endOf s c .aborted with before := [.referral i tag] })

/-- An erase is still due to a resumed dialog whose identity reply carries these flags and the tag of the dialog (R42, R49). -/
def eraseStillDue (s : State) (c : Channel) (p : Profile) (tag : Word16) (flags : Byte) : Prop :=
  (s.slot c).tag = some tag ∧ s.sweep.options.eraseAfter = true ∧ p.eraseAllowed = true ∧ flags.getLsbD 0 = true
    ∧ (s.slot c).refused = 0 ∧ s.sweep.haltTaken = false

/-- How a resumed dialog ends at its identity reply: ABORTED at a boundary under a halt; at PAGE with another tag PARTIAL; at
ERASE with no erase due COMPLETE; at REFER as a lookup of the same tag, or the settling of another, says (R14, R49). -/
def resumedEnds (s : State) (c : Channel) (i : ModuleIndex) (tag : Word16) (flags : Byte) (e : DialogEnd) : Prop :=
  let same := (s.slot c).tag = some tag
  match (s.slot c).resume with
  | .identify => False
  | .refer =>
    (same ∧ s.store.lookup tag = some .decline ∧ e = endOf s c .unsupported)
      ∨ (same ∧ s.store.lookup tag ≠ some .decline ∧ s.sweep.state = .halting ∧ e = endOf s c .aborted)
      ∨ (¬ same ∧ settlingEnds s c i tag e)
  | .page =>
    (s.sweep.state = .halting ∧ e = endOf s c .aborted)
      ∨ (s.sweep.state ≠ .halting ∧ ¬ same ∧ e = endOf s c .partialRead)
  | .erase =>
    (s.sweep.state = .halting ∧ e = endOf s c .aborted)
      ∨ (s.sweep.state ≠ .halting ∧ e = endOf s c .complete
          ∧ ∃ p, s.slotProfile c = some p ∧ ¬ eraseStillDue s c p tag flags)

/-- A failed page attempt ends the dialog: under a halt ABORTED, and the second time PARTIAL (R14, R39). -/
def attemptEnds (s : State) (c : Channel) (e : DialogEnd) : Prop :=
  (s.sweep.state = .halting ∧ e = endOf s c .aborted)
    ∨ (s.sweep.state ≠ .halting ∧ (s.slot c).attempt ≠ 1 ∧ e = endOf s c .partialRead)

/-- A failed identity ends a resumed dialog COMPLETE at resume point ERASE and PARTIAL otherwise, and any other with the outcome
given (R30, R48). -/
def identityFails (s : State) (c : Channel) (o : SweepOutcome) : SweepOutcome :=
  if (s.slot c).identified = false then o else if (s.slot c).resume = .erase then .complete else .partialRead

/-- The expired wait of a request ends the dialog: of an ASK_ID under a halt or on its last attempt, of an ASK_PAGE or DRAW as a
failed page attempt, and of an ERASE (R14, R30, R39, R43, R48). -/
def waitEnds (s : State) (c : Channel) (i : ModuleIndex) (e : DialogEnd) : Prop :=
  ((s.slot c).state = .identifying ∧ s.sweep.state = .halting ∧ e = endOf s c .aborted)
    ∨ ((s.slot c).state = .identifying ∧ s.sweep.state ≠ .halting ∧ 1 + (s.entry i).retries ≤ (s.slot c).idAttempt
        ∧ e = endOf s c (identityFails s c .noAnswer))
    ∨ ((s.slot c).state = .reading ∧ attemptEnds s c e)
    ∨ ((s.slot c).state = .erasing ∧ e = endOf s c .eraseDenied)

/-- The end of a dialog with an outcome once a page is merged (R40). -/
def endAfterPage (s : State) (c : Channel) (merged : History × List MergeReport) (o : SweepOutcome) : DialogEnd :=
  ⟨o, (s.slot c).pagesRead + 1, (s.slot c).refused + merged.2.count .refused, []⟩

/-- How the commit of a page ends the dialog: with more to come ABORTED under a halt, and after page 31 PARTIAL; as the last one,
no erase being due, COMPLETE or STORE_FULL (R14, R41, R42). -/
def commitEnds (s : State) (c : Channel) (p : Profile) (more : Bool) (merged : History × List MergeReport)
    (e : DialogEnd) : Prop :=
  let refused := (s.slot c).refused + merged.2.count .refused
  (more = true ∧ s.sweep.state = .halting ∧ e = endAfterPage s c merged .aborted)
    ∨ (more = true ∧ s.sweep.state ≠ .halting ∧ 31 ≤ (s.slot c).page ∧ e = endAfterPage s c merged .partialRead)
    ∨ (more = false ∧ ¬ eraseDueAfter s c p refused
        ∧ e = endAfterPage s c merged (if refused = 0 then .complete else .storeFull))

/-- The frame that line S is sending carries the request whose answer its slot awaits (R23, R143). -/
def awaitedRequest (s : State) : Prop :=
  s.line.transmitter = .sending ∧ ∃ f, s.line.driving = some f ∧ f.own = true ∧
    ((f.request = .askId ∧ (s.slot .s).state = .identifying)
      ∨ (f.request = .askPage (s.slot .s).page ∧ (s.slot .s).state = .reading ∧ (s.slot .s).sub = .asked)
      ∨ ((∃ k, f.request = .draw k) ∧ (s.slot .s).state = .reading ∧ (s.slot .s).sub = .drawing)
      ∨ (f.request = .erase ∧ (s.slot .s).state = .erasing))

/-- A command of the module's side, or of a timer, that ends the dialog of a channel for a module: ERASE_DONE; DENY; an identity
reply, first or resumed; a page head or a segment, which fails its page attempt, ends its burst under a halt, or completes its
page; the expiries of the response, boot and referral timers; and a frame of line S abandoned, while the mismatch does not
silence the line (R14, R24, R30, R32, R34, R35, R38 to R43, R48, R49, R119, R143). -/
def endsDialog (s : State) (c : Channel) (i : ModuleIndex) (e : DialogEnd) : Instr → Prop
  | .eraseDone d => d = c ∧ heard s c (s.entry i) ∧ (s.slot c).state = .erasing ∧ e = endOf s c .erased
  | .deny d _ =>
    d = c ∧ heard s c (s.entry i)
      ∧ ((((s.slot c).state = .identifying ∨ ((s.slot c).state = .waking ∧ c ≠ .s))
            ∧ e = endOf s c (identityFails s c .denied))
        ∨ ((s.slot c).state = .reading ∧ e = endOf s c (if s.sweep.state = .halting then .aborted else .partialRead))
        ∨ ((s.slot c).state = .erasing ∧ e = endOf s c .eraseDenied))
  | .idReply d tag _ flags =>
    d = c ∧ heard s c (s.entry i) ∧ tag ≠ 0 ∧ tag ≠ 0xFFFF
      ∧ ((awaitsFirstReply s c ∧ settlingEnds s c i tag e)
        ∨ (awaitsResumedReply s c ∧ resumedEnds s c i tag flags e))
  | .pageHead d page count length flags sum =>
    d = c ∧ heard s c (s.entry i) ∧ (s.slot c).state = .reading ∧ (s.slot c).sub = .asked
      ∧ ∃ p, s.slotProfile c = some p
        ∧ ((headMalformed p (s.slot c) page count length ∧ attemptEnds s c e)
          ∨ (¬ headMalformed p (s.slot c) page count length ∧ length ≠ 0 ∧ s.sweep.state = .halting
              ∧ e = endOf s c .aborted)
          ∨ (¬ headMalformed p (s.slot c) page count length ∧ length = 0 ∧ sum ≠ 0 ∧ attemptEnds s c e)
          ∨ (¬ headMalformed p (s.slot c) page count length ∧ length = 0 ∧ sum = 0
              ∧ commitEnds s c p (flags.getLsbD 0) (s.history, []) e))
  | .segment d index data =>
    d = c ∧ heard s c (s.entry i) ∧ data ≠ [] ∧ data.length ≤ (if c = .s then 16 else 7)
      ∧ (s.slot c).state = .reading ∧ (s.slot c).sub = .drawing ∧ (s.slot c).response ≠ none
      ∧ ∃ h p, (s.slot c).head = some h ∧ s.slotProfile c = some p
        ∧ ((segmentMisfits c (s.slot c) h index data ∧ (s.slot c).outstanding ≠ 0 ∧ attemptEnds s c e)
          ∨ (¬ segmentMisfits c (s.slot c) h index data ∧ (s.slot c).outstanding = 1
              ∧ (s.slot c).received + 1 ≠ (s.slot c).expected ∧ s.sweep.state = .halting ∧ e = endOf s c .aborted)
          ∨ (endsPage s c h index data ∧ sum16 ((s.slot c).staging ++ data) ≠ h.sum ∧ attemptEnds s c e)
          ∨ (completesPage s c h index data
              ∧ commitEnds s c p h.more
                  (mergedInOrder s.sweep.number s.history
                    (decodePage p (s.slot c).snapshot i ((s.slot c).staging ++ data))) e))
  | .responseTimerExpiry d => d = c ∧ (s.slot c).response ≠ none ∧ waitEnds s c i e
  | .bootTimerExpiry d =>
    d = c ∧ (s.slot c).boot ≠ none ∧ (s.slot c).state = .waking ∧ s.sweep.state = .halting ∧ e = endOf s c .aborted
  | .referralTimerExpiry d => d = c ∧ (s.slot c).referral ≠ none ∧ e = endOf s c .unresolved
  | .lineFrameAbandoned =>
    c = .s ∧ awaitedRequest s ∧ s.toHand.s = [] ∧ (s.line.echoMismatches < 2 ∨ s.setting .echoSilence = 0)
      ∧ waitEnds s .s i e
  | _ => False

/-- What a sweep's end needs beside the end of its last dialog: no list holds a module and every other slot is FREE; and for the
part to stay at rest then, AUTO_ATTENTION off, the module's attention flag clear and no yield pending on the channel. -/
def lastDialog (s : State) (c : Channel) (i : ModuleIndex) : Prop :=
  (s.slot c).module = some i ∧ s.sweep.state ≠ .idle ∧ (∀ d, s.workList d = [])
    ∧ (∀ d, d ≠ c → (s.slot d).state = .free) ∧ s.setting .autoAttention = 0 ∧ (s.entry i).attention = false
    ∧ s.shareState c ≠ .yieldPending

/-- The sweep has ended with its last dialog: its MODULE_END has been followed by SWEEP_END (FINISHED), or HALTED where a halt
was taken, with the counts as they then stand; the outcome stands in the entry and in the counts, and the controller is IDLE,
halt taken clear (R8, R12; log entry 54). -/
def SweepEnded (s t : State) (i : ModuleIndex) (e : DialogEnd) (before : List OutFrame) : Prop :=
  (∀ d, (t.slot d).state = .free) ∧ t.sweep.state = .idle
    ∧ t.sweep.haltTaken = false ∧ t.sweep.number = s.sweep.number ∧ t.sweep.reached[i] = true
    ∧ t.sweep.counts = s.sweep.counts.set e.outcome.index (min 255 (s.sweep.counts[e.outcome.index] + 1))
    ∧ t.link.outbound =
        s.link.outbound ++ before ++
          [.notice (.moduleEnd i e.outcome e.pages e.refused),
            .notice (.sweepEnd (if s.sweep.haltTaken then .halted else .finished) s.sweep.number s.sweep.kind
              t.sweep.counts t.sweep.created t.sweep.updated t.sweep.refused)]
    ∧ (t.entry i).lastOutcome = some e.outcome ∧ (t.entry i).lastSweep = s.sweep.number
    ∧ (∀ j, j ≠ i → t.entry j = s.entry j)

end Sys2Proof.Claim

/-- The last dialog of a sweep, ended by its module or by a timer, ends the sweep (R8, R12; log entries 16 and 54). -/
def Sys2Proof.Claim.ModulesAndTimersEndTheSweep : Prop :=
  ∀ (s : State) (c : Channel) (i : ModuleIndex) (e : DialogEnd) (command : Instr), Settled s → lastDialog s c i →
    endsDialog s c i e command → s.link.noticesHeld + e.before.length < 11 →
    ∃ t, exec command s = .next t ∧ SweepEnded s t i e (e.before.map OutFrame.notice) ∧ OwnWork s t

/-- The last dialog of a sweep, ended UNSUPPORTED because the lookup of the tag it waits on finds DECLINE, ends the sweep, the
request's reply coming first: by a DECLINE of the tag, and by a PROFILE_LOAD of a profile with a tag that is bound to DECLINE,
which first releases the profile it replaces, the entries RESOLVED to that one returning to UNRESOLVED. After a BIND that is
carried out no lookup of its tag finds DECLINE (R8, R12, R34, R70, R72, R76, R82, R167; log entry 54). -/
def Sys2Proof.Claim.HostDeclinesEndTheSweep : Prop :=
  ∀ (s : State) (c : Channel) (i : ModuleIndex) (tag : Word16), Ready s → Settled s → StoreSound s.store →
    lastDialog s c i → waitsOn (s.slot c) tag → s.link.noticesHeld < 11 →
    (∀ t1 t0, answersFor s tag (.decline [t1, t0]) →
      let held := if (s.store.binding tag).isSome then s.store.bindings.length else s.store.bindings.length + 1
      ∃ t, exec (.decline [t1, t0]) s = .next t
        ∧ SweepEnded s t i (endOf s c .unsupported) [.reply 0x8A .done [byte held]] ∧ t.history = s.history)
    ∧ (∀ (payload : List Byte) (n : Fin 12) (p : Profile), parseProfileLoad payload = some (n, p) → p.tag = tag →
        ¬ loadedInUse s n → s.store.binding tag = some ⟨tag, .decline⟩ →
        let occupied := (s.store.loaded[n]).isSome
        ∃ t, exec (.profileLoad payload) s = .next t
          ∧ SweepEnded (if occupied then released s n else s) t i (endOf s c .unsupported)
              [.reply 0x86 .done (byte n.val :: (if occupied then releaseNumbers s n else [0, 0]))]
          ∧ t.history = s.history ∧ t.store.loaded = s.store.loaded.set n (some p))
    ∧ (∀ t1 t0 b, answersFor s tag (.bind [t1, t0, b]) →
        ∃ t, exec (.bind [t1, t0, b]) s = .next t ∧ t.store.lookup tag ≠ some .decline)

/-- The last dialog of a sweep ends the sweep: ended by its module's answer, by an expiry, by a frame abandoned on line S,
or by a host's decline, with AUTO_ATTENTION off and no yield pending on its channel (R8, R12; log entry 54; that a DENY
under a halt keeps the outcome of its own rule, in a resumed identity too, is the model's reading, log entry 16). By a halt
it is HaltStopsTheSweep's, by key-off KeyOffPutsThePartInStandby's; a silence is not among these endings. -/
def Obligations.LastDialogEndsTheSweep : Prop :=
  ModulesAndTimersEndTheSweep ∧ HostDeclinesEndTheSweep

/-- The expired wait of an ASK_ID makes the next attempt while attempts are left: ASK_ID again for a module that is not
sleepy, and the wake again, in WAKING, for a sleepy one, on CAN no earlier than one effective gap after the expiry; on the
last attempt the dialog ends NO_ANSWER. The expired wait of an ERASE ends it ERASE_DENIED (R27, R30, R43; channel OPEN, no
halt, no earlier identity reply). -/
def Sys2Proof.Claim.ResponseExpiryRetriesOrEnds : Prop :=
  ∀ (s : State) (c : Channel) (i : ModuleIndex), Settled s → (s.slot c).module = some i → (s.slot c).response ≠ none →
    s.shareState c = .opened → s.sweep.state ≠ .halting →
    let earliest : Option Nat := match c with
      | .a => some (if s.can.a.verdict = .busy then 4 * s.can.a.pace else s.can.a.pace)
      | .b => some (if s.can.b.verdict = .busy then 4 * s.can.b.pace else s.can.b.pace)
      | .s => none
    ((s.slot c).state = .identifying → (s.slot c).idAttempt < 1 + (s.entry i).retries →
        ∃ t, exec (.responseTimerExpiry c) s = .next t
          ∧ t.slot c =
              (if (s.entry i).sleepy then
                { s.slot c with
                  response := none, idAttempt := (s.slot c).idAttempt + 1, state := .waking, keepAwake := none }
              else { s.slot c with response := none, idAttempt := (s.slot c).idAttempt + 1 })
          ∧ (nothingWaits s c →
              holds s t c (s.entry i) (if (s.entry i).sleepy = true ∧ c = .s then .wake else .askId) earliest)
          ∧ SameBeyond s t c ∧ t.table = s.table ∧ t.history = s.history)
    ∧ ((s.slot c).state = .identifying → 1 + (s.entry i).retries ≤ (s.slot c).idAttempt →
        (s.slot c).identified = false → otherWork s c →
        ∃ t, exec (.responseTimerExpiry c) s = .next t ∧ Ended s t c i .noAnswer)
    ∧ ((s.slot c).state = .erasing → otherWork s c →
        ∃ t, exec (.responseTimerExpiry c) s = .next t ∧ Ended s t c i .eraseDenied)

/-- The wait for an answer: HOLD_ON extends it, and its expiry retries or ends (R26, R30, R43; what an ended dialog leaves to be
sent is log entry 57's but for its ERASE). -/
def Obligations.WaitsAreExtendedAndExpire : Prop :=
  HoldOnExtendsTheWait ∧ ResponseExpiryRetriesOrEnds

/-- When the boot timer expires in WAKING, the slot hands ASK_ID and is IDENTIFYING with its attempt number unchanged
(R29; channel OPEN, no halt). -/
def Sys2Proof.Claim.BootExpiryAsksIdentity : Prop :=
  ∀ (s : State) (c : Channel) (i : ModuleIndex), Settled s → (s.slot c).module = some i → (s.slot c).state = .waking →
    (s.slot c).boot ≠ none → s.shareState c = .opened → s.sweep.state ≠ .halting →
    ∃ t, exec (.bootTimerExpiry c) s = .next t
      ∧ t.slot c = { s.slot c with
          boot := none, state := .identifying }
      ∧ (nothingWaits s c → holds s t c (s.entry i) .askId)
      ∧ SameBeyond s t c ∧ t.table = s.table ∧ t.history = s.history

/-- When the keep-awake timer expires it reloads, and a STAY is handed when the channel is OPEN and no frame of the slot
waits unsent; otherwise none is. Nothing else of the context changes (R27; that the reload takes the period of the last
restart is the model's reading, log entry 15). -/
def Sys2Proof.Claim.KeepAwakeExpirySendsStay : Prop :=
  ∀ (s : State) (c : Channel) (i : ModuleIndex) (k : AutoTimer), (s.slot c).module = some i →
    (s.slot c).keepAwake = some k →
    ∃ t, exec (.keepAwakeTimerExpiry c) s = .next t
      ∧ t.slot c = { s.slot c with keepAwake := some ⟨k.period, k.period⟩ }
      ∧ (s.shareState c = .opened → nothingWaits s c → holds s t c (s.entry i) .stay)
      ∧ (¬ (s.shareState c = .opened ∧ nothingWaits s c) →
          t.can = s.can ∧ t.line = s.line ∧ t.toHand = s.toHand)
      ∧ SameBeyond s t c ∧ t.table = s.table ∧ t.history = s.history

/-- The expiries of the boot timer and of the keep-awake timer (R27, R29). -/
def Obligations.BootAndKeepAwakeExpiries : Prop :=
  BootExpiryAsksIdentity ∧ KeepAwakeExpirySendsStay

/-- The expiry of the referral timer ends the dialog UNRESOLVED, in REFERRED and in a slot PARKED with resume point REFER;
the entry's resolution and the history stay (R34, R47). -/
def Sys2Proof.Claim.ReferralExpiryEndsUnresolved : Prop :=
  ∀ (s : State) (c : Channel) (i : ModuleIndex), Settled s → (s.slot c).module = some i → (s.slot c).referral ≠ none →
    otherWork s c → ∃ t, exec (.referralTimerExpiry c) s = .next t ∧ Ended s t c i .unresolved

/-- A dialog ends with the outcome that its state and its module's answer, or the timer, give it, and on an OPEN channel
with BYE. Under a halt each exchange unit in progress still ends by its own rule: the expired wait of an identity or of a
page, a boot wait, a first failed page attempt, an identity reply that settles its tag, and a burst or a page that has more
to come end the dialog ABORTED, whereas an outcome that the unit itself has decided stands (R8, R14, R30, R39, R41, R43,
R44, R48, R49). That the list of R14 is complete, so that under a halt a DENY in a resumed identity ends the dialog as R48
says, and a DENY or an expired wait in ERASING ends it ERASE_DENIED, is the model's reading (log entry 16). -/
def Sys2Proof.Claim.DialogsEndWithTheirOutcome : Prop :=
  ∀ (s : State) (c : Channel) (i : ModuleIndex) (e : DialogEnd) (command : Instr), Settled s → (s.slot c).module = some i →
    endsDialog s c i e command → otherWork s c → ∃ t, exec command s = .next t ∧ EndedWith s t c i e

/-- The endings of a dialog by its module's answer, by an expiry or by a frame abandoned on line S, halted or not (R14, R24,
R30, R34, R39, R42 to R44; that an abandoned frame reaches the slot first is log entry 30, what R14 leaves to the rule of the
ending log entry 16, and what is left to be sent, but for the ERASE, log entry 57). -/
def Obligations.AnswersEndTheDialog : Prop :=
  DenyEndsTheDialog ∧ EraseDoneEndsErased ∧ ReferralExpiryEndsUnresolved ∧ DialogsEndWithTheirOutcome

/-! ### Parking and resuming (R46 to R49, R156) -/

namespace Sys2Proof.Claim

/-- A slot's context when it parks at a resume point: page head, segment counts and staging cleared, both attempts 1, its
response, boot and keep-awake timers stopped, all else kept (R46; that the hold-on count is cleared and the sub-step ASKED
is log entry 34's). -/
def parkedSlot (x : Slot) (r : ResumePoint) : Slot :=
  { x with
    state := .parked, sub := .asked, resume := r, attempt := 1, head := none, expected := 0, received := 0,
    outstanding := 0, staging := [], idAttempt := 1, holdOns := 0, response := none, boot := none, keepAwake := none }

/-- A channel has gone from YIELD_PENDING to YIELDED with these notices queued before its own: none of its frames is left in
progress, one still on the bus let go (log entry 12), TGNT and PNEED follow, and the other slots stay (R138, R156, R160). -/
def yieldedAfter (s t : State) (c : Channel) (notices : List Notice) : Prop :=
  t.shareOf c = { s.shareOf c with state := .yielded }
    ∧ (s.link.noticesHeld + notices.length < 12 →
        t.link.outbound =
          s.link.outbound ++ notices.map OutFrame.notice ++ [.notice (.channelEvent c .yielded none)])
    ∧ (∀ k : CanChannel, k.toChannel = c → ∀ f onBus, (t.canCtl k).holding ≠ .inProgress f onBus)
    ∧ (s.isSocket c = true → t.share.tgnt = true) ∧ ((t.slot c).state ≠ .free → t.share.pneed = true)
    ∧ (∀ d, d ≠ c → t.slot d = s.slot d ∧ t.shareOf d = s.shareOf d)

/-- A command parks the slot of a channel with this context and resume point, and the channel is YIELDED. The slot hands no
further request: where no frame waited, none does. History, sweep controller and module table are those of `after`. -/
def Parks (s : State) (c : Channel) (r : Host.Outcome State Fault Refusal) (x : Slot) (point : ResumePoint)
    (after : State) (notices : List Notice := []) : Prop :=
  ∃ t, r = .next t ∧ t.slot c = parkedSlot x point ∧ yieldedAfter s t c notices ∧ (noneWaits s c → noneWaits t c)
    ∧ t.history = after.history ∧ t.sweep = after.sweep ∧ t.table = after.table ∧ OwnWork s t

/-- The state with the resolution of an entry written (R54). -/
def resolvedTo (s : State) (i : ModuleIndex) (r : Resolution) : State :=
  { s with table := s.table.set i { s.entry i with resolution := r } }

/-- The slot is left to park with its exchange unit: YIELD_PENDING, a yield trigger still present, no halt. -/
def parksAfter (s : State) (c : Channel) (i : ModuleIndex) : Prop :=
  Settled s ∧ s.shareState c = .yieldPending ∧ s.yieldTrigger c = true ∧ (s.slot c).module = some i
    ∧ s.sweep.state ≠ .halting

end Sys2Proof.Claim

/-- On a YIELD_PENDING channel a slot parks with its identity: a first reply whose profile is found at PAGE with page 0, one
found nowhere at REFER after its REFERRAL; a resumed reply at PAGE or ERASE there again, while the erase is due, and at
REFER as a lookup of the same tag, or the settling of another, says; an identity wait that expires with attempts left, and
the end of a boot wait, at IDENTIFY, or at the resume point held where an identity was accepted before (R46, R48, R49, R156,
R160; what parking clears beyond R46's list is log entry 34's). -/
def Sys2Proof.Claim.SlotsParkWithTheirIdentity : Prop :=
  ∀ (s : State) (c : Channel) (i : ModuleIndex), parksAfter s c i →
    let x := s.slot c
    let held : ResumePoint := if x.identified then x.resume else .identify
    (∀ tag clock flags, heard s c (s.entry i) → tag ≠ 0 → tag ≠ 0xFFFF →
        let y := identifiedSlot s c tag clock flags
        let r := exec (.idReply c tag clock flags) s
        let same := x.tag = some tag
        let waiting : Slot := { y with referral := some (s.setting .referralTimeout * 1000) }
        let found (ref : ProfileRef) : Slot := { y with profile := some ref, referral := none, page := 0 }
        (awaitsFirstReply s c →
          let u := { s with history := unsighted s.history i }
          (∀ ref, tagServed s i tag ref → Parks s c r (found ref) .page (resolvedTo u i (.resolved ref tag)))
          ∧ (tagUnknown s i tag → Parks s c r waiting .refer (resolvedTo u i .unresolved) [.referral i tag]))
        ∧ (awaitsResumedReply s c →
            (x.resume = .page → same → Parks s c r y .page s)
            ∧ (∀ p, x.resume = .erase → s.slotProfile c = some p → eraseStillDue s c p tag flags →
                Parks s c r y .erase s)
            ∧ (x.resume = .refer →
                (∀ ref, (if x.tag = some tag then s.store.lookup tag = some (.profile ref) else tagServed s i tag ref) →
                  Parks s c r (found ref) .page (resolvedTo s i (.resolved ref tag)))
                ∧ (same → s.store.lookup tag = none → Parks s c r y .refer (resolvedTo s i .unresolved))
                ∧ (¬ same → tagUnknown s i tag →
                    Parks s c r waiting .refer (resolvedTo s i .unresolved) [.referral i tag]))))
    ∧ (x.response ≠ none → x.state = .identifying → x.idAttempt < 1 + (s.entry i).retries →
        Parks s c (exec (.responseTimerExpiry c) s) x held s)
    ∧ (x.boot ≠ none → x.state = .waking → Parks s c (exec (.bootTimerExpiry c) s) x held s)

/-- On a YIELD_PENDING channel a slot in READING takes the result of its exchange unit and parks: a page not yet complete,
and a first failed attempt by a page head, a segment, a page sum or an expired wait, at PAGE with its page; a committed page
with more to come, an empty one too, at PAGE with the next; a complete read whose erase is due at ERASE, its vanished
records GONE (R9, R35, R38 to R42, R46, R156, R160; log entry 34). -/
def Sys2Proof.Claim.SlotsParkWithTheirPage : Prop :=
  ∀ (s : State) (c : Channel) (i : ModuleIndex) (p : Profile), parksAfter s c i → heard s c (s.entry i) →
    (s.slot c).state = .reading → s.slotProfile c = some p →
    let x := s.slot c
    let committed (merged : History × List MergeReport) : Slot :=
      { x with pagesRead := x.pagesRead + 1, refused := x.refused + merged.2.count .refused }
    let next (merged : History × List MergeReport) : State :=
      { s with history := merged.1, sweep := sweepAfterPage s merged }
    let complete (merged : History × List MergeReport) : State :=
      { s with history := goneMarked s i merged.1, sweep := sweepAfterRead s i merged }
    (x.response ≠ none → x.attempt = 1 → Parks s c (exec (.responseTimerExpiry c) s) x .page s)
    ∧ (∀ page count length flags sum, x.sub = .asked →
        let r := exec (.pageHead c page count length flags sum) s
        (¬ headMalformed p x page count length ∧ length ≠ 0 ∨ headMalformed p x page count length ∧ x.attempt = 1
            ∨ ¬ headMalformed p x page count length ∧ length = 0 ∧ sum ≠ 0 ∧ x.attempt = 1 →
          Parks s c r x .page s)
        ∧ (¬ headMalformed p x page count length → length = 0 → sum = 0 →
            (flags.getLsbD 0 = true → x.page < 31 →
              Parks s c r { committed (s.history, []) with page := x.page + 1 } .page (next (s.history, [])))
            ∧ (flags.getLsbD 0 = false → eraseDueAfter s c p x.refused →
                Parks s c r (committed (s.history, [])) .erase (complete (s.history, [])))))
    ∧ (∀ h index data, x.sub = .drawing → x.outstanding ≠ 0 → x.response ≠ none → x.head = some h → data ≠ [] →
        data.length ≤ (if c = .s then 16 else 7) →
        (segmentMisfits c x h index data ∧ x.attempt = 1
          ∨ ¬ segmentMisfits c x h index data ∧ x.outstanding = 1 ∧ x.received + 1 ≠ x.expected
          ∨ endsPage s c h index data ∧ sum16 (x.staging ++ data) ≠ h.sum ∧ x.attempt = 1) →
        Parks s c (exec (.segment c index data) s) x .page s)
    ∧ (∀ h index data, completesPage s c h index data →
        let r := exec (.segment c index data) s
        let merged := mergedInOrder s.sweep.number s.history (decodePage p x.snapshot i (x.staging ++ data))
        (h.more = true → x.page < 31 →
          Parks s c r { committed merged with page := x.page + 1 } .page (next merged))
        ∧ (h.more = false → eraseDueAfter s c p (x.refused + merged.2.count .refused) →
            Parks s c r (committed merged) .erase (complete merged)))

/-- On a YIELD_PENDING line S a frame abandoned on its read-back parks the slot as the expired wait of its request does, and
the line is YIELDED (R46, R143, R156; while the mismatch does not silence the line; log entries 30 and 34). -/
def Sys2Proof.Claim.AbandonedFramesParkTheirSlot : Prop :=
  ∀ (s : State) (i : ModuleIndex), parksAfter s .s i → awaitedRequest s →
    (s.line.echoMismatches < 2 ∨ s.setting .echoSilence = 0) →
    let x := s.slot .s
    (x.state = .identifying → x.idAttempt < 1 + (s.entry i).retries →
      Parks s .s (exec .lineFrameAbandoned s) x (if x.identified then x.resume else .identify) s)
    ∧ (x.state = .reading → x.attempt = 1 → Parks s .s (exec .lineFrameAbandoned s) x .page s)

/-- A dialog that ends on a YIELD_PENDING channel ends without BYE, its slot FREE, and the channel is YIELDED after its
MODULE_END (R46, R156; a yield trigger present, and other work for the sweep; a DENY under a halt: log entry 16). -/
def Sys2Proof.Claim.DialogsEndOnAYieldingChannel : Prop :=
  ∀ (s : State) (c : Channel) (i : ModuleIndex) (e : DialogEnd) (command : Instr),
    Settled s → s.shareState c = .yieldPending → s.yieldTrigger c = true → (s.slot c).module = some i →
    endsDialog s c i e command → otherWork s c →
    ∃ t, exec command s = .next t ∧ EndedWith s t c i e
      ∧ yieldedAfter s t c (e.before ++ [.moduleEnd i e.outcome e.pages e.refused])

/-- A channel that reaches YIELDED with no yield trigger left passes straight through: YIELDED and RESUMED are queued in
that order, the channel is OPEN, and the parked slot resumes with its ASK_ID (R48, R156, R157; by the end of a boot wait;
log entry 34). -/
def Sys2Proof.Claim.YieldWithoutTriggerPassesThrough : Prop :=
  ∀ (s : State) (c : Channel) (i : ModuleIndex), Settled s → s.shareState c = .yieldPending →
    s.yieldTrigger c = false → (s.slot c).module = some i → s.sweep.state ≠ .halting → (s.slot c).boot ≠ none →
    (s.slot c).state = .waking →
    ∃ t, exec (.bootTimerExpiry c) s = .next t
      ∧ t.slot c =
          { parkedSlot (s.slot c) (if (s.slot c).identified then (s.slot c).resume else .identify) with
            state := .identifying }
      ∧ t.shareOf c = { s.shareOf c with state := .opened }
      ∧ (s.link.noticesHeld < 11 →
          t.link.outbound =
            s.link.outbound ++
              [.notice (.channelEvent c .yielded none), .notice (.channelEvent c .resumed none)])
      ∧ (nothingWaits s c → holds s t c (s.entry i) .askId)
      ∧ (∀ d, d ≠ c → t.slot d = s.slot d ∧ t.shareOf d = s.shareOf d)

/-- What a yield does to a dialog: its slot parks or ends at the end of its exchange unit, and the channel is YIELDED, or
OPEN again where no trigger is left (R46, R138, R156, R157; the model's readings are log entries 12, 16, 30, 34 and 57). -/
def Obligations.YieldingChannelsParkTheirSlots : Prop :=
  SlotsParkWithTheirIdentity ∧ SlotsParkWithTheirPage ∧ AbandonedFramesParkTheirSlot ∧ DialogsEndOnAYieldingChannel
    ∧ YieldWithoutTriggerPassesThrough

/-- A resumed dialog that accepts an identity reply takes its tag, its flag and a fresh snapshot, clears no SIGHTED, and
goes on from its resume point: at PAGE with its tag it asks the kept page, and with another it ends PARTIAL; at ERASE with
its tag it asks the erase that is still due, and else ends COMPLETE; at REFER with its tag it redoes the lookup, asking page
0 with a profile found, ending UNSUPPORTED on DECLINE, and with nothing found it is REFERRED again, its referral timer
running on and no new REFERRAL; with another tag that timer stops, and the tag is settled as a first one is: a profile asks
page 0, a decline ends UNSUPPORTED, and a lookup that finds nothing raises a new REFERRAL with a new timer. In REFERRED no
request is sent, one not yet started being withdrawn (R31 to R33, R49; channel OPEN, no halt; the keep-awake timer is log
entry 14's, the withdrawal from the transmit holding 57's). -/
def Sys2Proof.Claim.ResumedIdentityGoesOn : Prop :=
  ∀ (s : State) (c : Channel) (i : ModuleIndex) (tag : Word16) (clock : ClockBytes) (flags : Byte), Settled s →
    awaitsResumedReply s c → (s.slot c).module = some i → heard s c (s.entry i) → tag ≠ 0 → tag ≠ 0xFFFF →
    s.shareState c = .opened → s.sweep.state ≠ .halting →
    let x := identifiedSlot s c tag clock flags
    let r := exec (.idReply c tag clock flags) s
    let same := (s.slot c).tag = some tag
    let unresolved : State :=
      { requestsDropped s c with table := s.table.set i { s.entry i with resolution := .unresolved } }
    ((s.slot c).resume = .page → same →
        ∃ t, r = .next t
          ∧ t.slot c = { x with state := .reading, sub := .asked, attempt := 1, keepAwake := awake s c }
          ∧ (nothingWaits s c → holds s t c (s.entry i) (.askPage (s.slot c).page))
          ∧ SameBeyond s t c ∧ t.table = s.table ∧ t.history = s.history)
    ∧ ((s.slot c).resume = .page → ¬ same → otherWork s c → ∃ t, r = .next t ∧ Ended s t c i .partialRead)
    ∧ (∀ p, (s.slot c).resume = .erase → s.slotProfile c = some p →
        let due := eraseStillDue s c p tag flags
        (due →
          ∃ t, r = .next t
            ∧ t.slot c = { x with state := .erasing, sub := .asked, keepAwake := awake s c }
            ∧ (nothingWaits s c → holds s t c (s.entry i) .erase)
            ∧ SameBeyond s t c ∧ t.table = s.table ∧ t.history = s.history)
        ∧ (¬ due → otherWork s c → ∃ t, r = .next t ∧ Ended s t c i .complete))
    ∧ ((s.slot c).resume = .refer → same →
        (∀ ref, s.store.lookup tag = some (.profile ref) →
          ∃ t, r = .next t
            ∧ t.slot c = { x with
                state := .reading, sub := .asked, page := 0, attempt := 1, profile := some ref, referral := none,
                keepAwake := awake s c }
            ∧ t.entry i = { s.entry i with resolution := .resolved ref tag } ∧ (∀ j, j ≠ i → t.entry j = s.entry j)
            ∧ (nothingWaits s c → holds s t c (s.entry i) (.askPage 0))
            ∧ SameBeyond s t c ∧ t.history = s.history)
        ∧ (s.store.lookup tag = some .decline → otherWork s c →
            ∃ t, r = .next t
              ∧ Ended { s with table := s.table.set i { s.entry i with resolution := .declined tag } } t c i
                  .unsupported)
        ∧ (s.store.lookup tag = none →
            r = .next { unresolved with
              slots := s.slots.set c { x with state := .referred, sub := .asked, keepAwake := awake s c } }))
    ∧ ((s.slot c).resume = .refer → ¬ same →
        (∀ ref, tagServed s i tag ref →
          ∃ t, r = .next t
            ∧ t.slot c = { x with
                state := .reading, sub := .asked, page := 0, attempt := 1, profile := some ref, referral := none,
                keepAwake := awake s c }
            ∧ t.entry i = { s.entry i with resolution := .resolved ref tag } ∧ (∀ j, j ≠ i → t.entry j = s.entry j)
            ∧ (nothingWaits s c → holds s t c (s.entry i) (.askPage 0))
            ∧ SameBeyond s t c ∧ t.history = s.history)
        ∧ (tagDeclined s i tag → otherWork s c →
            ∃ t, r = .next t
              ∧ Ended { s with table := s.table.set i { s.entry i with resolution := .declined tag } } t c i
                  .unsupported))
    ∧ ((s.slot c).resume = .refer → ¬ same → (∀ q, (s.entry i).resolution ≠ .resolved q tag) →
        (s.entry i).resolution ≠ .declined tag → s.store.lookup tag = none →
        r = .next (noticed
          { unresolved with
            slots := s.slots.set c { x with
              state := .referred, sub := .asked, referral := some (s.setting .referralTimeout * 1000),
              keepAwake := awake s c } }
          (.referral i tag)))

/-- A resumed identity that fails, by the expiry of its last attempt or by a DENY, ends the dialog COMPLETE at resume point
ERASE and PARTIAL otherwise; it marks nothing GONE (R48; no halt). -/
def Sys2Proof.Claim.ResumedIdentityFails : Prop :=
  ∀ (s : State) (c : Channel) (i : ModuleIndex), Settled s → awaitsResumedReply s c → (s.slot c).module = some i →
    otherWork s c → s.sweep.state ≠ .halting →
    let o : SweepOutcome := if (s.slot c).resume = .erase then .complete else .partialRead
    ((s.slot c).response ≠ none → (s.slot c).state = .identifying → 1 + (s.entry i).retries ≤ (s.slot c).idAttempt →
        ∃ t, exec (.responseTimerExpiry c) s = .next t ∧ Ended s t c i o)
    ∧ (heard s c (s.entry i) → ∀ reason, ∃ t, exec (.deny c reason) s = .next t ∧ Ended s t c i o)

/-- What a resumed dialog does at its identity reply, and when its identity fails (R31 to R33, R48, R49; log entries 14 and
57). -/
def Obligations.ResumedDialogsGoOn : Prop :=
  ResumedIdentityGoesOn ∧ ResumedIdentityFails

/-! ### Attention sweeps and appends (R17 to R19) -/

namespace Sys2Proof.Claim

/-- An entry in scope of an attention sweep that starts now: in use with attention pending (R19). -/
def pulsed (s : State) (i : ModuleIndex) : Prop := (s.entry i).inUse = true ∧ (s.entry i).attention = true

/-- An entry that the start of an attention sweep gives SKIPPED, under the options of DEFAULT_OPTIONS (R5, R19). -/
def skippedByDefault (s : State) (i : ModuleIndex) : Prop :=
  s.shareState (s.entry i).channel = .silenced
    ∨ ((s.entry i).sleepy = true ∧ (SweepOptions.ofBits (s.setting .defaultOptions)).includeSleepers = false)

/-- An attention sweep has started over the flagged entries of `s`: kind ATTENTION, the next number, the default options, each
flagged entry on its channel's list or given SKIPPED (R4, R5, R19). -/
def AttentionSweepRuns (s t : State) : Prop :=
  t.sweep.state = .running ∧ t.sweep.kind = .attention ∧ t.sweep.number = s.sweep.number + 1
    ∧ t.sweep.options = SweepOptions.ofBits (s.setting .defaultOptions) ∧ t.sweep.haltTaken = false
    ∧ (∀ c i, i ∈ t.workList c ↔ pulsed s i ∧ ¬ skippedByDefault s i ∧ (s.entry i).channel = c)
    ∧ (∀ c, (t.workList c).Pairwise (· < ·))
    ∧ (∀ i, pulsed s i → skippedByDefault s i →
        (t.entry i).attention = false ∧ (t.entry i).lastOutcome = some .skipped
          ∧ (t.entry i).lastSweep = s.sweep.number + 1)
    ∧ (∀ i, pulsed s i → ¬ skippedByDefault s i → (t.entry i).attention = true)

/-- What R19 requires of the key and of AUTO_ATTENTION. -/
def attentionOn (s : State) : Prop := s.key.on = true ∧ s.key.settled = true ∧ s.setting .autoAttention = 1

/-- A pulse of this width ends now on line S, captured under the polarity in force, and is that of this entry, the one in use
on S with its slot (R149, R150). -/
def pulseOf (s : State) (w : Nat) (i : ModuleIndex) : Prop :=
  s.line.detector = .capture ∧ s.line.level = (if s.setting .attentionPolarity = 1 then .high else .low)
    ∧ ∃ n, n < 16 ∧ 20 + 16 * n ≤ w ∧ w ≤ 28 + 16 * n ∧ (s.entry i).inUse = true ∧ (s.entry i).channel = .s
        ∧ (s.entry i).attentionSlot = some n
        ∧ ∀ j, (s.entry j).inUse = true → (s.entry j).channel = .s → (s.entry j).attentionSlot = some n → j = i

/-- Whether R17 appends this module now: read in this sweep already, neither listed nor in a slot, not appended before, its
channel neither SILENCED nor in STANDBY, and not a sleeper that the sweep leaves out. -/
def appendsNow (s : State) (i : ModuleIndex) : Prop :=
  s.sweep.state = .running ∧ s.listed i = false ∧ s.inSlot i = false ∧ s.sweep.reached[i] = true
    ∧ s.sweep.appended[i] = false ∧ s.shareState (s.entry i).channel ≠ .silenced
    ∧ s.shareState (s.entry i).channel ≠ .standby
    ∧ ((s.entry i).sleepy = false ∨ s.sweep.options.includeSleepers = true)

/-- The sweep controller with a module appended to its channel's list (R17). -/
def withAppended (s : State) (i : ModuleIndex) : Sweep :=
  let c := (s.entry i).channel
  { s.sweep with
    lists := s.sweep.lists.set c (s.workList c ++ [i]), appended := s.sweep.appended.set i true }

end Sys2Proof.Claim

/-- The attention check, with the key on, the settle time expired and AUTO_ATTENTION on, starts an attention sweep where an
entry has attention pending: at a pulse in IDLE, at the end of a sweep with reason FINISHED, when the settle time expires
and no key-on sweep is called for, and when a SETTINGS_PUT turns AUTO_ATTENTION on, after its reply (R19, R20; a module to
place, for the sweep to go on; ATTENTION_PULSE as the pulse's end is log entry 25's). -/
def Sys2Proof.Claim.AttentionCheckStartsASweep : Prop :=
  ∀ s : State, Settled s →
    (∀ w i, attentionOn s → s.sweep.state = .idle → pulseOf s w i →
      let flagged := s.withEntry i { s.entry i with attention := true }
      (∃ j, pulsed flagged j ∧ ¬ skippedByDefault flagged j) →
      ∃ t, exec (.attentionPulse w) s = .next t ∧ AttentionSweepRuns flagged t
        ∧ (s.link.noticesHeld < 12 → s.link.outbound ++ [.notice (.attention i)] <+: t.link.outbound))
    ∧ (∀ c i e command, attentionOn s → (s.slot c).module = some i →
        endsDialog s c i e command → s.sweep.state = .running → s.sweep.haltTaken = false →
        (∀ d, s.workList d = []) → (∀ d, d ≠ c → (s.slot d).state = .free) → (s.entry i).attention = false →
        s.shareState c ≠ .yieldPending → (∃ j, pulsed s j ∧ ¬ skippedByDefault s j) →
        ∃ t, exec command s = .next t ∧ AttentionSweepRuns s t ∧ (∀ d, (t.slot d).state = .free))
    ∧ (∀ left, s.key.settle = some left → s.key.on = true → s.setting .autoAttention = 1 →
        s.setting .autoKeyOn = 0 → s.straps.ksw = false → s.sweep.state = .idle →
        (∃ j, pulsed s j ∧ ¬ skippedByDefault s j) →
        ∃ t, exec .settleTimerExpiry s = .next t ∧ AttentionSweepRuns s t
          ∧ t.key = { s.key with settle := none, settled := true })
    ∧ (Ready s → s.key.on = true → s.key.settled = true → s.setting .autoAttention = 0 → s.sweep.state = .idle →
        s.setting .requestBaseA ≠ s.setting .responseBaseA → s.setting .requestBaseB ≠ s.setting .responseBaseB →
        (∃ j, pulsed s j ∧ ¬ skippedByDefault s j) →
        ∃ t, exec (.settingsPut [0x01, 0x00, 0x01]) s = .next t ∧ AttentionSweepRuns s t
          ∧ s.link.outbound ++ [.reply 0x8C .done [0x01, 0x00, 0x01, 0x00, 0x01]] <+: t.link.outbound)

/-- A pulse taken while a sweep runs or halts sets the module's flag and queues ATTENTION, and appends the module to its list,
with its appended mark, exactly where the table of R17 says so; else the sweep controller stays as it is. When a dialog ends
for a module whose flag is set again, R17 is applied to it as it then stands (R17, R18). -/
def Sys2Proof.Claim.PulsesAppendReachedModules : Prop :=
  ∀ (s : State) (i : ModuleIndex), Settled s →
    (∀ w, s.sweep.state ≠ .idle → pulseOf s w i →
      ∃ t, exec (.attentionPulse w) s = .next t
        ∧ (appendsNow s i → t.sweep = withAppended s i) ∧ (¬ appendsNow s i → t.sweep = s.sweep)
        ∧ t.entry i = { s.entry i with attention := true } ∧ (∀ j, j ≠ i → t.entry j = s.entry j)
        ∧ t.link = (noticed s (.attention i)).link ∧ t.slots = s.slots ∧ t.history = s.history)
    ∧ (∀ c e command, endsDialog s c i e command → (s.slot c).module = some i →
        otherWork s c → (s.entry i).attention = true → (∀ d, d ≠ c → (s.slot d).module ≠ some i) →
        let ended := s.withSlot c {}
        let reached := ended.withSweep { s.sweep with reached := s.sweep.reached.set i true }
        ∃ t, exec command s = .next t ∧ (t.entry i).attention = true ∧ t.slot c = {}
          ∧ (appendsNow reached i →
              t.sweep.lists = (withAppended reached i).lists ∧ t.sweep.appended = (withAppended reached i).appended)
          ∧ (¬ appendsNow reached i → t.sweep.lists = s.sweep.lists ∧ t.sweep.appended = s.sweep.appended))

/-- Attention sweeps, and the modules that a sweep appends for their pulses (R17 to R19; log entry 25). -/
def Obligations.AttentionSweepsAndAppends : Prop :=
  AttentionCheckStartsASweep ∧ PulsesAppendReachedModules

/-! ### The CAN channels (R129 to R138) -/

namespace Sys2Proof.Claim

/-- A controller takes part in bus traffic: ACTIVE or PASSIVE (R129). -/
def onBus (k : Can) : Prop := k.errorState = .active ∨ k.errorState = .passive

/-- The error state that the two counts give a controller on the bus (R135). -/
def stateOfCounts (transmit receive : Nat) : ErrorState := if 128 ≤ transmit ∨ 128 ≤ receive then .passive else .active

/-- The effective gap: the pace gap in use, four times it under BUSY (R132). -/
def gapNow (k : Can) : Nat := if k.verdict = .busy then 4 * k.pace else k.pace

/-- A controller after a frame of the part has completed: the transmit error count one less, the frame counted while the
window timer runs, the holding empty, the gap timer loaded (R131, R132, R134, R135). -/
def afterFrameSent (k : Can) : Can :=
  { k with
    transmitErrors := k.transmitErrors - 1, errorState := stateOfCounts (k.transmitErrors - 1) k.receiveErrors,
    windowCount := if k.window.isSome then min 65535 (k.windowCount + 1) else k.windowCount,
    holding := .empty, gap := some (gapNow k) }

/-- A controller after a frame has been received without error (R134, R135). -/
def afterFrameReceived (k : Can) : Can :=
  { k with
    receiveErrors := k.receiveErrors - 1, errorState := stateOfCounts k.transmitErrors (k.receiveErrors - 1),
    windowCount := if k.window.isSome then min 65535 (k.windowCount + 1) else k.windowCount }

/-- The boot wait of an entry in ms (R28). -/
def bootMs (e : Entry) : Nat := e.bootWait * (if e.bootStep = .fine then 10 else 250)

/-- The slot of a channel after one of its frames has been sent (R25, R27, R28): a request that the slot awaits an answer to
loads the response timer and restarts the keep-awake timer; the wake ASK_ID loads a boot wait above 0; a STAY restarts the
keep-awake timer; a BYE changes nothing. -/
def SlotAfterSent (s t : State) (c : Channel) (i : ModuleIndex) (f : TxFrame) : Prop :=
  let period := s.setting .keepAwakePeriod
  let answered : Slot :=
    { s.slot c with
      response := some { left := (s.entry i).responseWait * 10, since := 0 }, holdOns := 0,
      keepAwake := some ⟨period, period⟩ }
  (f.own = true → f.request = .askId → (s.slot c).state = .identifying → t.slot c = answered)
    ∧ (∀ n, f.own = true → f.request = .askPage n → (s.slot c).state = .reading → (s.slot c).sub = .asked →
        (s.slot c).page = n → t.slot c = answered)
    ∧ (∀ n, f.own = true → f.request = .draw n → (s.slot c).state = .reading → (s.slot c).sub = .drawing →
        t.slot c = answered)
    ∧ (f.own = true → f.request = .erase → (s.slot c).state = .erasing → t.slot c = answered)
    ∧ (f.own = true → f.request = .askId → (s.slot c).state = .waking → bootMs (s.entry i) ≠ 0 →
        t.slot c = { s.slot c with boot := some (bootMs (s.entry i)) })
    ∧ (f.own = true → f.request = .stay → (s.slot c).keepAwake ≠ none →
        t.slot c = { s.slot c with keepAwake := some ⟨period, period⟩ })
    ∧ (f.own = false → t.slot c = s.slot c)

/-- What a silence does to the slot of its channel, as R50 and R8 lay down: nothing is left to hand; a FREE slot stays as it
is; any other is FREE with a clear context, and the module it held is ABORTED. -/
def slotAborted (s t : State) (c : Channel) : Prop :=
  t.waitingFrames c = [] ∧ ((s.slot c).state = .free → t.slot c = s.slot c)
    ∧ ((s.slot c).state ≠ .free → t.slot c = {} ∧ ∀ i, (s.slot c).module = some i →
        (t.entry i).lastOutcome = some .aborted ∧ (t.entry i).lastSweep = s.sweep.number)

/-- A channel that was OPEN, YIELD_PENDING or YIELDED has been silenced with one cause (R10, R158, R159): SILENCED with that
cause alone, its slot aborted, each module of its list ABORTED while the controller was RUNNING, and nothing changed on the
other channels, in the history and beyond the part's own work. -/
def Silenced (s t : State) (c : Channel) (causes : Causes) : Prop :=
  t.shareOf c = { s.shareOf c with state := .silenced, causes } ∧ (∀ d, d ≠ c → t.shareOf d = s.shareOf d)
    ∧ slotAborted s t c ∧ (∀ d, d ≠ c → t.slot d = s.slot d)
    ∧ (s.sweep.state = .running →
        t.workList c = [] ∧ ∀ i ∈ s.workList c, (t.entry i).lastOutcome = some .aborted
          ∧ (t.entry i).lastSweep = s.sweep.number ∧ (t.entry i).attention = (s.entry i).attention)
    ∧ t.history = s.history ∧ OwnWork s t

/-- A channel SILENCED already gains a cause, with its notice, where it does not have it yet, and nothing else happens (R158). -/
def causeAdded (s : State) (c : Channel) (has : Bool) (causes : Causes) (cause : Cause) : State :=
  if has then s else noticed (s.withShareOf c { s.shareOf c with causes }) (.channelEvent c .silenced (some cause))

/-- A channel that a yield trigger can act on at once: OPEN, SILENCED or not, its tester action YIELD. -/
def yieldsNow (s : State) (c : Channel) : Prop := s.shareState c = .opened ∧ s.setting (testerActionSetting c) = 0

end Sys2Proof.Claim

/-- A frame waiting in the transmit holding starts its first attempt when the gap timer is stopped, its earliest start has
passed, the channel is OPEN, the controller is ACTIVE or PASSIVE and the bus is free of the part; where one of these fails
nothing changes. A frame in progress is attempted again while the channel is OPEN or YIELD_PENDING. Lost arbitration leaves
the frame in progress, and the counts as they are (R131). That an attempt which may not start changes nothing is the model's
choice (log entry 1), and that the attempt of a withdrawn frame still on the bus blocks the next its reading (log entry
12). -/
def Sys2Proof.Claim.CanAttemptsStartAndRepeat : Prop :=
  ∀ (s : State) (k : CanChannel) (f : TxFrame),
    let x := s.canCtl k
    let st := s.shareState k.toChannel
    let may := x.gap = none ∧ (f.earliest = none ∨ f.earliest = some 0) ∧ st = .opened ∧ onBus x ∧ x.orphan = false
    (x.holding = .waiting f → may → exec (.canAttemptStart k) s = .next (s.withCan k { x with holding := .inProgress f true }))
    ∧ (x.holding = .waiting f → ¬ may → exec (.canAttemptStart k) s = .next s)
    ∧ (x.holding = .empty → exec (.canAttemptStart k) s = .next s)
    ∧ (x.holding = .inProgress f false → (st = .opened ∨ st = .yieldPending) → onBus x → x.orphan = false →
        exec (.canAttemptStart k) s = .next (s.withCan k { x with holding := .inProgress f true }))
    ∧ (x.holding = .inProgress f true → onBus x → x.orphan = false →
        exec (.arbitrationLost k) s = .next (s.withCan k { x with holding := .inProgress f false }))

/-- A frame of the part that completes empties the holding, takes one off the transmit error count, is counted by the load
meter and starts the gap timer; its slot learns that it has been sent. After the wake ASK_ID of a module whose boot wait is
0 the boot wait expires as soon as it is loaded: the step does what the boot timer's expiry then does. An attempt left on
the bus by a withdrawn frame does the same to the controller and nothing to the slot (R25, R27, R28, R131, R132, R134, R135;
where the slot has nothing more to hand; the attempt of a withdrawn frame is log entry 12's). -/
def Obligations.CanFrameSentStartsTheGap : Prop :=
  ∀ (s : State) (k : CanChannel), Settled s → onBus (s.canCtl k) →
    (∀ (f : TxFrame) (i : ModuleIndex), (s.canCtl k).holding = .inProgress f true → (s.canCtl k).orphan = false →
      (s.slot k.toChannel).module = some i ∨ f.own = false → s.waitingFrames k.toChannel = [] →
      (f.own = true → f.request = .askId ∨ f.request = .wake → (s.slot k.toChannel).state = .waking →
        bootMs (s.entry i) ≠ 0) →
      ∃ t, exec (.canFrameSent k) s = .next t
        ∧ t.canCtl k = afterFrameSent (s.canCtl k) ∧ SlotAfterSent s t k.toChannel i f
        ∧ (∀ j : CanChannel, j ≠ k → t.canCtl j = s.canCtl j) ∧ t.line = s.line
        ∧ (∀ d, d ≠ k.toChannel → t.slot d = s.slot d) ∧ t.toHand = s.toHand
        ∧ t.table = s.table ∧ t.share = s.share ∧ t.sweep = s.sweep ∧ t.link = s.link ∧ t.history = s.history
        ∧ OwnWork s t)
    ∧ (∀ (f : TxFrame) (i : ModuleIndex), (s.canCtl k).holding = .inProgress f true → (s.canCtl k).orphan = false →
      (s.slot k.toChannel).module = some i → s.waitingFrames k.toChannel = [] → f.own = true → f.request = .askId →
      (s.slot k.toChannel).state = .waking → bootMs (s.entry i) = 0 →
      ∀ n, exec (.canFrameSent k) s =
        exec (.bootTimerExpiry k.toChannel)
          ((s.withCan k (afterFrameSent (s.canCtl k))).withSlot k.toChannel
            { s.slot k.toChannel with boot := some n }))
    ∧ ((s.canCtl k).orphan = true →
        exec (.canFrameSent k) s =
          .next (s.withCan k { afterFrameSent (s.canCtl k) with holding := (s.canCtl k).holding, orphan := false }))

/-- The error counts and the error state: an error in a frame the part transmits raises the transmit error count by 8 and the
frame waits for its next attempt; an error in a frame it receives raises the receive error count by one, held at 255; while
either count is 128 or more the controller is PASSIVE, else ACTIVE. The 128th run of recessive bits takes an OFF controller to
OFF_IDLE; off the bus no error is counted (R131, R135, R137; as commands such errors are log entry 1's). -/
def Sys2Proof.Claim.CanErrorsMoveTheCounts : Prop :=
  ∀ (s : State) (k : CanChannel),
    let x := s.canCtl k
    (∀ f, onBus x → x.orphan = false → x.holding = .inProgress f true → x.transmitErrors + 8 ≤ 255 →
      exec (.canTransmitError k) s =
        .next (s.withCan k { x with
          transmitErrors := x.transmitErrors + 8, errorState := stateOfCounts (x.transmitErrors + 8) x.receiveErrors,
          holding := .inProgress f false }))
    ∧ (onBus x →
        let n := if x.receiveErrors < 255 then x.receiveErrors + 1 else 255
        exec (.canReceiveError k) s =
          .next (s.withCan k { x with receiveErrors := n, errorState := stateOfCounts x.transmitErrors n }))
    ∧ (x.errorState = .off →
        exec (.idleSequence k) s =
          .next (s.withCan k { x with
            idleSequences := x.idleSequences + 1, errorState := if 128 ≤ x.idleSequences + 1 then .offIdle else .off }))
    ∧ (¬ onBus x → exec (.canTransmitError k) s = .next s ∧ exec (.canReceiveError k) s = .next s
        ∧ exec (.busDominantTimeout k) s = .next s ∧ exec (.canFrameSent k) s = .next s)
    ∧ (x.errorState ≠ .off → exec (.idleSequence k) s = .next s)

/-- Attempts on a CAN bus and the errors that move the counts (R131, R135, R137; log entries 1 and 12). -/
def Obligations.CanAttemptsAndErrors : Prop :=
  CanAttemptsStartAndRepeat ∧ CanErrorsMoveTheCounts

/-- A controller goes OFF when an error would take its transmit error count above 255, and when its bus has been dominant
for 100 ms: its holding is empty, its gap timer and load meter stopped, its tester hold and idle sequence count cleared, and
its channel is SILENCED with cause BUS_OFF; a channel in STANDBY stays there, and one SILENCED already gains the cause
(R135, R136, R158, R159; the transmit error count at OFF is a free value, log entry 20; that a withdrawn frame's attempt may
be the one on the bus is log entry 12; with AUTO_ATTENTION off). -/
def Sys2Proof.Claim.BusOffSilencesTheChannel : Prop :=
  ∀ (s : State) (k : CanChannel) (command : Instr), Settled s → s.setting .autoAttention = 0 → onBus (s.canCtl k) →
    (command = .busDominantTimeout k
      ∨ (command = .canTransmitError k ∧ 255 < (s.canCtl k).transmitErrors + 8
          ∧ ((s.canCtl k).orphan = true ∨ ∃ f, (s.canCtl k).holding = .inProgress f true))) →
    ∃ t, exec command s = .next t
      ∧ (t.canCtl k).errorState = .off ∧ (t.canCtl k).holding = .empty ∧ (t.canCtl k).orphan = false
      ∧ (t.canCtl k).gap = none ∧ (t.canCtl k).window = none ∧ (t.canCtl k).testerHold = none
      ∧ (t.canCtl k).idleSequences = 0 ∧ (t.canCtl k).receiveErrors = (s.canCtl k).receiveErrors
      ∧ (command = .busDominantTimeout k → (t.canCtl k).transmitErrors = (s.canCtl k).transmitErrors)
      ∧ (∀ j : CanChannel, j ≠ k → t.canCtl j = s.canCtl j) ∧ t.line = s.line
      ∧ ((s.shareState k.toChannel = .opened ∨ s.shareState k.toChannel = .yieldPending
            ∨ s.shareState k.toChannel = .yielded) → Silenced s t k.toChannel { busOff := true })
      ∧ (s.shareState k.toChannel = .standby → t.share = s.share ∧ t.slots = s.slots ∧ t.table = s.table)
      ∧ (s.shareState k.toChannel = .silenced →
          let u := causeAdded s k.toChannel (s.shareOf k.toChannel).causes.busOff
            { (s.shareOf k.toChannel).causes with busOff := true } .busOff
          t.share = u.share ∧ t.link = u.link ∧ t.slots = s.slots ∧ t.sweep = s.sweep ∧ t.table = s.table
            ∧ t.toHand = s.toHand ∧ t.history = s.history ∧ OwnWork s t)

/-- The expiry of the gap timer takes a pending pace gap and a pending verdict into use. A window's count becomes the last
window count and its verdict, BUSY above the threshold, is in use at once where the gap timer is stopped and pending while it
runs. A pace gap put by the host is in use at once where the gap timer is stopped and pending while it runs, on A and on B
(R132 to R134; that a verdict equal to the one in use becomes pending too, in place of an earlier one, is the model's choice,
log entry 58; that a pace gap taken at once drops one still pending is its reading, log entry 21). -/
def Obligations.PaceAndVerdictChangeBetweenFrames : Prop :=
  (∀ (s : State) (k : CanChannel) (left : Nat), (s.canCtl k).gap = some left →
    exec (.gapTimerExpiry k) s =
      .next (s.withCan k { s.canCtl k with
        gap := none, pace := (s.canCtl k).pacePending.getD (s.canCtl k).pace, pacePending := none,
        verdict := (s.canCtl k).verdictPending.getD (s.canCtl k).verdict, verdictPending := none }))
  ∧ (∀ (s : State) (k : CanChannel) (left : Nat), (s.canCtl k).window = some left →
      let x := s.canCtl k
      let verdict : Verdict := if s.setting (thresholdSetting k) < x.windowCount then .busy else .quiet
      exec (.windowTimerExpiry k) s =
        .next (s.withCan k { x with
          window := some 100, lastWindow := x.windowCount, windowCount := 0,
          verdict := if x.gap = none then verdict else x.verdict,
          verdictPending := if x.gap = none then x.verdictPending else some verdict }))
  ∧ (∀ (s : State) (k : CanChannel) (v : Word16), Ready s → Settled s → 1 ≤ v.toNat → v.toNat ≤ 250 →
      v.toNat ≠ s.setting (paceSetting k) → s.setting .requestBaseA ≠ s.setting .responseBaseA → s.setting .requestBaseB ≠ s.setting .responseBaseB →
      exec (.settingsPut (pairsPayload [(paceSetting k, v)])) s =
        .next
          (answered
            { s with
              settings := s.settings.set (paceSetting k).index v,
              can := s.can.set k
                (if (s.canCtl k).gap.isSome then { s.canCtl k with pacePending := some v.toNat }
                else { s.canCtl k with pace := v.toNat, pacePending := none }) }
            0x8C .done ((paceSetting k).code :: bytes16 v ++ bytes16 v)))

/-- A body that spells no service on a channel: empty, of an unknown code, or of a length that its service does not have (R24,
R128, R141, R175). -/
def Sys2Proof.Claim.spellsNothing (c : Channel) : List Byte → Prop
  | [] => True
  | code :: rest =>
    if 0x30 ≤ code.toNat ∧ code.toNat ≤ 0x37 then rest = [] ∨ (if c = .s then 16 else 7) < rest.length
    else
      match code.toNat with
      | 0x21 => rest.length ≠ 7
      | 0x22 => rest.length ≠ 7
      | 0x23 => rest.length ≠ 1
      | 0x24 => rest.length ≠ 1
      | 0x25 => rest ≠ []
      | _ => True

/-- A frame of another node is counted and classified against the bases in effect: a standard data frame in the request range
is a foreign tester request for the address it names; one at the response identifier of the slot's module is taken as the
service its body spells, and where it spells none, for its unknown service or its length, it has no effect beyond the counts;
nor has any other frame, whether the slot holds a module or is FREE; off the bus a frame has none at all (R24, R128 to R130,
R175). -/
def Obligations.CanFramesAreClassified : Prop :=
  ∀ (s : State) (k : CanChannel) (f : CanFrame), f.wellFormed = true →
    let x := s.canCtl k
    let c := k.toChannel
    let counted := s.withCan k (afterFrameReceived x)
    let data := f.extended = false ∧ f.remote = false
    let request := x.requestBase ≤ f.ident ∧ f.ident ≤ x.requestBase + 31
    (¬ onBus x → exec (.canFrameReceived k f) s = .next s)
    ∧ (onBus x → data → request →
        exec (.canFrameReceived k f) s =
          exec (.foreignTesterRequest k (BitVec.ofNat 5 (f.ident - x.requestBase))) counted)
    ∧ (∀ i, (s.slot c).module = some i → onBus x → data → ¬ request → f.ident = x.responseBase + (s.entry i).address →
        (∀ t1 t0 c0 c1 c2 c3 flags, f.data = [0x21, t1, t0, c0, c1, c2, c3, flags] →
            exec (.canFrameReceived k f) s = exec (.idReply c (t1 ++ t0) ⟨c0, c1, c2, c3⟩ flags) counted)
        ∧ (∀ page count l1 l0 flags s1 s0, f.data = [0x22, page, count, l1, l0, flags, s1, s0] →
            exec (.canFrameReceived k f) s = exec (.pageHead c page count (l1 ++ l0) flags (s1 ++ s0)) counted)
        ∧ (∀ (index : BitVec 3) bytes, f.data = (0x30 + index.zeroExtend 8) :: bytes → bytes ≠ [] →
            exec (.canFrameReceived k f) s = exec (.segment c index bytes) counted)
        ∧ (∀ n, f.data = [0x23, n] → exec (.canFrameReceived k f) s = exec (.holdOn c n) counted)
        ∧ (∀ r, f.data = [0x24, r] → exec (.canFrameReceived k f) s = exec (.deny c r) counted)
        ∧ (f.data = [0x25] → exec (.canFrameReceived k f) s = exec (.eraseDone c) counted)
        ∧ (spellsNothing c f.data → exec (.canFrameReceived k f) s = .next counted))
    ∧ (onBus x → ¬ data → exec (.canFrameReceived k f) s = .next counted)
    ∧ (∀ i, (s.slot c).module = some i → onBus x → ¬ request → f.ident ≠ x.responseBase + (s.entry i).address →
        exec (.canFrameReceived k f) s = .next counted)
    ∧ (onBus x → ¬ request → (s.slot c).state = .free → exec (.canFrameReceived k f) s = .next counted)

/-! ### The single-wire line (R140 to R151) -/

namespace Sys2Proof.Claim

/-- Line S with its receiver OFF, and whatever it was receiving dropped (R146). -/
def receiverOff (l : Line) : Line :=
  { l with receiver := .off, measuredSpan := none, buffer := [], mustRest := false }

/-- Line S as it enters turnaround: the timer loaded from TURNAROUND_BITS, the receiver OFF (R144). -/
def turningAround (s : State) : Line :=
  { receiverOff s.line with
    transmitter := .turnaround, driving := none, wakeLeft := none,
    turnaround := some (5 * s.setting .turnaroundBits) }

end Sys2Proof.Claim

/-- A held frame starts when the transmitter is IDLE, channel S is OPEN, the receiver is in neither SYNC nor LOCKED and the
line has been idle for ten bit times at the frame's line rate: the transmitter is SENDING and the receiver goes on, or
DRIVING_WAKE for a wake request with the receiver OFF and the stuck timer stopped; the detector is SUPPRESSED. Where one of
these fails nothing changes. When the turnaround timer expires the transmitter is IDLE, the receiver hunts where slot S takes
frames, and the detector is in RELEASE. A wake pattern starts with its 25 ms before it. At its end the line is released,
turnaround starts with the receiver OFF and the boot wait is loaded, one of 0 expiring at once as the boot timer's expiry does
(R28, R142, R144, R147, R148, R151, R152; how idle time is counted is log entry 55, that an end may be commanded at any moment
log entry 4, and that a start which may not happen changes nothing log entry 1). -/
def Obligations.LineSendsOneFrameAtATime : Prop :=
  ∀ (s : State) (f : TxFrame) (address : Nat) (rate : LineRate),
    let l := s.line
    let may := l.transmitter = .idle ∧ s.shareState .s = .opened ∧ l.receiver ≠ .sync ∧ l.receiver ≠ .locked
      ∧ l.level = .high ∧ 10 * (16 * rate.samplePeriod) ≤ l.idleTime
    let driving (t : Transmitter) : Line :=
      { l with
        transmitter := t, holding := none, driving := some f, driveRate := some rate, detector := .suppressed,
        release := none, idleTime := 0 }
    (l.holding = some f → f.dest = .line address rate → f.request ≠ .wake →
      exec .lineTransmitStart s = .next (if may then s.withLine (driving .sending) else s))
    ∧ (l.holding = some f → f.dest = .line address rate → f.request = .wake →
        exec .wakePatternStart s =
          .next (if may then
              s.withLine { receiverOff (driving .drivingWake) with stuckTimer := none, wakeLeft := some 25 } else s))
    ∧ (l.transmitter = .turnaround →
        exec .turnaroundTimerExpiry s =
          .next (s.withLine
            { l with
              transmitter := .idle, turnaround := none, driveRate := none,
              receiver := if (s.slot .s).state = .free ∨ (s.slot .s).state = .parked then .off else .hunt,
              measuredSpan := none, buffer := [], mustRest := false, detector := .release,
              release := if l.level = .high then some 10 else none }))
    ∧ (∀ i, Settled s → l.transmitter = .drivingWake → l.driving = some f → f.own = true → f.request = .wake →
        (s.slot .s).state = .waking → (s.slot .s).module = some i → bootMs (s.entry i) ≠ 0 → s.toHand.s = [] →
        exec .wakePatternEnd s =
          .next
            { s with
              line :=
                { turningAround s with
                  stuckTimer := if l.level = .low then some 200 else none },
              slots := { s.slots with s := { s.slots.s with boot := some (bootMs (s.entry i)) } } })
    ∧ (∀ i, l.transmitter = .drivingWake → l.driving = some f → f.own = true → f.request = .wake →
        (s.slot .s).state = .waking → (s.slot .s).module = some i → bootMs (s.entry i) = 0 → s.toHand.s = [] →
        ∀ n, exec .wakePatternEnd s =
          exec (.bootTimerExpiry .s)
            { s with
              line := { turningAround s with stuckTimer := if l.level = .low then some 200 else none },
              slots := { s.slots with s := { s.slots.s with boot := some n } } })

/-- A frame of the part whose read-back matches to its end is sent: the echo mismatch count returns to 0, turnaround starts,
with the receiver OFF, and the slot's wait begins. One abandoned on its read-back starts turnaround too, and its slot takes
it as the expiry of the wait of the request it carried: an ASK_PAGE or DRAW repeats the page, or ends PARTIAL the second
time; an ASK_ID is tried again, with its wake for a sleepy module, or ends NO_ANSWER on the last attempt; an ERASE ends
ERASE_DENIED; a STAY or a BYE has no effect on the slot. The count rises by one or, from 2, returns to 0 with ECHO_FAULT,
which does no more while ECHO_SILENCE is off (R23, R25, R30, R39, R43, R143, R158; that the slot reacts before the count is
log entry 30, and that a repeated page has its segments expected cleared log entry 48). -/
def Sys2Proof.Claim.ReadBackFramesAreSentOrAbandoned : Prop :=
  ∀ (s : State) (f : TxFrame) (i : ModuleIndex), Settled s → s.line.transmitter = .sending → s.line.driving = some f →
    s.toHand.s = [] → s.line.holding = none → s.shareState .s = .opened →
    let turning : Line := turningAround s
    let n := s.line.echoMismatches
    let unsilenced := n < 2 ∨ s.setting .echoSilence = 0
    let abandoned : Line := { turning with echoMismatches := if n < 2 then n + 1 else 0 }
    (((s.slot .s).module = some i ∨ f.own = false) → ((s.slot .s).state = .waking → f.own = false ∨ f.request = .stay) →
      ∃ t, exec .lineFrameSent s = .next t
        ∧ t.line = { turning with echoMismatches := 0 } ∧ SlotAfterSent s t .s i f ∧ SameBeyond s t .s
        ∧ t.table = s.table ∧ t.history = s.history)
    ∧ ((f.own = false ∨ f.request = .stay) → unsilenced → exec .lineFrameAbandoned s = .next (s.withLine abandoned))
    ∧ (f.own = true → f.request = .askPage (s.slot .s).page → (s.slot .s).state = .reading →
        (s.slot .s).sub = .asked → (s.slot .s).attempt = 1 → (s.slot .s).module = some i → s.sweep.state ≠ .halting →
        unsilenced →
        ∃ t, exec .lineFrameAbandoned s = .next t ∧ (t.slot .s).attempt = 2 ∧ (t.slot .s).sub = .asked
          ∧ (t.slot .s).response = none ∧ (t.slot .s).state = .reading
          ∧ t.line = { abandoned with
              holding := some
                ⟨.askPage (s.slot .s).page, .line (s.entry i).address ((s.entry i).lineRate.getD .r19200), none, true⟩ }
          ∧ t.history = s.history ∧ t.table = s.table ∧ OwnWork s t)
    ∧ (f.own = true → (s.slot .s).module = some i → s.sweep.state ≠ .halting → unsilenced →
        let r := exec .lineFrameAbandoned s
        let u := s.withLine abandoned
        let frame (q : TxRequest) : TxFrame := ⟨q, .line (s.entry i).address ((s.entry i).lineRate.getD .r19200), none, true⟩
        (∀ k, f.request = .draw k → (s.slot .s).state = .reading → (s.slot .s).sub = .drawing →
            AttemptFailed u .s i r)
        ∧ (f.request = .askPage (s.slot .s).page → (s.slot .s).state = .reading → (s.slot .s).sub = .asked →
            AttemptFailed u .s i r)
        ∧ (f.request = .askId → (s.slot .s).state = .identifying → (s.slot .s).idAttempt < 1 + (s.entry i).retries →
            let x := { s.slot .s with response := none, idAttempt := (s.slot .s).idAttempt + 1 }
            r = .next
              { u with
                line := { u.line with holding := some (frame (if (s.entry i).sleepy then .wake else .askId)) },
                slots := s.slots.set .s
                  (if (s.entry i).sleepy then { x with state := .waking, keepAwake := none } else x) })
        ∧ (f.request = .askId → (s.slot .s).state = .identifying → 1 + (s.entry i).retries ≤ (s.slot .s).idAttempt →
            (s.slot .s).identified = false → otherWork s .s → ∃ t, r = .next t ∧ Ended u t .s i .noAnswer)
        ∧ (f.request = .erase → (s.slot .s).state = .erasing → otherWork s .s →
            ∃ t, r = .next t ∧ Ended u t .s i .eraseDenied))

/-- The third mismatch in a row on a STAY of the slot, or on a BYE of a dialog that has ended, with ECHO_SILENCE on: the line is
SILENCED with cause ECHO_FAULT, and the dialog under way is ABORTED, on a line that yields or is YIELDED too, as when a slot
in REFERRED has parked while its STAY was sent (R50, R143, R156, R158, R159; with AUTO_ATTENTION off). -/
def Sys2Proof.Claim.ThirdMismatchOnAStayOrByeSilences : Prop :=
  ∀ (s : State) (f : TxFrame), Settled s → s.line.transmitter = .sending → s.line.driving = some f →
    (f.own = false ∨ f.request = .stay) → 2 ≤ s.line.echoMismatches → s.setting .echoSilence = 1 →
    s.setting .autoAttention = 0 →
    (s.shareState .s = .opened ∨ s.shareState .s = .yieldPending ∨ s.shareState .s = .yielded) →
    ∃ t, exec .lineFrameAbandoned s = .next t
      ∧ t.line.echoMismatches = 0 ∧ t.line.transmitter = .turnaround ∧ t.line.holding = none ∧ t.line.receiver = .off
      ∧ Silenced s t .s { echoFault := true }

/-- The third mismatch in a row on a request of slot S, with ECHO_SILENCE on: the slot reacts first, and then the line is
SILENCED with cause ECHO_FAULT. A dialog that would have gone on is ABORTED; one that the abandoned frame ended keeps that
outcome. On a YIELD_PENDING line a slot so parked is first YIELDED, with its notice, and then aborted (R30, R39, R43, R143,
R156, R158, R159; that the slot reacts before the silence is log entry 30's, and that an ERASE ends ERASE_DENIED under a
halt too log entry 16's; with AUTO_ATTENTION off). -/
def Sys2Proof.Claim.ThirdMismatchOnARequestSilences : Prop :=
  ∀ (s : State) (i : ModuleIndex), Settled s → awaitedRequest s → s.toHand.s = [] → s.line.holding = none →
    (s.slot .s).module = some i → 2 ≤ s.line.echoMismatches → s.setting .echoSilence = 1 →
    s.setting .autoAttention = 0 → (s.shareState .s = .opened ∨ s.shareState .s = .yieldPending) →
    let x := s.slot .s
    let yields : List OutFrame :=
      if s.shareState .s = .opened then []
      else if s.yieldTrigger .s then [.notice (.channelEvent .s .yielded none)]
      else [.notice (.channelEvent .s .yielded none), .notice (.channelEvent .s .resumed none)]
    let faulted (t : State) : Prop :=
      t.line.echoMismatches = 0 ∧ t.line.transmitter = .turnaround ∧ t.line.holding = none ∧ t.line.receiver = .off
    (s.sweep.state ≠ .halting →
        (x.state = .identifying ∧ x.idAttempt < 1 + (s.entry i).retries ∨ x.state = .reading ∧ x.attempt = 1) →
        ∃ t, exec .lineFrameAbandoned s = .next t ∧ faulted t ∧ Silenced s t .s { echoFault := true }
          ∧ (s.workList .s = [] → otherWork s .s → s.link.noticesHeld + yields.length < 11 →
              t.link.outbound = s.link.outbound ++ yields
                ++ [.notice (.moduleEnd i .aborted x.pagesRead x.refused),
                  .notice (.channelEvent .s .silenced (some .echoFault))]))
    ∧ (∀ e, waitEnds s .s i e → (s.entry i).attention = false → i ∉ s.workList .s →
        ∃ t, exec .lineFrameAbandoned s = .next t ∧ faulted t ∧ t.slot .s = {}
          ∧ (t.entry i).lastOutcome = some e.outcome ∧ (t.entry i).lastSweep = s.sweep.number
          ∧ t.shareOf .s = { s.shareOf .s with state := .silenced, causes := { echoFault := true } }
          ∧ t.history = s.history ∧ OwnWork s t)

/-- The read-back of line S: frames sent and abandoned, and the third mismatch in a row, be it on a request of the slot or
on another frame (R23, R25, R30, R39, R43, R143, R156, R158; log entries 16, 30, 48 and 57). -/
def Obligations.LineFramesAreReadBack : Prop :=
  ReadBackFramesAreSentOrAbandoned ∧ ThirdMismatchOnAStayOrByeSilences ∧ ThirdMismatchOnARequestSilences

namespace Sys2Proof.Claim

/-- Line S as an edge of the filtered level leaves it, but for its receiver and its detector: the new level with its filter run
at 0, and the stuck timers started or stopped (R140, R148). -/
def edged (l : Line) (level : Level) : Line :=
  match level with
  | .low =>
    { l with
      level := .low, filterRun := 0, idleTime := 0, stuckClear := none,
      stuckTimer := if l.transmitter = .drivingWake then none else some 200 }
  | .high =>
    { l with
      level := .high, filterRun := 0, idleTime := 0, stuckTimer := none,
      stuckClear := if l.stuck then some 100 else none }

/-- The idle time of line S after so many more samples at its level, in sample periods of 19 200 bit/s, held at the ten bit
times of 2400 bit/s (R140, R142; the model's own count, log entry 55). -/
def idleAfter (s : State) (n : Nat) : Nat :=
  if s.line.level = .high then min 1280 (s.line.idleTime + n * s.samplePeriod) else s.line.idleTime

end Sys2Proof.Claim

/-- The filter of line S: samples that agree with the filtered level return the filter run to 0; samples that disagree raise
it, and fewer than four in a row move nothing else, so that a glitch of one to three samples leaves the line as it was; the
fourth in a row changes the level and returns the run to 0. A row of samples is as good as two rows one after the other (R140;
the idle time, by which the model knows a rested line, is log entry 55's). -/
def Sys2Proof.Claim.SamplesMoveTheFilteredLevel : Prop :=
  ∀ s : State,
    let l := s.line
    let other : Level := if l.level = .high then .low else .high
    Settled s →
    (∀ x, exec (.lineEdge x 0) s = .next s)
    ∧ (∀ n, 1 ≤ n →
      exec (.lineEdge l.level n) s = .next (s.withLine { l with filterRun := 0, idleTime := idleAfter s n }))
    ∧ (∀ n, 1 ≤ n → l.filterRun + n < 4 →
        exec (.lineEdge other n) s =
          .next (s.withLine { l with filterRun := l.filterRun + n, idleTime := idleAfter s n }))
    ∧ (∀ n, l.filterRun + n = 4 → l.filterRun < 4 →
        ∃ t, exec (.lineEdge other n) s = .next t ∧ t.line.level = other ∧ t.line.filterRun = 0
          ∧ t.line.stuckTimer = (edged l other).stuckTimer ∧ t.line.stuckClear = (edged l other).stuckClear
          ∧ t.line.transmitter = l.transmitter ∧ t.line.holding = l.holding)
    ∧ (∀ x m n, ∃ t, exec (.lineEdge x m) s = .next t ∧ exec (.lineEdge x (m + n)) s = exec (.lineEdge x n) t)

/-- The receiver: a falling edge on an idle line takes it from HUNT to SYNC, after a failed sync only when the line has rested
one bit time at the sampler's rate; nine intervals of 12..20 sample periods with a span of 136..152 and a HIGH stop bit lock
it, and anything else returns it to HUNT until the line has rested. A locked frame of the right length and sum from the slot's
module is taken as the service its body spells; any other has no effect: another address, a wrong check or length, a body that
spells no service, or a FREE slot; either way, and at a discard, the receiver hunts again (R24, R141, R145, R146, R175; that
the span itself is kept is the model's choice, log entry 27, and what a command changes that the receiver's state rules out is
log entry 1's). -/
def Obligations.LineReceiverLocksAndDelivers : Prop :=
  ∀ s : State,
    let l := s.line
    let hunting : Line := { l with receiver := .hunt, measuredSpan := none, buffer := [], mustRest := false }
    (∀ intervals stop, l.receiver = .sync → intervals.length = 9 →
      exec (.receiverLocked intervals stop) s =
        .next (s.withLine
          (if (∀ n ∈ intervals, 12 ≤ n ∧ n ≤ 20) ∧ 136 ≤ intervals.sum ∧ intervals.sum ≤ 152 ∧ stop = .high then
            { l with receiver := .locked, measuredSpan := some intervals.sum, buffer := [], mustRest := false }
          else { hunting with mustRest := true })))
    ∧ (∀ intervals stop, l.receiver ≠ .sync → exec (.receiverLocked intervals stop) s = .next s)
    ∧ (l.receiver = .locked → exec .lineFrameDiscarded s = .next (s.withLine hunting))
    ∧ (l.receiver = .sync → exec .lineFrameDiscarded s = .next (s.withLine { hunting with mustRest := true }))
    ∧ (∀ bytes, l.receiver ≠ .locked → exec (.lineFrameReceived bytes) s = .next s)
    ∧ (∀ bytes, l.receiver = .locked → (s.slot .s).state = .free →
        exec (.lineFrameReceived bytes) s = .next (s.withLine hunting))
    ∧ (∀ (address length : Byte) (rest : List Byte), l.receiver = .locked →
        (length.toNat = 0 ∨ 18 < length.toNat ∨ rest.length ≠ length.toNat + 1) →
        exec (.lineFrameReceived (address :: length :: rest)) s = .next (s.withLine hunting))
    ∧ (∀ (i : ModuleIndex) (address : Byte) (body : List Byte) (check : Byte), l.receiver = .locked →
        (s.slot .s).module = some i → 1 ≤ body.length → body.length ≤ 18 →
        let bytes := address :: byte body.length :: body ++ [check]
        (address + byte body.length + sum8 body + check ≠ 0 ∨ address.toNat ≠ (s.entry i).address →
            exec (.lineFrameReceived bytes) s = .next (s.withLine hunting))
        ∧ (address + byte body.length + sum8 body + check = 0 → address.toNat = (s.entry i).address →
            let r := exec (.lineFrameReceived bytes) s
            let u := s.withLine hunting
            (∀ t1 t0 c0 c1 c2 c3 flags, body = [0x21, t1, t0, c0, c1, c2, c3, flags] →
              r = exec (.idReply .s (t1 ++ t0) ⟨c0, c1, c2, c3⟩ flags) u)
            ∧ (∀ page count l1 l0 flags s1 s0, body = [0x22, page, count, l1, l0, flags, s1, s0] →
                r = exec (.pageHead .s page count (l1 ++ l0) flags (s1 ++ s0)) u)
            ∧ (∀ (index : BitVec 3) data, body = (0x30 + index.zeroExtend 8) :: data → 1 ≤ data.length →
                data.length ≤ 16 → r = exec (.segment .s index data) u)
            ∧ (∀ n, body = [0x23, n] → r = exec (.holdOn .s n) u)
            ∧ (∀ reason, body = [0x24, reason] → r = exec (.deny .s reason) u)
            ∧ (body = [0x25] → r = exec (.eraseDone .s) u)
            ∧ (spellsNothing .s body → r = .next u)))
    ∧ (∀ n, l.level = .high → l.receiver = .hunt → (l.detector = .ready ∨ l.detector = .release) →
        l.filterRun < 4 → l.filterRun + n = 4 →
        let starts := l.mustRest = false ∨ 16 * s.samplePeriod ≤ idleAfter s n
        exec (.lineEdge .low n) s =
          .next (s.withLine
            { edged l .low with
              receiver := if starts then .sync else .hunt,
              measuredSpan := if starts then none else l.measuredSpan,
              buffer := if starts then [] else l.buffer, mustRest := if starts then false else l.mustRest,
              detector :=
                if l.detector = .release then .release
                else if s.setting .attentionPolarity = 1 then .mark else .capture,
              width := if l.detector = .ready ∧ s.setting .attentionPolarity ≠ 1 then 0 else l.width,
              release := if l.detector = .release then none else l.release }))

/-- The attention detector. Under polarity LOW a falling edge in READY starts a capture of width 0 and the rising edge ends it;
under HIGH the falling edge starts a MARK, the rising edge then starts the capture, and the next falling edge ends it. The end
of a capture maps the width and puts the detector in RELEASE, whose 10 ms run on an idle line, after which it is READY. Slot n
takes the widths 20 + 16n .. 28 + 16n: the entry in use on S with that attention slot has its flag set and ATTENTION queued; a
slot that no entry has, and any other width, is ignored, and so is a pulse that would pass 268 (R149 to R151; sweep controller
in RUNNING with the module on a list, or IDLE with AUTO_ATTENTION off). That one ATTENTION_PULSE sets the width and performs the
ending edge is log entry 25; the count of 269 after an overflow is log entry 26, its release timer on an idle line log entry
59; the idle time is log entry 55's. -/
def Obligations.AttentionPulsesAreMapped : Prop :=
  ∀ s : State, Settled s →
    let l := s.line
    let high := s.setting .attentionPolarity = 1
    let ending : Level := if high then .low else .high
    let released (w : Nat) : Line :=
      { edged l ending with
        width := w, detector := .release, release := if high then none else some 10 }
    (∀ n, l.level = .high → l.detector = .ready → l.receiver ≠ .hunt → l.filterRun < 4 → l.filterRun + n = 4 →
      exec (.lineEdge .low n) s =
        .next (s.withLine
          (if high then { edged l .low with detector := .mark }
          else { edged l .low with detector := .capture, width := 0 })))
    ∧ (∀ n, l.level = .low → l.detector = .mark → l.filterRun < 4 → l.filterRun + n = 4 →
        exec (.lineEdge .high n) s = .next (s.withLine { edged l .high with detector := .capture, width := 0 }))
    ∧ (∀ w : Nat, l.level ≠ ending → l.detector = .capture → l.receiver ≠ .hunt →
        (∀ (n : Nat) (i : ModuleIndex), 20 + 16 * n ≤ w → w ≤ 28 + 16 * n → n < 16 → (s.entry i).inUse = true →
            (s.entry i).channel = .s → (s.entry i).attentionSlot = some n →
            (∀ j, (s.entry j).inUse = true → (s.entry j).channel = .s → (s.entry j).attentionSlot = some n → j = i) →
            ((s.sweep.state = .idle ∧ s.setting .autoAttention = 0) ∨ (s.sweep.state = .running ∧ s.listed i = true)) →
            exec (.attentionPulse w) s =
              .next (noticed
                { s with
                  line := released w,
                  table := s.table.set i { s.entry i with attention := true } }
                (.attention i)))
        ∧ (∀ n : Nat, 20 + 16 * n ≤ w → w ≤ 28 + 16 * n → n < 16 →
            (∀ j, (s.entry j).inUse = true → (s.entry j).channel = .s → (s.entry j).attentionSlot ≠ some n) →
            exec (.attentionPulse w) s = .next (s.withLine (released w)))
        ∧ ((∀ n, n < 16 → ¬ (20 + 16 * n ≤ w ∧ w ≤ 28 + 16 * n)) →
            exec (.attentionPulse w) s = .next (s.withLine (released w))))
    ∧ (l.detector = .capture →
        exec .widthOverflow s =
          .next (s.withLine { l with
            width := 269, detector := .release, release := if l.level = .high then some 10 else none }))
    ∧ (∀ left, l.detector = .release → l.release = some left → l.level = .high →
        exec .releaseTimerExpiry s = .next (s.withLine { l with detector := .ready, release := none }))

/-- A line LOW for 200 ms sets the stuck flag and silences channel S with cause LINE_STUCK; in STANDBY it sets the flag alone,
and where the channel is SILENCED already the cause is added, with its notice, if it is not there yet; 100 ms
of idle line clears the flag (R148, R158, R159; with AUTO_ATTENTION off). -/
def Sys2Proof.Claim.StuckLineSilencesChannelS : Prop :=
  ∀ (s : State) (left : Nat), Settled s → s.setting .autoAttention = 0 →
    (s.line.stuckTimer = some left →
      ∃ t, exec .stuckTimerExpiry s = .next t ∧ t.line.stuck = true
        ∧ (s.line.transmitter ≠ .drivingWake → t.line.stuckTimer = none)
        ∧ ((s.shareState .s = .opened ∨ s.shareState .s = .yieldPending ∨ s.shareState .s = .yielded) →
            Silenced s t .s { lineStuck := true })
        ∧ (s.shareState .s = .standby → t = s.withLine { s.line with stuckTimer := none, stuck := true })
        ∧ (s.shareState .s = .silenced →
            t = causeAdded (s.withLine { s.line with stuckTimer := none, stuck := true }) .s
              (s.shareOf .s).causes.lineStuck { (s.shareOf .s).causes with lineStuck := true } .lineStuck))
    ∧ (s.line.stuckClear = some left →
        exec .stuckClearTimerExpiry s = .next (s.withLine { s.line with stuckClear := none, stuck := false }))

/-- The two controllers' faults that silence a channel: bus-off on CAN, and a stuck line S (R135, R136, R148, R158, R159;
the transmit error count at OFF is log entry 20's, a withdrawn frame's attempt log entry 12's). -/
def Obligations.ControllerFaultsSilenceTheirChannel : Prop :=
  BusOffSilencesTheChannel ∧ StuckLineSilencesChannelS

/-! ### Sharing the chassis (R153 to R164) -/

/-- Where a slot that parks in REFERRED, or at a boundary with its next request unsent, later resumes: the step of that request
(R46). -/
def Sys2Proof.Claim.boundaryPoint (x : Slot) : ResumePoint :=
  match x.state with
  | .referred => .refer
  | .reading => .page
  | .erasing => .erase
  | _ => if x.identified then x.resume else .identify

/-- A foreign tester request loads the channel's release hold. With tester action YIELD an OPEN channel is YIELDED at once
when its slot is FREE, with no frame left in its holding, and YIELD_PENDING when the slot's exchange unit is in progress,
which goes on; where the request names the slot's module the answers of that module are held back. A slot in REFERRED, or at
a boundary with its next request unsent, parks at once with the resume point of that step, its frames withdrawn, and the
channel is YIELDED. With action SILENCE the channel is SILENCED with cause TESTER. On a channel SILENCED already the cause
is added, with its notice, where it is not there yet; on one that is YIELD_PENDING or YIELDED with action YIELD the release
hold alone is loaded again (R46, R130, R138, R154, R156, R158, R160; that a BYE in progress is let go is log entry 12, what
parking clears beyond R46's list log entry 34). -/
def Obligations.TesterRequestsYieldOrSilence : Prop :=
  ∀ (s : State) (k : CanChannel) (address : BitVec 5), Settled s → onBus (s.canCtl k) →
    let c := k.toChannel
    (yieldsNow s c → (s.slot c).state = .free →
      ∃ t, exec (.foreignTesterRequest k address) s = .next t
        ∧ t.shareOf c = { s.shareOf c with state := .yielded, hold := some (s.setting .releaseHold) }
        ∧ (s.isSocket c = true → t.share.tgnt = true) ∧ t.share.pneed = (s.share.pneed || !(s.workList c).isEmpty)
        ∧ t.link.outbound = (noticed s (.channelEvent c .yielded none)).link.outbound
        ∧ t.waitingFrames c = [] ∧ (t.canCtl k).holding = .empty ∧ (t.canCtl k).testerHold = (s.canCtl k).testerHold
        ∧ t.slots = s.slots ∧ t.sweep = s.sweep ∧ t.table = s.table ∧ t.history = s.history ∧ OwnWork s t)
    ∧ (∀ i, yieldsNow s c → (s.slot c).module = some i →
        (s.slot c).state ≠ .free → (s.slot c).state ≠ .parked → inExchangeUnit s c →
        ∃ t, exec (.foreignTesterRequest k address) s = .next t
          ∧ t.shareOf c = { s.shareOf c with state := .yieldPending, hold := some (s.setting .releaseHold) }
          ∧ t.slots = s.slots ∧ t.share.tgnt = s.share.tgnt ∧ t.share.pneed = s.share.pneed ∧ t.link = s.link
          ∧ noneWaits t c ∧ t.frameInProgress c = s.frameInProgress c
          ∧ (t.canCtl k).testerHold =
              (if (s.entry i).address = address.toNat then some address else (s.canCtl k).testerHold)
          ∧ t.sweep = s.sweep ∧ t.table = s.table ∧ t.history = s.history ∧ OwnWork s t)
    ∧ (∀ i, yieldsNow s c → (s.slot c).module = some i → (s.slot c).state ≠ .free → (s.slot c).state ≠ .parked →
        ¬ inExchangeUnit s c →
        ∃ t, exec (.foreignTesterRequest k address) s = .next t
          ∧ t.slot c = parkedSlot (s.slot c) (boundaryPoint (s.slot c))
          ∧ t.shareOf c = { s.shareOf c with state := .yielded, hold := some (s.setting .releaseHold) }
          ∧ t.share.pneed = true ∧ (s.isSocket c = true → t.share.tgnt = true)
          ∧ t.link = (noticed s (.channelEvent c .yielded none)).link
          ∧ t.waitingFrames c = [] ∧ (t.canCtl k).holding = .empty ∧ (t.canCtl k).testerHold = none
          ∧ (∀ d, d ≠ c → t.slot d = s.slot d ∧ t.shareOf d = s.shareOf d)
          ∧ t.sweep = s.sweep ∧ t.table = s.table ∧ t.history = s.history ∧ OwnWork s t)
    ∧ ((s.shareState c = .opened ∨ s.shareState c = .yieldPending ∨ s.shareState c = .yielded) →
        s.setting (testerActionSetting c) = 1 → s.setting .autoAttention = 0 →
        ∃ t u, exec (.foreignTesterRequest k address) s = .next t
          ∧ u = s.withShareOf c { s.shareOf c with hold := some (s.setting .releaseHold) }
          ∧ Silenced u t c { tester := true })
    ∧ (s.shareState c = .standby → (s.slot c).state = .free →
        exec (.foreignTesterRequest k address) s =
          .next (s.withShareOf c { s.shareOf c with hold := some (s.setting .releaseHold) }))
    ∧ (s.shareState c = .silenced → (s.slot c).state = .free →
        let loaded := s.withShareOf c { s.shareOf c with hold := some (s.setting .releaseHold) }
        exec (.foreignTesterRequest k address) s =
          .next
            (if s.setting (testerActionSetting c) = 1 then
              causeAdded loaded c (s.shareOf c).causes.tester { (s.shareOf c).causes with tester := true } .tester
            else loaded))
    ∧ ((s.shareState c = .yieldPending ∨ s.shareState c = .yielded) → s.setting (testerActionSetting c) = 0 →
        let held (a : Nat) : Can :=
          { s.canCtl k with testerHold := if a = address.toNat then some address else (s.canCtl k).testerHold }
        let loaded (u : State) : State := u.withShareOf c { s.shareOf c with hold := some (s.setting .releaseHold) }
        ((s.slot c).state = .free ∨ (s.slot c).state = .parked →
          exec (.foreignTesterRequest k address) s = .next (loaded s))
        ∧ (∀ i, (s.slot c).module = some i → (s.slot c).state ≠ .free → (s.slot c).state ≠ .parked →
            exec (.foreignTesterRequest k address) s = .next (loaded (s.withCan k (held (s.entry i).address)))))

namespace Sys2Proof.Claim

/-- A trigger occurrence may act on these channels as a yield: their tester action is YIELD, and the slot of an OPEN one is FREE
or holds a module and is not PARKED. -/
def mayYield (s : State) (hit : Channel → Bool) : Prop :=
  ∀ c, hit c = true → s.setting (testerActionSetting c) = 0
    ∧ (s.shareState c = .opened → (s.slot c).state ≠ .free →
        (s.slot c).state ≠ .parked ∧ ∃ i, (s.slot c).module = some i)

/-- A trigger occurrence has reached these channels, their tester action YIELD: each has its release hold loaded; an OPEN one is
YIELDED with a FREE slot, YIELD_PENDING while the slot's exchange unit is in progress, and YIELDED with the slot parked from
REFERRED or a boundary, with nothing left waiting in its holding; one in another share state stays in it, and the other
channels do not change. The YIELDED notices come in the order A, B, S, and TGNT and PNEED follow (R46, R154, R156, R160). -/
def Yielded (s t : State) (hit : Channel → Bool) (before : List OutFrame) : Prop :=
  let loaded (c : Channel) (state : ShareState) : ShareChannel :=
    { s.shareOf c with state, hold := some (s.setting .releaseHold) }
  let yields : List OutFrame := [Channel.a, .b, .s].filterMap (fun c =>
    if s.shareState c == .opened && t.shareState c == .yielded then some (.notice (.channelEvent c .yielded none))
    else none)
  (∀ c, hit c = false → t.shareOf c = s.shareOf c ∧ t.slot c = s.slot c)
    ∧ (∀ c, hit c = true → s.shareState c ≠ .opened →
        t.shareOf c = loaded c (s.shareState c) ∧ t.slot c = s.slot c)
    ∧ (∀ c, hit c = true → s.shareState c = .opened →
        ((s.slot c).state = .free → t.shareOf c = loaded c .yielded ∧ t.slot c = s.slot c)
        ∧ ((s.slot c).state ≠ .free → inExchangeUnit s c →
            t.shareOf c = loaded c .yieldPending ∧ t.slot c = s.slot c ∧ t.frameInProgress c = s.frameInProgress c)
        ∧ ((s.slot c).state ≠ .free → ¬ inExchangeUnit s c →
            t.shareOf c = loaded c .yielded ∧ t.slot c = parkedSlot (s.slot c) (boundaryPoint (s.slot c)))
        ∧ noneWaits t c)
    ∧ (s.link.noticesHeld + yields.length ≤ 12 → t.link.outbound = s.link.outbound ++ before ++ yields)
    ∧ (t.share.tgnt = true ↔ ∃ c, t.isSocket c = true ∧ t.shareState c = .yielded)
    ∧ (t.share.pneed = true ↔ ∃ c, t.shareState c = .yielded ∧ ((s.slot c).state ≠ .free ∨ s.workList c ≠ []))
    ∧ t.sweep = s.sweep ∧ t.table = s.table ∧ t.history = s.history ∧ t.key = s.key ∧ t.store = s.store

/-- A trigger occurrence has reached this channel, its tester action SILENCE: its release hold is loaded; an OPEN, YIELD_PENDING
or YIELDED one is SILENCED with cause TESTER alone, its slot aborted and, in RUNNING, its list emptied with each module ABORTED;
one SILENCED already has the cause too; one in STANDBY stays there (R154, R158, R159). -/
def SilencedByTester (s t : State) (c : Channel) : Prop :=
  let loaded : ShareChannel := { s.shareOf c with hold := some (s.setting .releaseHold) }
  ((s.shareState c = .opened ∨ s.shareState c = .yieldPending ∨ s.shareState c = .yielded) →
      t.shareOf c = { loaded with state := .silenced, causes := { tester := true } } ∧ slotAborted s t c
        ∧ (s.sweep.state = .running →
            t.workList c = [] ∧ ∀ i ∈ s.workList c, (t.entry i).lastOutcome = some .aborted
              ∧ (t.entry i).lastSweep = s.sweep.number))
    ∧ (s.shareState c = .silenced →
        t.shareOf c = { loaded with causes := { loaded.causes with tester := true } } ∧ t.slot c = s.slot c)
    ∧ (s.shareState c = .standby → t.shareOf c = loaded ∧ t.slot c = s.slot c)

end Sys2Proof.Claim

/-- A change of the accepted TPRES level, in either direction, is a trigger occurrence on every channel in SOCKET_CHANNELS:
with action YIELD those that are OPEN yield; with action SILENCE they are silenced, with CHANNEL_EVENT (SILENCED, TESTER), and
one SILENCED already gains the cause TESTER, with its notice, where it is not there yet (R46, R154, R156, R158, R159, R160;
what parking clears beyond R46's list is log entry 34, and that the notices come in the order A, B, S the model's choice, log
entry 51; AUTO_ATTENTION off for a silence). A command for the level already accepted has no effect, which is log entry 1's.
-/
def Sys2Proof.Claim.TpresReachesTheSocketChannels : Prop :=
  ∀ s : State, Settled s →
    (exec (.tpresChange s.share.tpresActive) s = .next s)
    ∧ (∀ active, s.share.tpresActive ≠ active →
        (mayYield s s.isSocket → (∀ c, s.isSocket c = false → s.shareState c ≠ .yielded) →
          ∃ t, exec (.tpresChange active) s = .next t ∧ t.share.tpresActive = active ∧ t.settings = s.settings
            ∧ Yielded s t s.isSocket [])
        ∧ (s.setting .autoAttention = 0 →
            ∃ t, exec (.tpresChange active) s = .next t ∧ t.share.tpresActive = active ∧ t.settings = s.settings
              ∧ t.history = s.history ∧ t.key = s.key ∧ t.store = s.store
              ∧ ∀ c, s.isSocket c = true → s.setting (testerActionSetting c) = 1 → SilencedByTester s t c)
        ∧ (∀ c, (∀ d, s.isSocket d = true ↔ d = c) → (∀ d, d ≠ c → s.shareState d ≠ .yielded) →
            s.setting (testerActionSetting c) = 1 → s.shareState c = .silenced → (s.slot c).state = .free →
            ∃ t, exec (.tpresChange active) s = .next t
              ∧ t.link =
                  (causeAdded s c (s.shareOf c).causes.tester { (s.shareOf c).causes with tester := true } .tester).link
              ∧ t.slots = s.slots ∧ t.sweep = s.sweep ∧ t.table = s.table ∧ t.history = s.history)
        ∧ (∀ c, (∀ d, s.isSocket d = true ↔ d = c) → (∀ d, d ≠ c → s.shareState d ≠ .yielded) →
            s.setting (testerActionSetting c) = 1 → (s.shareState c = .opened ∨ s.shareState c = .yielded) →
            (s.slot c).state = .free → s.sweep.state = .idle → s.setting .autoAttention = 0 →
            ∃ t, exec (.tpresChange active) s = .next t
              ∧ t.link = (noticed s (.channelEvent c .silenced (some .tester))).link
              ∧ t.slots = s.slots ∧ t.sweep = s.sweep ∧ t.table = s.table ∧ t.history = s.history))

/-- SOCKET_CHANNELS changed by SETTINGS_PUT. While TPRES is ACTIVE it is a trigger occurrence on each channel that it adds or
takes out: with action YIELD an OPEN one yields, with action SILENCE it is silenced, the reply coming before the notices. While
TPRES is INACTIVE no channel is reached. TGNT follows the new set either way (R46, R154, R156, R158, R160, R171; log entries 34
and 51; AUTO_ATTENTION off for a silence). -/
def Sys2Proof.Claim.SocketChannelsAreAddedAndTakenOut : Prop :=
  ∀ (s : State) (v : Word16), Ready s → Settled s → ¬ pairsRefused s [(.socketChannels, v)] →
    v.toNat ≠ s.setting .socketChannels →
    let changed (c : Channel) : Bool :=
      s.share.tpresActive && ((s.setting .socketChannels).testBit (channelBit c) != v.toNat.testBit (channelBit c))
    let settings := s.settings.set SettingId.socketChannels.index v
    (mayYield s changed →
      ∃ t, exec (.settingsPut (pairsPayload [(.socketChannels, v)])) s = .next t ∧ t.settings = settings
        ∧ t.share.tpresActive = s.share.tpresActive ∧ Yielded s t changed [pairReply .socketChannels v])
    ∧ (s.setting .autoAttention = 0 →
        ∃ t, exec (.settingsPut (pairsPayload [(.socketChannels, v)])) s = .next t ∧ t.settings = settings
          ∧ t.history = s.history ∧ t.key = s.key ∧ t.store = s.store
          ∧ s.link.outbound ++ [pairReply .socketChannels v] <+: t.link.outbound
          ∧ ∀ c, changed c = true → s.setting (testerActionSetting c) = 1 → SilencedByTester s t c)

/-- The expiry of a release hold on a YIELDED channel that TPRES does not hold opens it, with CHANNEL_EVENT (RESUMED), and a
parked slot resumes with ASK_ID; any other expiry only stops the timer (R48, R157). -/
def Sys2Proof.Claim.ReleaseHoldReturnsTheChannel : Prop :=
  ∀ s : State, Settled s →
    (∀ (c : Channel) (left : Nat), (s.shareOf c).hold = some left →
        (s.shareState c ≠ .yielded ∨ (s.share.tpresActive = true ∧ s.isSocket c = true)) →
        exec (.releaseHoldTimerExpiry c) s = .next (s.withShareOf c { s.shareOf c with hold := none }))
    ∧ (∀ (c : Channel) (left : Nat), (s.shareOf c).hold = some left → s.shareState c = .yielded →
        (s.share.tpresActive = false ∨ s.isSocket c = false) →
        ∃ t, exec (.releaseHoldTimerExpiry c) s = .next t
          ∧ t.shareOf c = { s.shareOf c with state := .opened, hold := none } ∧ (∀ d, d ≠ c → t.shareOf d = s.shareOf d)
          ∧ t.link = (noticed s (.channelEvent c .resumed none)).link
          ∧ t.slot c =
              (if (s.slot c).state = .parked then
                { s.slot c with state := .identifying, idAttempt := 1 }
              else s.slot c)
          ∧ (∀ i, (s.slot c).state = .parked → (s.slot c).module = some i → nothingWaits s c →
              holds s t c (s.entry i) .askId)
          ∧ (∀ d, d ≠ c → t.slot d = s.slot d) ∧ t.sweep = s.sweep ∧ t.table = s.table ∧ t.history = s.history
          ∧ OwnWork s t)

/-- The channels of the socket: a TPRES change and a change of SOCKET_CHANNELS are trigger occurrences, with action YIELD and
with action SILENCE, and the release hold returns a YIELDED channel (R46, R48, R154, R156 to R160, R171; log entries 1, 34 and
51). -/
def Obligations.SocketChannelIsYieldedAndReturned : Prop :=
  TpresReachesTheSocketChannels ∧ SocketChannelsAreAddedAndTakenOut ∧ ReleaseHoldReturnsTheChannel

/-! ### The key (R176 to R180) -/

namespace Sys2Proof.Claim

/-- The MODULE_ENDs of a key-off, all ABORTED: those of the busy slots, then those of the modules still listed, each in the order
A, B, S (R8, R15, R50). -/
def keyOffEnds (s : State) : List OutFrame :=
  [Channel.a, .b, .s].filterMap (fun c =>
      if (s.slot c).state = .free then none
      else (s.slot c).module.map (fun i =>
        .notice (.moduleEnd i .aborted (s.slot c).pagesRead (s.slot c).refused)))
    ++ [Channel.a, .b, .s].flatMap (fun c => (s.workList c).map (fun i => .notice (.moduleEnd i .aborted 0 0)))

end Sys2Proof.Claim

/-- Key-off puts every channel in STANDBY with no silence cause, aborts every busy slot and every module still listed, ends
a sweep with SWEEP_END (KEY_OFF) after their MODULE_ENDs, stops the settle timer and clears settle expired, and returns the
CAN controllers to ACTIVE with both counts 0, no frame, no gap and no load window. Number, kind, options, marks and counts
of the sweep are kept, but for those of the modules now ABORTED, and halt taken is clear; the history, the store, the
settings and the references stay (R1, R8, R15, R138, R162, R177; that the slots end in the order A, B, S is R162's; log
entry 54). With the key already off a KEY_OFF changes nothing, which is log entry 1's, and that a KEY_OFF clears the run of
the key's filter is log entry 53's. -/
def Obligations.KeyOffPutsThePartInStandby : Prop :=
  ∀ s : State, SweepRests s →
    (s.key.on = false → exec .keyOff s = .next s)
    ∧ (s.key.on = true →
        ∃ t, exec .keyOff s = .next t
          ∧ t.key = { on := false, run := 0, settle := none, settled := false }
          ∧ (∀ c, t.shareState c = .standby ∧ (t.shareOf c).causes = {} ∧ (t.shareOf c).hold = (s.shareOf c).hold)
          ∧ t.share.tgnt = false ∧ t.share.pneed = false
          ∧ (∀ c, (t.slot c).state = .free ∧ ((s.slot c).state ≠ .free → t.slot c = {}) ∧ t.waitingFrames c = []
              ∧ t.workList c = [])
          ∧ t.sweep.state = .idle ∧ t.sweep.haltTaken = false ∧ t.sweep.number = s.sweep.number
          ∧ t.sweep.kind = s.sweep.kind ∧ t.sweep.options = s.sweep.options
          ∧ t.sweep.appended = s.sweep.appended
          ∧ (∀ i : ModuleIndex, t.sweep.reached[i] = (s.sweep.reached[i] || s.inSlot i || s.listed i))
          ∧ (∀ o : Fin 11, o ≠ 10 → t.sweep.counts[o] = s.sweep.counts[o])
          ∧ (s.sweep.counts[(10 : Fin 11)] ≤ 255 →
              t.sweep.counts[(10 : Fin 11)] = min 255 (s.sweep.counts[(10 : Fin 11)] + (keyOffEnds s).length))
          ∧ t.sweep.created = s.sweep.created ∧ t.sweep.updated = s.sweep.updated
          ∧ t.sweep.refused = s.sweep.refused
          ∧ (s.sweep.state ≠ .idle → s.link.noticesHeld + (keyOffEnds s).length < 12 →
              t.link.outbound =
                s.link.outbound ++ keyOffEnds s ++
                  [.notice (.sweepEnd .keyOff s.sweep.number s.sweep.kind t.sweep.counts s.sweep.created
                    s.sweep.updated s.sweep.refused)])
          ∧ (∀ i, (s.inSlot i = true ∨ s.listed i = true) →
              (t.entry i).lastOutcome = some .aborted ∧ (t.entry i).lastSweep = s.sweep.number)
          ∧ (∀ i, s.inSlot i = false → s.listed i = false → t.entry i = s.entry i)
          ∧ (s.sweep.state = .idle → t.link = s.link ∧ t.sweep = s.sweep)
          ∧ (∀ k : CanChannel, (t.canCtl k).errorState = .active ∧ (t.canCtl k).transmitErrors = 0
              ∧ (t.canCtl k).receiveErrors = 0 ∧ (t.canCtl k).holding = .empty ∧ (t.canCtl k).gap = none
              ∧ (t.canCtl k).window = none ∧ (t.canCtl k).testerHold = none ∧ (t.canCtl k).verdict = .quiet)
          ∧ t.line.receiver = .off ∧ t.line.echoMismatches = 0 ∧ t.line.holding = none
          ∧ t.history = s.history ∧ t.store = s.store ∧ t.settings = s.settings ∧ t.clock = s.clock)

namespace Sys2Proof.Claim

/-- The share items of a channel after key-on and the notice it queues, by the first row of R163 that applies. -/
def awakened (s : State) (c : Channel) : ShareChannel × Option ChannelEvent × Option Cause :=
  let silenced (cause : Cause) (causes : Causes) : ShareChannel × Option ChannelEvent × Option Cause :=
    ({ s.shareOf c with state := .silenced, causes }, some .silenced, some cause)
  let triggered : ShareChannel × Option ChannelEvent × Option Cause :=
    if s.yieldTrigger c then
      if s.setting (testerActionSetting c) = 1 then silenced .tester { tester := true }
      else ({ s.shareOf c with state := .yielded }, some .yielded, none)
    else ({ s.shareOf c with state := .opened }, none, none)
  match c with
  | .a =>
    if s.can.a.errorState = .active ∨ s.can.a.errorState = .passive then triggered
    else silenced .busOff { busOff := true }
  | .b =>
    if s.can.b.errorState = .active ∨ s.can.b.errorState = .passive then triggered
    else silenced .busOff { busOff := true }
  | .s => if s.line.stuck then silenced .lineStuck { lineStuck := true } else triggered

end Sys2Proof.Claim

/-- Key-on decides each channel's state, in the order A, B, S: SILENCED with its cause where its controller is off the bus
or the line is stuck, else SILENCED with cause TESTER or YIELDED where a yield trigger is present, as its tester action
says, and OPEN otherwise, each but the last with its notice; TGNT and PNEED follow. It takes the CAN rates, starts fresh
load windows on the controllers on the bus and loads the settle timer from KEYON_SETTLE. Slots, sweep, tables and history
stay (R138, R160, R163, R178; the run of the key's filter is log entry 53's). -/
def Sys2Proof.Claim.KeyOnDecidesEachChannel : Prop :=
  ∀ s : State, s.key.on = false →
    let notices : List OutFrame := [Channel.a, .b, .s].filterMap (fun c =>
      (awakened s c).2.1.map (fun e => .notice (.channelEvent c e (awakened s c).2.2)))
    ∃ t, exec .keyOn s = .next t
      ∧ t.key = { s.key with on := true, run := 0, settle := some (s.setting .keyOnSettle * 1000) }
      ∧ (∀ c, t.shareOf c = (awakened s c).1)
      ∧ (s.link.noticesHeld + notices.length ≤ 12 → t.link = { s.link with outbound := s.link.outbound ++ notices })
      ∧ t.share.tgnt = t.tgntValue ∧ t.share.pneed = t.pneedValue
      ∧ (∀ k : CanChannel, (t.canCtl k).rate = CanRate.ofKbit (s.setting (rateSetting k))
          ∧ (onBus (s.canCtl k) → (t.canCtl k).window = some 100 ∧ (t.canCtl k).windowCount = 0
              ∧ (t.canCtl k).verdict = .quiet))
      ∧ t.slots = s.slots ∧ t.sweep = s.sweep ∧ t.table = s.table ∧ t.history = s.history ∧ t.store = s.store
      ∧ t.settings = s.settings ∧ t.clock = s.clock ∧ t.line = s.line

/-- The expiry of the settle timer sets settle expired; with AUTO_KEYON on or KSW latched, and the controller IDLE, it
starts a sweep of kind KEY_ON over every entry in use with the options of DEFAULT_OPTIONS: those on SILENCED channels, and
the sleepy ones where the options leave sleepers out, are given SKIPPED, and the others stand on their channels' lists in
ascending index; where neither calls for a sweep and AUTO_ATTENTION is off nothing else changes, and neither does it while a
sweep runs or halts, whatever they call for (R5, R19, R20, R178; a module to place, for the sweep to go on). -/
def Sys2Proof.Claim.SettleExpiryStartsTheKeyOnSweep : Prop :=
  ∀ (s : State) (left : Nat), Settled s → SweepRests s → s.key.settle = some left →
    (s.sweep.state ≠ .idle →
      exec .settleTimerExpiry s = .next { s with key := { s.key with settle := none, settled := true } })
    ∧ (s.sweep.state = .idle → s.setting .autoKeyOn = 0 → s.straps.ksw = false → s.setting .autoAttention = 0 →
      exec .settleTimerExpiry s = .next { s with key := { s.key with settle := none, settled := true } })
    ∧ (s.sweep.state = .idle → (s.setting .autoKeyOn = 1 ∨ s.straps.ksw = true) →
        (∃ i, (s.entry i).inUse = true ∧ ¬ skippedByDefault s i) →
        ∃ t, exec .settleTimerExpiry s = .next t
          ∧ t.key = { s.key with settle := none, settled := true }
          ∧ t.sweep.state = .running ∧ t.sweep.kind = .keyOn ∧ t.sweep.number = s.sweep.number + 1
          ∧ t.sweep.options = SweepOptions.ofBits (s.setting .defaultOptions)
          ∧ (∀ c i, i ∈ t.workList c ↔
              (s.entry i).inUse = true ∧ ¬ skippedByDefault s i ∧ (s.entry i).channel = c)
          ∧ (∀ c, (t.workList c).Pairwise (· < ·))
          ∧ (∀ i, (s.entry i).inUse = true → skippedByDefault s i →
              (t.entry i).lastOutcome = some .skipped ∧ (t.entry i).lastSweep = s.sweep.number + 1)
          ∧ t.slots = s.slots ∧ t.history = s.history ∧ t.store = s.store ∧ t.settings = s.settings
          ∧ t.clock = s.clock ∧ s.link.outbound <+: t.link.outbound)

/-- Key-on, and the settle time that follows it (R20, R163, R178; log entry 53). -/
def Obligations.KeyOnAndSettleExpiry : Prop :=
  KeyOnDecidesEachChannel ∧ SettleExpiryStartsTheKeyOnSweep

/-- A full reset puts every item at its reset value with the straps latched and the key at its pin's level: tables, store,
history and queues empty, every setting at its default, every slot FREE, the channels OPEN with the key on and in STANDBY
with it off, the settle timer loaded with 3 s when the key is on, every mark, count, cause and filter run clear, every timer
of line S stopped but the release timer (R1, R21, R52, R66, R91, R92, R107, R126, R139, R153, R165, R171, R176, R180; that
the line is HIGH is log entry 7's, and that the queue of commands is kept log entry 41's; the load window is log entry
42's). -/
def Sys2Proof.Claim.FullResetValues : Prop :=
  ∀ (s : State) (p : ResetPins),
    ∃ t, exec (.fullReset p) s = .next t
      ∧ t.sweep.state = .idle ∧ t.sweep.number = 0 ∧ t.sweep.kind = .host ∧ t.sweep.options = ⟨false, false⟩
      ∧ t.sweep.haltTaken = false ∧ (∀ i : ModuleIndex, t.sweep.reached[i] = false ∧ t.sweep.appended[i] = false)
      ∧ (∀ o : Fin 11, t.sweep.counts[o] = 0) ∧ t.sweep.created = 0 ∧ t.sweep.updated = 0 ∧ t.sweep.refused = 0
      ∧ (∀ c, t.workList c = [] ∧ t.slot c = {} ∧ t.waitingFrames c = [])
      ∧ (∀ i, t.entry i = {}) ∧ (∀ n : Fin 12, t.store.loaded[n] = none) ∧ t.store.bindings = []
      ∧ t.clock = { t := 0, tSet := false, ms := 0, d := 0, dSet := false }
      ∧ t.history = { records := [], next := 1, poolUsed := 0 }
      ∧ (∀ k, (t.canCtl k).errorState = .active ∧ (t.canCtl k).transmitErrors = 0 ∧ (t.canCtl k).receiveErrors = 0
          ∧ (t.canCtl k).pace = 10 ∧ (t.canCtl k).verdict = .quiet ∧ (t.canCtl k).holding = .empty
          ∧ (t.canCtl k).requestBase = 0x6A0 ∧ (t.canCtl k).responseBase = 0x6C0 ∧ (t.canCtl k).rate = .k250
          ∧ (t.canCtl k).idleSequences = 0 ∧ (t.canCtl k).gap = none ∧ (t.canCtl k).pacePending = none
          ∧ (t.canCtl k).verdictPending = none ∧ (t.canCtl k).windowCount = 0 ∧ (t.canCtl k).lastWindow = 0
          ∧ (t.canCtl k).testerHold = none
          ∧ (t.canCtl k).window = (if p.key then some 100 else none))
      ∧ t.line.level = .high ∧ t.line.filterRun = 0 ∧ t.line.transmitter = .idle ∧ t.line.holding = none
      ∧ t.line.wakeLeft = none ∧ t.line.turnaround = none ∧ t.line.receiver = .off ∧ t.line.measuredSpan = none
      ∧ t.line.buffer = []
      ∧ t.line.echoMismatches = 0 ∧ t.line.stuckTimer = none ∧ t.line.stuck = false ∧ t.line.stuckClear = none
      ∧ t.line.detector = .release ∧ t.line.width = 0 ∧ t.line.release = some 10
      ∧ (∀ c, t.shareOf c = { state := if p.key then .opened else .standby, causes := {}, hold := none })
      ∧ t.share.tpresActive = false ∧ t.share.debounce = 0 ∧ t.share.tgnt = false ∧ t.share.pneed = false
      ∧ t.link.requests = [] ∧ t.link.outbound = [] ∧ t.link.noticesLost = false ∧ t.link.assembler = {}
      ∧ t.settings = #v[0, 0, 2, 3, 4, 2000, 10, 0x6A0, 0x6C0, 0x6A0, 0x6C0, 250, 250, 10, 10, 60, 60, 2, 0, 1, 0, 0, 0,
          2000, 1]
      ∧ t.key.on = p.key ∧ t.key.run = 0 ∧ t.key.settle = (if p.key then some 3000 else none) ∧ t.key.settled = false
      ∧ t.straps = { br1 := p.br1, br0 := p.br0, ksw := p.ksw } ∧ t.pending = s.pending

/-- An expiry of a timer that does not run changes nothing: of the slots' four timers, of a CAN controller's gap and window,
of the turnaround, stuck, stuck clear and release timers of line S, of the release holds, of the settle timer and of the
host link's gap timer; nor does that of the release timer while the line is LOW, even where an engine reset has loaded it:
that it then does not run, though R139 has it running with 10 ms, is the model's reading of R151 (log entry 23). A timer
that is stopped cannot expire; that its expiry as a command is then without effect is the model's choice (log entry 1). -/
def Sys2Proof.Claim.StoppedTimersDoNotExpire : Prop :=
  ∀ (s : State), Settled s →
    (∀ c, ((s.slot c).response = none → exec (.responseTimerExpiry c) s = .next s)
      ∧ ((s.slot c).boot = none → exec (.bootTimerExpiry c) s = .next s)
      ∧ ((s.slot c).keepAwake = none → exec (.keepAwakeTimerExpiry c) s = .next s)
      ∧ ((s.slot c).referral = none → exec (.referralTimerExpiry c) s = .next s)
      ∧ ((s.shareOf c).hold = none → exec (.releaseHoldTimerExpiry c) s = .next s))
    ∧ (∀ k, ((s.canCtl k).gap = none → exec (.gapTimerExpiry k) s = .next s)
        ∧ ((s.canCtl k).window = none → exec (.windowTimerExpiry k) s = .next s))
    ∧ (s.line.transmitter ≠ .turnaround → exec .turnaroundTimerExpiry s = .next s)
    ∧ (s.line.stuckTimer = none → exec .stuckTimerExpiry s = .next s)
    ∧ (s.line.stuckClear = none → exec .stuckClearTimerExpiry s = .next s)
    ∧ (s.line.release = none ∨ s.line.level = .low → exec .releaseTimerExpiry s = .next s)
    ∧ (s.link.assembler.gap = none → exec .hostGapTimerExpiry s = .next s)
    ∧ (s.key.settle = none → exec .settleTimerExpiry s = .next s)

/-- A service that the slot ignores, or that does not reach it, changes nothing, and neither does the expiry of a stopped timer
(R24, R30, R129, R130; log entry 1; the release timer on a LOW line: log entry 23). -/
def Obligations.WhatCannotHappenChangesNothing : Prop :=
  IgnoredServicesChangeNothing ∧ StoppedTimersDoNotExpire

/-! ### The timebase (R179) and the filters (R140, R154, R176) -/

namespace Sys2Proof.Claim

/-- A running timer with one millisecond less. -/
def lessMs (t : Option Nat) : Option Nat := t.map (· - 1)

/-- A slot's timers one millisecond on; a wait is one millisecond older (R25 to R28, R33). -/
def slotMsOn (x : Slot) : Slot :=
  { x with
    response := x.response.map (fun w => { left := w.left - 1, since := w.since + 1 }), boot := lessMs x.boot,
    keepAwake := x.keepAwake.map (fun k => { k with left := k.left - 1 }), referral := lessMs x.referral }

/-- A frame that waits for its earliest start, one millisecond on (R132). -/
def frameMsOn (f : TxFrame) : TxFrame := { f with earliest := lessMs f.earliest }

/-- A CAN controller's gap and window timers, and the earliest start of a frame it holds, one millisecond on (R132, R134). -/
def canMsOn (x : Can) : Can :=
  { x with
    gap := lessMs x.gap, window := lessMs x.window,
    holding := match x.holding with | .waiting f => .waiting (frameMsOn f) | h => h }

/-- The fifths of a bit time in one millisecond at the line rate of what the part last drove on line S: 2.4 bit times at 2400
bit/s, 19.2 at 19 200 (R144). -/
def turnaroundFifths (l : Line) : Nat :=
  match l.driveRate with
  | some .r2400 => 12
  | some .r4800 => 24
  | some .r9600 => 48
  | _ => 96

/-- Line S one millisecond on: its timers, that of the turnaround in fifths of a bit time, the release timer on an idle line
alone; the width of a capture by four units; and the idle time, 307 sample periods of 19 200 bit/s more on an idle line that
the part does not drive (R142, R144, R147, R148, R149, R151; log entries 10 and 55). -/
def lineMsOn (l : Line) : Line :=
  { l with
    wakeLeft := lessMs l.wakeLeft, turnaround := l.turnaround.map (· - turnaroundFifths l),
    stuckTimer := lessMs l.stuckTimer, stuckClear := lessMs l.stuckClear,
    release := if l.level = .high then lessMs l.release else l.release,
    idleTime :=
      if l.transmitter = .sending ∨ l.transmitter = .drivingWake then 0
      else if l.level = .high then min 1280 (l.idleTime + 307) else l.idleTime,
    width := if l.detector = .capture then l.width + 4 else l.width }

/-- The part one millisecond on, where nothing falls due: every timer counted down by one, the two filters counted, and chassis
time counted while the key is on (R91, R154, R176, R179). -/
def msOn (s : State) : State :=
  { s with
    slots := ⟨slotMsOn s.slots.a, slotMsOn s.slots.b, slotMsOn s.slots.s⟩,
    toHand := ⟨s.toHand.a.map frameMsOn, s.toHand.b.map frameMsOn, s.toHand.s.map frameMsOn⟩,
    can := ⟨canMsOn s.can.a, canMsOn s.can.b⟩,
    line := lineMsOn s.line,
    share :=
      { s.share with
        channels :=
          ⟨{ s.share.channels.a with hold := lessMs s.share.channels.a.hold },
            { s.share.channels.b with hold := lessMs s.share.channels.b.hold },
            { s.share.channels.s with hold := lessMs s.share.channels.s.hold }⟩,
        debounce := if s.share.tpresActive = !s.pins.tpres then 0 else s.share.debounce + 1 },
    link := { s.link with assembler := { s.link.assembler with gap := lessMs s.link.assembler.gap } },
    clock := if s.key.on then { s.clock with ms := s.clock.ms + 1 } else s.clock,
    key :=
      { s.key with
        run := if s.pins.key = s.key.on then 0 else s.key.run + 1, settle := lessMs s.key.settle } }

/-- A timer that runs on for more than one millisecond, or does not run. -/
def notDue (t : Option Nat) : Prop := ∀ n, t = some n → 2 ≤ n

/-- The part is left to itself: no command waits, and the handler takes no request (log entry 2). -/
def leftToItself (s : State) : Prop :=
  s.pending = [] ∧ (s.link.requests = [] ∨ s.link.inService ≠ none ∨ 4 ≤ s.link.repliesHeld)

/-- A tick at which nothing falls due: no timer expires, no filter runs to its end, no second of chassis time completes, no
capture passes 268, and line S's samples agree with its level. -/
def QuietTick (s : State) : Prop :=
  leftToItself s ∧ Settled s
    ∧ (∀ c, notDue ((s.slot c).response.map ResponseTimer.left) ∧ notDue (s.slot c).boot
        ∧ notDue ((s.slot c).keepAwake.map AutoTimer.left) ∧ notDue (s.slot c).referral ∧ notDue (s.shareOf c).hold)
    ∧ (∀ k, notDue (s.canCtl k).gap ∧ notDue (s.canCtl k).window)
    ∧ notDue s.line.stuckTimer ∧ notDue s.line.stuckClear ∧ notDue s.line.release ∧ notDue s.link.assembler.gap
    ∧ notDue s.line.wakeLeft ∧ (∀ n, s.line.turnaround = some n → turnaroundFifths s.line < n)
    ∧ notDue s.key.settle ∧ s.line.filterRun = 0 ∧ (s.line.detector = .capture → s.line.width + 4 ≤ 268)
    ∧ (s.pins.key = s.key.on ∨ s.key.run + 1 < 50)
    ∧ (s.share.tpresActive = (!s.pins.tpres) ∨ s.share.debounce + 1 < 10)
    ∧ (s.key.on = true → s.clock.ms + 1 < 1000)

end Sys2Proof.Claim

/-- A tick at which nothing falls due counts every running timer down by one millisecond and both filters and chassis time
on, and does nothing else. A timer of which one millisecond is left expires in the tick: the four timers of a slot, the
release holds, the CAN gap and window timers, the release, stuck and stuck clear timers, the settle timer and the host
link's gap timer, nothing else being due, do what their expiry commands do. So does a wake pattern of whose 25 ms one is left,
and a turnaround of which no more is left than the bit times of one millisecond (R25, R27, R28, R34, R91, R132, R134, R144,
R147, R148, R151, R154, R166, R176, R178, R179; what an idle step is, the order within a tick, and the turnaround that ends
with a tick are log entries 2, 3, 10 and 55). -/
def Sys2Proof.Claim.TicksCountTheTimers : Prop :=
  ∀ s : State, QuietTick s →
    step s = .next (msOn s)
    ∧ (∀ c since,
        let u := s.withSlot c { s.slot c with response := some { left := 1, since } }
        step u = exec (.responseTimerExpiry c) (msOn u))
    ∧ (∀ c,
        let u := s.withSlot c { s.slot c with boot := some 1 }
        step u = exec (.bootTimerExpiry c) (msOn u))
    ∧ (∀ c period, 1 ≤ period →
        let u := s.withSlot c { s.slot c with keepAwake := some { left := 1, period } }
        step u = exec (.keepAwakeTimerExpiry c) (msOn u))
    ∧ (∀ c,
        let u := s.withSlot c { s.slot c with referral := some 1 }
        step u = exec (.referralTimerExpiry c) (msOn u))
    ∧ (∀ c,
        let u := s.withShareOf c { s.shareOf c with hold := some 1 }
        step u = exec (.releaseHoldTimerExpiry c) (msOn u))
    ∧ (let u := s.withLine { s.line with stuckTimer := some 1 }
       step u = exec .stuckTimerExpiry (msOn u))
    ∧ (let u := s.withLine { s.line with transmitter := .drivingWake, wakeLeft := some 1 }
       step u = exec .wakePatternEnd (msOn u))
    ∧ (∀ n, n ≤ turnaroundFifths s.line →
        let u := s.withLine { s.line with transmitter := .turnaround, turnaround := some n }
        step u = exec .turnaroundTimerExpiry (msOn u))
    ∧ (∀ k,
        let u := s.withCan k { s.canCtl k with gap := some 1 }
        step u = exec (.gapTimerExpiry k) (msOn u))
    ∧ (∀ k,
        let u := s.withCan k { s.canCtl k with window := some 1 }
        step u = exec (.windowTimerExpiry k) (msOn u))
    ∧ (s.line.level = .high →
        let u := s.withLine { s.line with detector := .release, release := some 1 }
        step u = exec .releaseTimerExpiry (msOn u))
    ∧ (let u := s.withLine { s.line with stuckClear := some 1 }
       step u = exec .stuckClearTimerExpiry (msOn u))
    ∧ (let u := { s with key := { s.key with settle := some 1 } }
       step u = exec .settleTimerExpiry (msOn u))
    ∧ (let u := { s with link := { s.link with assembler := { s.link.assembler with gap := some 1 } } }
       step u = exec .hostGapTimerExpiry (msOn u))

/-- At each tick the KEY filter counts a tick on which the pin disagrees with the key state, returns to 0 on one on which it
agrees, and on the fiftieth in a row the key state takes the pin's level; the TPRES debounce does the same with ten (the pin is
active low); and with the key on and steady the millisecond count rises, and at 1000 returns to 0 as T rises by one (R91, R154,
R176; what an idle step is, is log entry 2). -/
def Sys2Proof.Claim.TicksRunTheFilters : Prop :=
  ∀ s : State, leftToItself s →
    ∃ t, step s = .next t
      ∧ (s.pins.key = s.key.on → t.key.on = s.key.on ∧ t.key.run = 0)
      ∧ (s.pins.key ≠ s.key.on →
          (s.key.run + 1 < 50 → t.key.on = s.key.on ∧ t.key.run = s.key.run + 1)
          ∧ (50 ≤ s.key.run + 1 → t.key.on = s.pins.key ∧ t.key.run = 0))
      ∧ (s.share.tpresActive = (!s.pins.tpres) → t.share.tpresActive = s.share.tpresActive ∧ t.share.debounce = 0)
      ∧ (s.share.tpresActive ≠ (!s.pins.tpres) →
          (s.share.debounce + 1 < 10 →
            t.share.tpresActive = s.share.tpresActive ∧ t.share.debounce = s.share.debounce + 1)
          ∧ (10 ≤ s.share.debounce + 1 → t.share.tpresActive = (!s.pins.tpres) ∧ t.share.debounce = 0))
      ∧ (s.pins.key = s.key.on →
          t.clock =
            (if s.key.on = false then s.clock
            else if s.clock.ms + 1 < 1000 then { s.clock with ms := s.clock.ms + 1 }
            else { s.clock with ms := 0, t := BitVec.ofNat 32 (min (2 ^ 32 - 1) (s.clock.t.toNat + 1)) }))
      ∧ t.pins = s.pins

/-- One tick of the timebase, and the three filters: of line S by its samples, of KEY and TPRES by the ticks (R140, R154, R176,
R179; log entries 2, 3, 10 and 55). -/
def Obligations.TicksAndSamplesAreCounted : Prop :=
  TicksCountTheTimers ∧ TicksRunTheFilters ∧ SamplesMoveTheFilteredLevel

/-! ### What every step keeps -/

namespace Sys2Proof.Claim

/-- What a step leaves: nothing to settle, a controller at rest with the key off, and lists and slots at rest in IDLE. -/
def AtRest (s : State) : Prop := Settled s ∧ KeyOffRests s ∧ SweepRests s

end Sys2Proof.Claim

/-- Every step keeps the queues of the host link within their bounds: at most 4 requests wait, at most 12 notices and at most
4 replies are held, and no request is left in service (R165, R167, R168). -/
def Obligations.QueuesStayBounded : Prop :=
  ∀ s t : State, s.link.bounded → step s = .next t → t.link.bounded

/-- Every step keeps the form of the history table: at most 384 records in ascending number, no two with the same module and
code, no number 0, no GONE record SIGHTED, and pool bytes in use equal to the snapshot bytes held, at most 3072 (R105 to
R110). -/
def Obligations.HistoryStaysSound : Prop :=
  ∀ s t : State, s.history.wf → step s = .next t → t.history.wf

/-- Every step keeps every setting in its range and the two bases of each CAN channel different, and the binding list sorted,
within 16 bindings, and naming only occupied slots (R74, R127, R171). -/
def Obligations.SettingsAndStoreStayLegal : Prop :=
  ∀ s t : State, step s = .next t →
    (s.legalSettings → t.legalSettings) ∧ (StoreSound s.store → StoreSound t.store)

/-- Every step settles what it began: afterwards no channel is YIELD_PENDING over a slot that is FREE or PARKED, no sweep has
met its end condition, TGNT and PNEED are as R160 gives them, a controller in IDLE has empty lists, FREE slots and halt taken
clear (log entry 54), and with the key off no sweep exists (R1, R12, R13, R15, R156, R160). -/
def Obligations.EveryStepComesToRest : Prop :=
  ∀ s t : State, AtRest s → step s = .next t → AtRest t

/-- The state after reset has all that every step keeps: bounded queues, a sound history, legal settings, a sound store, and
nothing to settle. -/
def Sys2Proof.Claim.ResetHasWhatEveryStepKeeps : Prop :=
  State.reset.link.bounded ∧ State.reset.history.wf ∧ State.reset.legalSettings ∧ StoreSound State.reset.store
    ∧ AtRest State.reset


/-- The values after a full reset, and that the reset state has all that every step keeps (R180; the pin levels of the reset
state are log entry 7's, the kept queue of commands log entry 41's, the load window log entry 42's, halt taken in IDLE log
entry 54's). -/
def Obligations.ResetValuesAndWhatHoldsThere : Prop :=
  FullResetValues ∧ ResetHasWhatEveryStepKeeps
end

