-- ==== Sys2Proof/Laws/State.lean ====
section
/-! SUPPORT. Reading a field after an update: one lemma per field an update leaves, so that no proof unfolds a record
update; and reading back the value an update wrote. -/

namespace Sys2Proof.Machine

/-! ### One value per channel -/

@[simp] theorem PerChannel.get_set_same {α : Type} (p : PerChannel α) (c : Channel) (x : α) :
    (p.set c x).get c = x := by cases c <;> rfl

theorem PerChannel.get_set_other {α : Type} (p : PerChannel α) {c d : Channel} (h : d ≠ c) (x : α) :
    (p.set c x).get d = p.get d := by cases c <;> cases d <;> first | rfl | exact absurd rfl h

@[simp] theorem PerCan.get_set_same {α : Type} (p : PerCan α) (c : CanChannel) (x : α) :
    (p.set c x).get c = x := by cases c <;> rfl

theorem PerCan.get_set_other {α : Type} (p : PerCan α) {c d : CanChannel} (h : d ≠ c) (x : α) :
    (p.set c x).get d = p.get d := by cases c <;> cases d <;> first | rfl | exact absurd rfl h

/-! ### The fields an update leaves -/

@[simp] theorem State.sweep_withSlot (s : State) (c : Channel) (x : Slot) : (s.withSlot c x).sweep = s.sweep := rfl
@[simp] theorem State.toHand_withSlot (s : State) (c : Channel) (x : Slot) : (s.withSlot c x).toHand = s.toHand := rfl
@[simp] theorem State.table_withSlot (s : State) (c : Channel) (x : Slot) : (s.withSlot c x).table = s.table := rfl
@[simp] theorem State.store_withSlot (s : State) (c : Channel) (x : Slot) : (s.withSlot c x).store = s.store := rfl
@[simp] theorem State.clock_withSlot (s : State) (c : Channel) (x : Slot) : (s.withSlot c x).clock = s.clock := rfl
@[simp] theorem State.history_withSlot (s : State) (c : Channel) (x : Slot) : (s.withSlot c x).history = s.history := rfl
@[simp] theorem State.can_withSlot (s : State) (c : Channel) (x : Slot) : (s.withSlot c x).can = s.can := rfl
@[simp] theorem State.line_withSlot (s : State) (c : Channel) (x : Slot) : (s.withSlot c x).line = s.line := rfl
@[simp] theorem State.share_withSlot (s : State) (c : Channel) (x : Slot) : (s.withSlot c x).share = s.share := rfl
@[simp] theorem State.link_withSlot (s : State) (c : Channel) (x : Slot) : (s.withSlot c x).link = s.link := rfl
@[simp] theorem State.settings_withSlot (s : State) (c : Channel) (x : Slot) : (s.withSlot c x).settings = s.settings := rfl
@[simp] theorem State.key_withSlot (s : State) (c : Channel) (x : Slot) : (s.withSlot c x).key = s.key := rfl
@[simp] theorem State.straps_withSlot (s : State) (c : Channel) (x : Slot) : (s.withSlot c x).straps = s.straps := rfl
@[simp] theorem State.pins_withSlot (s : State) (c : Channel) (x : Slot) : (s.withSlot c x).pins = s.pins := rfl
@[simp] theorem State.pending_withSlot (s : State) (c : Channel) (x : Slot) : (s.withSlot c x).pending = s.pending := rfl

@[simp] theorem State.sweep_withWaitingFrames (s : State) (c : Channel) (x : List TxFrame) : (s.withWaitingFrames c x).sweep = s.sweep := rfl
@[simp] theorem State.slots_withWaitingFrames (s : State) (c : Channel) (x : List TxFrame) : (s.withWaitingFrames c x).slots = s.slots := rfl
@[simp] theorem State.table_withWaitingFrames (s : State) (c : Channel) (x : List TxFrame) : (s.withWaitingFrames c x).table = s.table := rfl
@[simp] theorem State.store_withWaitingFrames (s : State) (c : Channel) (x : List TxFrame) : (s.withWaitingFrames c x).store = s.store := rfl
@[simp] theorem State.clock_withWaitingFrames (s : State) (c : Channel) (x : List TxFrame) : (s.withWaitingFrames c x).clock = s.clock := rfl
@[simp] theorem State.history_withWaitingFrames (s : State) (c : Channel) (x : List TxFrame) : (s.withWaitingFrames c x).history = s.history := rfl
@[simp] theorem State.can_withWaitingFrames (s : State) (c : Channel) (x : List TxFrame) : (s.withWaitingFrames c x).can = s.can := rfl
@[simp] theorem State.line_withWaitingFrames (s : State) (c : Channel) (x : List TxFrame) : (s.withWaitingFrames c x).line = s.line := rfl
@[simp] theorem State.share_withWaitingFrames (s : State) (c : Channel) (x : List TxFrame) : (s.withWaitingFrames c x).share = s.share := rfl
@[simp] theorem State.link_withWaitingFrames (s : State) (c : Channel) (x : List TxFrame) : (s.withWaitingFrames c x).link = s.link := rfl
@[simp] theorem State.settings_withWaitingFrames (s : State) (c : Channel) (x : List TxFrame) : (s.withWaitingFrames c x).settings = s.settings := rfl
@[simp] theorem State.key_withWaitingFrames (s : State) (c : Channel) (x : List TxFrame) : (s.withWaitingFrames c x).key = s.key := rfl
@[simp] theorem State.straps_withWaitingFrames (s : State) (c : Channel) (x : List TxFrame) : (s.withWaitingFrames c x).straps = s.straps := rfl
@[simp] theorem State.pins_withWaitingFrames (s : State) (c : Channel) (x : List TxFrame) : (s.withWaitingFrames c x).pins = s.pins := rfl
@[simp] theorem State.pending_withWaitingFrames (s : State) (c : Channel) (x : List TxFrame) : (s.withWaitingFrames c x).pending = s.pending := rfl

@[simp] theorem State.sweep_withEntry (s : State) (i : ModuleIndex) (x : Entry) : (s.withEntry i x).sweep = s.sweep := rfl
@[simp] theorem State.slots_withEntry (s : State) (i : ModuleIndex) (x : Entry) : (s.withEntry i x).slots = s.slots := rfl
@[simp] theorem State.toHand_withEntry (s : State) (i : ModuleIndex) (x : Entry) : (s.withEntry i x).toHand = s.toHand := rfl
@[simp] theorem State.store_withEntry (s : State) (i : ModuleIndex) (x : Entry) : (s.withEntry i x).store = s.store := rfl
@[simp] theorem State.clock_withEntry (s : State) (i : ModuleIndex) (x : Entry) : (s.withEntry i x).clock = s.clock := rfl
@[simp] theorem State.history_withEntry (s : State) (i : ModuleIndex) (x : Entry) : (s.withEntry i x).history = s.history := rfl
@[simp] theorem State.can_withEntry (s : State) (i : ModuleIndex) (x : Entry) : (s.withEntry i x).can = s.can := rfl
@[simp] theorem State.line_withEntry (s : State) (i : ModuleIndex) (x : Entry) : (s.withEntry i x).line = s.line := rfl
@[simp] theorem State.share_withEntry (s : State) (i : ModuleIndex) (x : Entry) : (s.withEntry i x).share = s.share := rfl
@[simp] theorem State.link_withEntry (s : State) (i : ModuleIndex) (x : Entry) : (s.withEntry i x).link = s.link := rfl
@[simp] theorem State.settings_withEntry (s : State) (i : ModuleIndex) (x : Entry) : (s.withEntry i x).settings = s.settings := rfl
@[simp] theorem State.key_withEntry (s : State) (i : ModuleIndex) (x : Entry) : (s.withEntry i x).key = s.key := rfl
@[simp] theorem State.straps_withEntry (s : State) (i : ModuleIndex) (x : Entry) : (s.withEntry i x).straps = s.straps := rfl
@[simp] theorem State.pins_withEntry (s : State) (i : ModuleIndex) (x : Entry) : (s.withEntry i x).pins = s.pins := rfl
@[simp] theorem State.pending_withEntry (s : State) (i : ModuleIndex) (x : Entry) : (s.withEntry i x).pending = s.pending := rfl

@[simp] theorem State.sweep_withCan (s : State) (k : CanChannel) (x : Can) : (s.withCan k x).sweep = s.sweep := rfl
@[simp] theorem State.slots_withCan (s : State) (k : CanChannel) (x : Can) : (s.withCan k x).slots = s.slots := rfl
@[simp] theorem State.toHand_withCan (s : State) (k : CanChannel) (x : Can) : (s.withCan k x).toHand = s.toHand := rfl
@[simp] theorem State.table_withCan (s : State) (k : CanChannel) (x : Can) : (s.withCan k x).table = s.table := rfl
@[simp] theorem State.store_withCan (s : State) (k : CanChannel) (x : Can) : (s.withCan k x).store = s.store := rfl
@[simp] theorem State.clock_withCan (s : State) (k : CanChannel) (x : Can) : (s.withCan k x).clock = s.clock := rfl
@[simp] theorem State.history_withCan (s : State) (k : CanChannel) (x : Can) : (s.withCan k x).history = s.history := rfl
@[simp] theorem State.line_withCan (s : State) (k : CanChannel) (x : Can) : (s.withCan k x).line = s.line := rfl
@[simp] theorem State.share_withCan (s : State) (k : CanChannel) (x : Can) : (s.withCan k x).share = s.share := rfl
@[simp] theorem State.link_withCan (s : State) (k : CanChannel) (x : Can) : (s.withCan k x).link = s.link := rfl
@[simp] theorem State.settings_withCan (s : State) (k : CanChannel) (x : Can) : (s.withCan k x).settings = s.settings := rfl
@[simp] theorem State.key_withCan (s : State) (k : CanChannel) (x : Can) : (s.withCan k x).key = s.key := rfl
@[simp] theorem State.straps_withCan (s : State) (k : CanChannel) (x : Can) : (s.withCan k x).straps = s.straps := rfl
@[simp] theorem State.pins_withCan (s : State) (k : CanChannel) (x : Can) : (s.withCan k x).pins = s.pins := rfl
@[simp] theorem State.pending_withCan (s : State) (k : CanChannel) (x : Can) : (s.withCan k x).pending = s.pending := rfl

@[simp] theorem State.sweep_withLine (s : State) (x : Line) : (s.withLine x).sweep = s.sweep := rfl
@[simp] theorem State.slots_withLine (s : State) (x : Line) : (s.withLine x).slots = s.slots := rfl
@[simp] theorem State.toHand_withLine (s : State) (x : Line) : (s.withLine x).toHand = s.toHand := rfl
@[simp] theorem State.table_withLine (s : State) (x : Line) : (s.withLine x).table = s.table := rfl
@[simp] theorem State.store_withLine (s : State) (x : Line) : (s.withLine x).store = s.store := rfl
@[simp] theorem State.clock_withLine (s : State) (x : Line) : (s.withLine x).clock = s.clock := rfl
@[simp] theorem State.history_withLine (s : State) (x : Line) : (s.withLine x).history = s.history := rfl
@[simp] theorem State.can_withLine (s : State) (x : Line) : (s.withLine x).can = s.can := rfl
@[simp] theorem State.share_withLine (s : State) (x : Line) : (s.withLine x).share = s.share := rfl
@[simp] theorem State.link_withLine (s : State) (x : Line) : (s.withLine x).link = s.link := rfl
@[simp] theorem State.settings_withLine (s : State) (x : Line) : (s.withLine x).settings = s.settings := rfl
@[simp] theorem State.key_withLine (s : State) (x : Line) : (s.withLine x).key = s.key := rfl
@[simp] theorem State.straps_withLine (s : State) (x : Line) : (s.withLine x).straps = s.straps := rfl
@[simp] theorem State.pins_withLine (s : State) (x : Line) : (s.withLine x).pins = s.pins := rfl
@[simp] theorem State.pending_withLine (s : State) (x : Line) : (s.withLine x).pending = s.pending := rfl

@[simp] theorem State.sweep_withShareOf (s : State) (c : Channel) (x : ShareChannel) : (s.withShareOf c x).sweep = s.sweep := rfl
@[simp] theorem State.slots_withShareOf (s : State) (c : Channel) (x : ShareChannel) : (s.withShareOf c x).slots = s.slots := rfl
@[simp] theorem State.toHand_withShareOf (s : State) (c : Channel) (x : ShareChannel) : (s.withShareOf c x).toHand = s.toHand := rfl
@[simp] theorem State.table_withShareOf (s : State) (c : Channel) (x : ShareChannel) : (s.withShareOf c x).table = s.table := rfl
@[simp] theorem State.store_withShareOf (s : State) (c : Channel) (x : ShareChannel) : (s.withShareOf c x).store = s.store := rfl
@[simp] theorem State.clock_withShareOf (s : State) (c : Channel) (x : ShareChannel) : (s.withShareOf c x).clock = s.clock := rfl
@[simp] theorem State.history_withShareOf (s : State) (c : Channel) (x : ShareChannel) : (s.withShareOf c x).history = s.history := rfl
@[simp] theorem State.can_withShareOf (s : State) (c : Channel) (x : ShareChannel) : (s.withShareOf c x).can = s.can := rfl
@[simp] theorem State.line_withShareOf (s : State) (c : Channel) (x : ShareChannel) : (s.withShareOf c x).line = s.line := rfl
@[simp] theorem State.link_withShareOf (s : State) (c : Channel) (x : ShareChannel) : (s.withShareOf c x).link = s.link := rfl
@[simp] theorem State.settings_withShareOf (s : State) (c : Channel) (x : ShareChannel) : (s.withShareOf c x).settings = s.settings := rfl
@[simp] theorem State.key_withShareOf (s : State) (c : Channel) (x : ShareChannel) : (s.withShareOf c x).key = s.key := rfl
@[simp] theorem State.straps_withShareOf (s : State) (c : Channel) (x : ShareChannel) : (s.withShareOf c x).straps = s.straps := rfl
@[simp] theorem State.pins_withShareOf (s : State) (c : Channel) (x : ShareChannel) : (s.withShareOf c x).pins = s.pins := rfl
@[simp] theorem State.pending_withShareOf (s : State) (c : Channel) (x : ShareChannel) : (s.withShareOf c x).pending = s.pending := rfl

@[simp] theorem State.sweep_withShareState (s : State) (c : Channel) (x : ShareState) : (s.withShareState c x).sweep = s.sweep := rfl
@[simp] theorem State.slots_withShareState (s : State) (c : Channel) (x : ShareState) : (s.withShareState c x).slots = s.slots := rfl
@[simp] theorem State.toHand_withShareState (s : State) (c : Channel) (x : ShareState) : (s.withShareState c x).toHand = s.toHand := rfl
@[simp] theorem State.table_withShareState (s : State) (c : Channel) (x : ShareState) : (s.withShareState c x).table = s.table := rfl
@[simp] theorem State.store_withShareState (s : State) (c : Channel) (x : ShareState) : (s.withShareState c x).store = s.store := rfl
@[simp] theorem State.clock_withShareState (s : State) (c : Channel) (x : ShareState) : (s.withShareState c x).clock = s.clock := rfl
@[simp] theorem State.history_withShareState (s : State) (c : Channel) (x : ShareState) : (s.withShareState c x).history = s.history := rfl
@[simp] theorem State.can_withShareState (s : State) (c : Channel) (x : ShareState) : (s.withShareState c x).can = s.can := rfl
@[simp] theorem State.line_withShareState (s : State) (c : Channel) (x : ShareState) : (s.withShareState c x).line = s.line := rfl
@[simp] theorem State.link_withShareState (s : State) (c : Channel) (x : ShareState) : (s.withShareState c x).link = s.link := rfl
@[simp] theorem State.settings_withShareState (s : State) (c : Channel) (x : ShareState) : (s.withShareState c x).settings = s.settings := rfl
@[simp] theorem State.key_withShareState (s : State) (c : Channel) (x : ShareState) : (s.withShareState c x).key = s.key := rfl
@[simp] theorem State.straps_withShareState (s : State) (c : Channel) (x : ShareState) : (s.withShareState c x).straps = s.straps := rfl
@[simp] theorem State.pins_withShareState (s : State) (c : Channel) (x : ShareState) : (s.withShareState c x).pins = s.pins := rfl
@[simp] theorem State.pending_withShareState (s : State) (c : Channel) (x : ShareState) : (s.withShareState c x).pending = s.pending := rfl

@[simp] theorem State.slots_withSweep (s : State) (x : Sweep) : (s.withSweep x).slots = s.slots := rfl
@[simp] theorem State.toHand_withSweep (s : State) (x : Sweep) : (s.withSweep x).toHand = s.toHand := rfl
@[simp] theorem State.table_withSweep (s : State) (x : Sweep) : (s.withSweep x).table = s.table := rfl
@[simp] theorem State.store_withSweep (s : State) (x : Sweep) : (s.withSweep x).store = s.store := rfl
@[simp] theorem State.clock_withSweep (s : State) (x : Sweep) : (s.withSweep x).clock = s.clock := rfl
@[simp] theorem State.history_withSweep (s : State) (x : Sweep) : (s.withSweep x).history = s.history := rfl
@[simp] theorem State.can_withSweep (s : State) (x : Sweep) : (s.withSweep x).can = s.can := rfl
@[simp] theorem State.line_withSweep (s : State) (x : Sweep) : (s.withSweep x).line = s.line := rfl
@[simp] theorem State.share_withSweep (s : State) (x : Sweep) : (s.withSweep x).share = s.share := rfl
@[simp] theorem State.link_withSweep (s : State) (x : Sweep) : (s.withSweep x).link = s.link := rfl
@[simp] theorem State.settings_withSweep (s : State) (x : Sweep) : (s.withSweep x).settings = s.settings := rfl
@[simp] theorem State.key_withSweep (s : State) (x : Sweep) : (s.withSweep x).key = s.key := rfl
@[simp] theorem State.straps_withSweep (s : State) (x : Sweep) : (s.withSweep x).straps = s.straps := rfl
@[simp] theorem State.pins_withSweep (s : State) (x : Sweep) : (s.withSweep x).pins = s.pins := rfl
@[simp] theorem State.pending_withSweep (s : State) (x : Sweep) : (s.withSweep x).pending = s.pending := rfl

@[simp] theorem State.sweep_withHistory (s : State) (x : History) : (s.withHistory x).sweep = s.sweep := rfl
@[simp] theorem State.slots_withHistory (s : State) (x : History) : (s.withHistory x).slots = s.slots := rfl
@[simp] theorem State.toHand_withHistory (s : State) (x : History) : (s.withHistory x).toHand = s.toHand := rfl
@[simp] theorem State.table_withHistory (s : State) (x : History) : (s.withHistory x).table = s.table := rfl
@[simp] theorem State.store_withHistory (s : State) (x : History) : (s.withHistory x).store = s.store := rfl
@[simp] theorem State.clock_withHistory (s : State) (x : History) : (s.withHistory x).clock = s.clock := rfl
@[simp] theorem State.can_withHistory (s : State) (x : History) : (s.withHistory x).can = s.can := rfl
@[simp] theorem State.line_withHistory (s : State) (x : History) : (s.withHistory x).line = s.line := rfl
@[simp] theorem State.share_withHistory (s : State) (x : History) : (s.withHistory x).share = s.share := rfl
@[simp] theorem State.link_withHistory (s : State) (x : History) : (s.withHistory x).link = s.link := rfl
@[simp] theorem State.settings_withHistory (s : State) (x : History) : (s.withHistory x).settings = s.settings := rfl
@[simp] theorem State.key_withHistory (s : State) (x : History) : (s.withHistory x).key = s.key := rfl
@[simp] theorem State.straps_withHistory (s : State) (x : History) : (s.withHistory x).straps = s.straps := rfl
@[simp] theorem State.pins_withHistory (s : State) (x : History) : (s.withHistory x).pins = s.pins := rfl
@[simp] theorem State.pending_withHistory (s : State) (x : History) : (s.withHistory x).pending = s.pending := rfl

@[simp] theorem State.sweep_withLink (s : State) (x : Link) : (s.withLink x).sweep = s.sweep := rfl
@[simp] theorem State.slots_withLink (s : State) (x : Link) : (s.withLink x).slots = s.slots := rfl
@[simp] theorem State.toHand_withLink (s : State) (x : Link) : (s.withLink x).toHand = s.toHand := rfl
@[simp] theorem State.table_withLink (s : State) (x : Link) : (s.withLink x).table = s.table := rfl
@[simp] theorem State.store_withLink (s : State) (x : Link) : (s.withLink x).store = s.store := rfl
@[simp] theorem State.clock_withLink (s : State) (x : Link) : (s.withLink x).clock = s.clock := rfl
@[simp] theorem State.history_withLink (s : State) (x : Link) : (s.withLink x).history = s.history := rfl
@[simp] theorem State.can_withLink (s : State) (x : Link) : (s.withLink x).can = s.can := rfl
@[simp] theorem State.line_withLink (s : State) (x : Link) : (s.withLink x).line = s.line := rfl
@[simp] theorem State.share_withLink (s : State) (x : Link) : (s.withLink x).share = s.share := rfl
@[simp] theorem State.settings_withLink (s : State) (x : Link) : (s.withLink x).settings = s.settings := rfl
@[simp] theorem State.key_withLink (s : State) (x : Link) : (s.withLink x).key = s.key := rfl
@[simp] theorem State.straps_withLink (s : State) (x : Link) : (s.withLink x).straps = s.straps := rfl
@[simp] theorem State.pins_withLink (s : State) (x : Link) : (s.withLink x).pins = s.pins := rfl
@[simp] theorem State.pending_withLink (s : State) (x : Link) : (s.withLink x).pending = s.pending := rfl

@[simp] theorem State.sweep_withSetting (s : State) (i : SettingId) (v : Word16) : (s.withSetting i v).sweep = s.sweep := rfl
@[simp] theorem State.slots_withSetting (s : State) (i : SettingId) (v : Word16) : (s.withSetting i v).slots = s.slots := rfl
@[simp] theorem State.toHand_withSetting (s : State) (i : SettingId) (v : Word16) : (s.withSetting i v).toHand = s.toHand := rfl
@[simp] theorem State.table_withSetting (s : State) (i : SettingId) (v : Word16) : (s.withSetting i v).table = s.table := rfl
@[simp] theorem State.store_withSetting (s : State) (i : SettingId) (v : Word16) : (s.withSetting i v).store = s.store := rfl
@[simp] theorem State.clock_withSetting (s : State) (i : SettingId) (v : Word16) : (s.withSetting i v).clock = s.clock := rfl
@[simp] theorem State.history_withSetting (s : State) (i : SettingId) (v : Word16) : (s.withSetting i v).history = s.history := rfl
@[simp] theorem State.can_withSetting (s : State) (i : SettingId) (v : Word16) : (s.withSetting i v).can = s.can := rfl
@[simp] theorem State.line_withSetting (s : State) (i : SettingId) (v : Word16) : (s.withSetting i v).line = s.line := rfl
@[simp] theorem State.share_withSetting (s : State) (i : SettingId) (v : Word16) : (s.withSetting i v).share = s.share := rfl
@[simp] theorem State.link_withSetting (s : State) (i : SettingId) (v : Word16) : (s.withSetting i v).link = s.link := rfl
@[simp] theorem State.key_withSetting (s : State) (i : SettingId) (v : Word16) : (s.withSetting i v).key = s.key := rfl
@[simp] theorem State.straps_withSetting (s : State) (i : SettingId) (v : Word16) : (s.withSetting i v).straps = s.straps := rfl
@[simp] theorem State.pins_withSetting (s : State) (i : SettingId) (v : Word16) : (s.withSetting i v).pins = s.pins := rfl
@[simp] theorem State.pending_withSetting (s : State) (i : SettingId) (v : Word16) : (s.withSetting i v).pending = s.pending := rfl

@[simp] theorem State.slots_withWorkList (s : State) (c : Channel) (is : List ModuleIndex) : (s.withWorkList c is).slots = s.slots := rfl
@[simp] theorem State.toHand_withWorkList (s : State) (c : Channel) (is : List ModuleIndex) : (s.withWorkList c is).toHand = s.toHand := rfl
@[simp] theorem State.table_withWorkList (s : State) (c : Channel) (is : List ModuleIndex) : (s.withWorkList c is).table = s.table := rfl
@[simp] theorem State.store_withWorkList (s : State) (c : Channel) (is : List ModuleIndex) : (s.withWorkList c is).store = s.store := rfl
@[simp] theorem State.clock_withWorkList (s : State) (c : Channel) (is : List ModuleIndex) : (s.withWorkList c is).clock = s.clock := rfl
@[simp] theorem State.history_withWorkList (s : State) (c : Channel) (is : List ModuleIndex) : (s.withWorkList c is).history = s.history := rfl
@[simp] theorem State.can_withWorkList (s : State) (c : Channel) (is : List ModuleIndex) : (s.withWorkList c is).can = s.can := rfl
@[simp] theorem State.line_withWorkList (s : State) (c : Channel) (is : List ModuleIndex) : (s.withWorkList c is).line = s.line := rfl
@[simp] theorem State.share_withWorkList (s : State) (c : Channel) (is : List ModuleIndex) : (s.withWorkList c is).share = s.share := rfl
@[simp] theorem State.link_withWorkList (s : State) (c : Channel) (is : List ModuleIndex) : (s.withWorkList c is).link = s.link := rfl
@[simp] theorem State.settings_withWorkList (s : State) (c : Channel) (is : List ModuleIndex) : (s.withWorkList c is).settings = s.settings := rfl
@[simp] theorem State.key_withWorkList (s : State) (c : Channel) (is : List ModuleIndex) : (s.withWorkList c is).key = s.key := rfl
@[simp] theorem State.straps_withWorkList (s : State) (c : Channel) (is : List ModuleIndex) : (s.withWorkList c is).straps = s.straps := rfl
@[simp] theorem State.pins_withWorkList (s : State) (c : Channel) (is : List ModuleIndex) : (s.withWorkList c is).pins = s.pins := rfl
@[simp] theorem State.pending_withWorkList (s : State) (c : Channel) (is : List ModuleIndex) : (s.withWorkList c is).pending = s.pending := rfl

@[simp] theorem State.sweep_notify (s : State) (n : Notice) : (s.notify n).sweep = s.sweep := rfl
@[simp] theorem State.slots_notify (s : State) (n : Notice) : (s.notify n).slots = s.slots := rfl
@[simp] theorem State.toHand_notify (s : State) (n : Notice) : (s.notify n).toHand = s.toHand := rfl
@[simp] theorem State.table_notify (s : State) (n : Notice) : (s.notify n).table = s.table := rfl
@[simp] theorem State.store_notify (s : State) (n : Notice) : (s.notify n).store = s.store := rfl
@[simp] theorem State.clock_notify (s : State) (n : Notice) : (s.notify n).clock = s.clock := rfl
@[simp] theorem State.history_notify (s : State) (n : Notice) : (s.notify n).history = s.history := rfl
@[simp] theorem State.can_notify (s : State) (n : Notice) : (s.notify n).can = s.can := rfl
@[simp] theorem State.line_notify (s : State) (n : Notice) : (s.notify n).line = s.line := rfl
@[simp] theorem State.share_notify (s : State) (n : Notice) : (s.notify n).share = s.share := rfl
@[simp] theorem State.settings_notify (s : State) (n : Notice) : (s.notify n).settings = s.settings := rfl
@[simp] theorem State.key_notify (s : State) (n : Notice) : (s.notify n).key = s.key := rfl
@[simp] theorem State.straps_notify (s : State) (n : Notice) : (s.notify n).straps = s.straps := rfl
@[simp] theorem State.pins_notify (s : State) (n : Notice) : (s.notify n).pins = s.pins := rfl
@[simp] theorem State.pending_notify (s : State) (n : Notice) : (s.notify n).pending = s.pending := rfl

@[simp] theorem State.sweep_reply (s : State) (k : Byte) (st : Status) (bs : List Byte) : (s.reply k st bs).sweep = s.sweep := rfl
@[simp] theorem State.slots_reply (s : State) (k : Byte) (st : Status) (bs : List Byte) : (s.reply k st bs).slots = s.slots := rfl
@[simp] theorem State.toHand_reply (s : State) (k : Byte) (st : Status) (bs : List Byte) : (s.reply k st bs).toHand = s.toHand := rfl
@[simp] theorem State.table_reply (s : State) (k : Byte) (st : Status) (bs : List Byte) : (s.reply k st bs).table = s.table := rfl
@[simp] theorem State.store_reply (s : State) (k : Byte) (st : Status) (bs : List Byte) : (s.reply k st bs).store = s.store := rfl
@[simp] theorem State.clock_reply (s : State) (k : Byte) (st : Status) (bs : List Byte) : (s.reply k st bs).clock = s.clock := rfl
@[simp] theorem State.history_reply (s : State) (k : Byte) (st : Status) (bs : List Byte) : (s.reply k st bs).history = s.history := rfl
@[simp] theorem State.can_reply (s : State) (k : Byte) (st : Status) (bs : List Byte) : (s.reply k st bs).can = s.can := rfl
@[simp] theorem State.line_reply (s : State) (k : Byte) (st : Status) (bs : List Byte) : (s.reply k st bs).line = s.line := rfl
@[simp] theorem State.share_reply (s : State) (k : Byte) (st : Status) (bs : List Byte) : (s.reply k st bs).share = s.share := rfl
@[simp] theorem State.settings_reply (s : State) (k : Byte) (st : Status) (bs : List Byte) : (s.reply k st bs).settings = s.settings := rfl
@[simp] theorem State.key_reply (s : State) (k : Byte) (st : Status) (bs : List Byte) : (s.reply k st bs).key = s.key := rfl
@[simp] theorem State.straps_reply (s : State) (k : Byte) (st : Status) (bs : List Byte) : (s.reply k st bs).straps = s.straps := rfl
@[simp] theorem State.pins_reply (s : State) (k : Byte) (st : Status) (bs : List Byte) : (s.reply k st bs).pins = s.pins := rfl
@[simp] theorem State.pending_reply (s : State) (k : Byte) (st : Status) (bs : List Byte) : (s.reply k st bs).pending = s.pending := rfl

/-! ### The value an update writes -/

@[simp] theorem State.sweep_withSweep (s : State) (x : Sweep) : (s.withSweep x).sweep = x := rfl
@[simp] theorem State.history_withHistory (s : State) (x : History) : (s.withHistory x).history = x := rfl
@[simp] theorem State.line_withLine (s : State) (x : Line) : (s.withLine x).line = x := rfl
@[simp] theorem State.link_withLink (s : State) (x : Link) : (s.withLink x).link = x := rfl
@[simp] theorem State.link_notify (s : State) (n : Notice) : (s.notify n).link = s.link.notify n := rfl
@[simp] theorem State.link_reply (s : State) (k : Byte) (st : Status) (bs : List Byte) :
    (s.reply k st bs).link = { s.link with outbound := s.link.outbound ++ [.reply (replyKind k) st bs] } := rfl
@[simp] theorem State.sweep_withWorkList (s : State) (c : Channel) (is : List ModuleIndex) :
    (s.withWorkList c is).sweep = { s.sweep with lists := s.sweep.lists.set c is } := rfl
@[simp] theorem State.settings_withSetting (s : State) (i : SettingId) (v : Word16) :
    (s.withSetting i v).settings = s.settings.set i.index v := rfl
@[simp] theorem State.table_withEntry (s : State) (i : ModuleIndex) (e : Entry) :
    (s.withEntry i e).table = s.table.set i e := rfl
@[simp] theorem State.slots_withSlot (s : State) (c : Channel) (x : Slot) :
    (s.withSlot c x).slots = s.slots.set c x := rfl
@[simp] theorem State.can_withCan (s : State) (k : CanChannel) (x : Can) : (s.withCan k x).can = s.can.set k x := rfl
@[simp] theorem State.toHand_withWaitingFrames (s : State) (c : Channel) (x : List TxFrame) :
    (s.withWaitingFrames c x).toHand = s.toHand.set c x := rfl

@[simp] theorem State.slot_withSlot (s : State) (c : Channel) (x : Slot) : (s.withSlot c x).slot c = x := by
  simp [State.slot]
@[simp] theorem State.canCtl_withCan (s : State) (k : CanChannel) (x : Can) : (s.withCan k x).canCtl k = x := by
  simp [State.canCtl]
@[simp] theorem State.waitingFrames_withWaitingFrames (s : State) (c : Channel) (x : List TxFrame) :
    (s.withWaitingFrames c x).waitingFrames c = x := by simp [State.waitingFrames]
@[simp] theorem State.workList_withWorkList (s : State) (c : Channel) (is : List ModuleIndex) :
    (s.withWorkList c is).workList c = is := by simp [State.workList]
@[simp] theorem State.shareOf_withShareOf (s : State) (c : Channel) (x : ShareChannel) :
    (s.withShareOf c x).shareOf c = x := by simp [State.shareOf, State.withShareOf]
@[simp] theorem State.shareState_withShareState (s : State) (c : Channel) (x : ShareState) :
    (s.withShareState c x).shareState c = x := by
  simp [State.shareState, State.shareOf, State.withShareState, State.withShareOf]
@[simp] theorem State.entry_withEntry (s : State) (i : ModuleIndex) (e : Entry) : (s.withEntry i e).entry i = e := by
  simp [State.entry]
theorem State.entry_withEntry_other (s : State) {i j : ModuleIndex} (h : i ≠ j) (e : Entry) :
    (s.withEntry i e).entry j = s.entry j := by
  simp [State.entry, Fin.val_ne_of_ne h]

end Sys2Proof.Machine
end

