-- ==== Sys2Proof/Laws/Frames.lean ====
section
/-! SUPPORT. What the operations on a channel's frames can do, said once per operation: handing, withdrawing, disowning and
cutting reach the frames still to hand, the CAN controllers and the line controller, and nothing else; a slot becoming FREE
or listening reaches its slot and its controller; what a handing puts into an empty transmit holding, and what dropping a dialog's requests
leaves. -/

namespace Sys2Proof.Machine

/-- `t` is `s` but for the frames still to hand, the CAN controllers and the line controller. -/
def State.FramesOnly (s t : State) : Prop :=
  ∃ (h : PerChannel (List TxFrame)) (k : PerCan Can) (l : Line), t = { s with toHand := h, can := k, line := l }

theorem State.FramesOnly.refl (s : State) : s.FramesOnly s := ⟨_, _, _, rfl⟩

theorem State.FramesOnly.trans {s t u : State} (h : s.FramesOnly t) (k : t.FramesOnly u) : s.FramesOnly u := by
  obtain ⟨_, _, _, rfl⟩ := h
  obtain ⟨_, _, _, rfl⟩ := k
  exact ⟨_, _, _, rfl⟩

section
variable {s t : State} (h : s.FramesOnly t)
include h

theorem State.FramesOnly.sweep : t.sweep = s.sweep := by obtain ⟨_, _, _, rfl⟩ := h; rfl
theorem State.FramesOnly.slots : t.slots = s.slots := by obtain ⟨_, _, _, rfl⟩ := h; rfl
theorem State.FramesOnly.table : t.table = s.table := by obtain ⟨_, _, _, rfl⟩ := h; rfl
theorem State.FramesOnly.store : t.store = s.store := by obtain ⟨_, _, _, rfl⟩ := h; rfl
theorem State.FramesOnly.clock : t.clock = s.clock := by obtain ⟨_, _, _, rfl⟩ := h; rfl
theorem State.FramesOnly.history : t.history = s.history := by obtain ⟨_, _, _, rfl⟩ := h; rfl
theorem State.FramesOnly.share : t.share = s.share := by obtain ⟨_, _, _, rfl⟩ := h; rfl
theorem State.FramesOnly.link : t.link = s.link := by obtain ⟨_, _, _, rfl⟩ := h; rfl
theorem State.FramesOnly.settings : t.settings = s.settings := by obtain ⟨_, _, _, rfl⟩ := h; rfl
theorem State.FramesOnly.key : t.key = s.key := by obtain ⟨_, _, _, rfl⟩ := h; rfl
theorem State.FramesOnly.straps : t.straps = s.straps := by obtain ⟨_, _, _, rfl⟩ := h; rfl
theorem State.FramesOnly.pins : t.pins = s.pins := by obtain ⟨_, _, _, rfl⟩ := h; rfl
theorem State.FramesOnly.pending : t.pending = s.pending := by obtain ⟨_, _, _, rfl⟩ := h; rfl

end

/-! ### The operations on frames -/

theorem State.FramesOnly.withCan (s : State) (k : CanChannel) (x : Can) : s.FramesOnly (s.withCan k x) := ⟨_, _, _, rfl⟩

theorem State.FramesOnly.withLine (s : State) (x : Line) : s.FramesOnly (s.withLine x) := ⟨_, _, _, rfl⟩

theorem State.FramesOnly.withWaitingFrames (s : State) (c : Channel) (fs : List TxFrame) :
    s.FramesOnly (s.withWaitingFrames c fs) := ⟨_, _, _, rfl⟩

theorem State.FramesOnly.putHolding (s : State) (c : Channel) (f : TxFrame) : s.FramesOnly (s.putHolding c f) := by
  unfold State.putHolding
  cases c
  · exact .withCan _ _ _
  · exact .withCan _ _ _
  · exact .withLine _ _

theorem State.FramesOnly.handNext (s : State) (c : Channel) : s.FramesOnly (s.handNext c) := by
  unfold State.handNext
  split
  · exact .refl s
  · split
    · exact (FramesOnly.withWaitingFrames s c _).trans (.putHolding _ c _)
    · exact .refl s

/-- Handing a frame reaches the frames of its channel alone (R23). -/
theorem State.FramesOnly.hand (s : State) (c : Channel) (r : TxRequest) (e : Option Nat) : s.FramesOnly (s.hand c r e) :=
  (FramesOnly.withWaitingFrames s c _).trans (.handNext _ c)

theorem State.FramesOnly.emptyHolding (s : State) (c : Channel) : s.FramesOnly (s.emptyHolding c) := by
  cases c <;> simp only [State.emptyHolding, canOf]
  · split <;> exact ⟨_, _, _, rfl⟩
  · split <;> exact ⟨_, _, _, rfl⟩
  · exact ⟨_, _, _, rfl⟩

/-- Withdrawing a channel's unstarted frames reaches its frames alone (R23). -/
theorem State.FramesOnly.withdraw (s : State) (c : Channel) : s.FramesOnly (s.withdraw c) :=
  (FramesOnly.withWaitingFrames s c _).trans (.emptyHolding _ c)

/-- Dropping a dialog's unstarted requests reaches the frames of its channel alone (R33, R42). -/
theorem State.FramesOnly.dropRequests (s : State) (c : Channel) (p : TxFrame → Bool) : s.FramesOnly (s.dropRequests c p) := by
  unfold State.dropRequests
  dsimp only
  refine (FramesOnly.withWaitingFrames s c ((s.waitingFrames c).filter (fun f => !f.isOwnRequest))).trans ?_
  split
  · split
    · exact .emptyHolding _ c
    · exact .refl _
  · exact .refl _

/-- The frames left behind by a dialog (R44). -/
theorem State.FramesOnly.disown (s : State) (c : Channel) : s.FramesOnly (s.disown c) := by
  cases c <;> exact ⟨_, _, _, rfl⟩

/-- Cutting what is in progress on a channel reaches its frames alone (R131, R142, R147). -/
theorem State.FramesOnly.cut (s : State) (c : Channel) : s.FramesOnly (s.cut c) := by
  cases c <;> exact ⟨_, _, _, rfl⟩

theorem State.FramesOnly.standDown (s : State) (c : Channel) : s.FramesOnly (s.standDown c) := by
  cases c <;> exact ⟨_, _, _, rfl⟩

theorem State.FramesOnly.startListening (s : State) (c : Channel) : s.FramesOnly (s.startListening c) := by
  cases c
  · exact .refl s
  · exact .refl s
  · simp only [State.startListening]
    split
    · exact ⟨_, _, _, rfl⟩
    · exact .refl s

theorem State.FramesOnly.stopListening (s : State) (c : Channel) : s.FramesOnly (s.stopListening c) := by
  cases c <;> exact ⟨_, _, _, rfl⟩

theorem State.FramesOnly.takeBases (s : State) (k : CanChannel) : s.FramesOnly (s.takeBases k) := ⟨_, _, _, rfl⟩

/-- A slot becoming FREE: its context cleared, and beside it only its controller touched (R21, R127, R130, R146). -/
theorem State.FramesOnly.freeSlot (s : State) (c : Channel) : (s.withSlot c {}).FramesOnly (s.freeSlot c) := by
  unfold State.freeSlot
  cases c
  · exact (FramesOnly.stopListening _ _).trans (.takeBases _ _)
  · exact (FramesOnly.stopListening _ _).trans (.takeBases _ _)
  · exact .stopListening _ _

/-- A slot parked: its context as parked, and beside it only its controller touched (R46). -/
theorem State.FramesOnly.park (s : State) (c : Channel) (r : ResumePoint) :
    (s.withSlot c ((s.slot c).park r)).FramesOnly (s.park c r) := .stopListening _ _

/-! ### What a handing holds -/

/-- Frames waiting to be handed leave the transmit holding as it was. -/
theorem State.holdingEmpty_withWaitingFrames (s : State) (c : Channel) (fs : List TxFrame) :
    (s.withWaitingFrames c fs).holdingEmpty c = s.holdingEmpty c := by
  cases c <;> rfl

/-- The later of two settings of the frames to hand stands. -/
theorem State.withWaitingFrames_same (s : State) (c : Channel) (fs gs : List TxFrame) :
    (s.withWaitingFrames c fs).withWaitingFrames c gs = s.withWaitingFrames c gs := by
  cases c <;> rfl

/-- With no frame to hand, setting none changes nothing. -/
theorem State.withWaitingFrames_nil {s : State} {c : Channel} (h : s.waitingFrames c = []) :
    s.withWaitingFrames c [] = s := by
  obtain ⟨_, _, ⟨_, _, _⟩, _, _, _, _, _, _, _, _, _, _, _, _, _⟩ := s
  cases c <;> simp only [State.waitingFrames, PerChannel.get] at h <;> subst h <;> rfl

theorem State.waitingFrames_emptyHolding (s : State) (c : Channel) :
    (s.emptyHolding c).waitingFrames c = s.waitingFrames c := by
  cases c <;> simp only [State.emptyHolding, canOf]
  · split <;> rfl
  · split <;> rfl
  · rfl

/-- What is still to hand after a dialog's unstarted requests are dropped (R33, R42). -/
theorem State.waitingFrames_dropRequests (s : State) (c : Channel) (p : TxFrame → Bool) :
    (s.dropRequests c p).waitingFrames c = (s.waitingFrames c).filter (fun f => !f.isOwnRequest) := by
  unfold State.dropRequests
  dsimp only
  split
  · split <;> simp [State.waitingFrames_emptyHolding]
  · simp

/-- With no frame waiting there is no request to drop. -/
theorem State.dropRequests_none {s : State} {c : Channel} (hw : s.waitingFrames c = []) (hf : s.frameWaiting c = none)
    (p : TxFrame → Bool) : s.dropRequests c p = s := by
  simp [State.dropRequests, hw, State.withWaitingFrames_nil hw, hf]

/-- A handing behind an unsent frame waits (R22, R23). -/
theorem State.hand_behind {s : State} {c : Channel} (he : s.holdingEmpty c = false) (r : TxRequest) (e : Option Nat) :
    s.hand c r e =
      s.withWaitingFrames c (s.waitingFrames c ++ [{ request := r, dest := s.destination c, earliest := e }]) := by
  unfold State.hand State.handNext
  split
  · rfl
  · rw [State.holdingEmpty_withWaitingFrames, he]
    rfl

/-- A handing with nothing before it puts the frame into the transmit holding, not started (R23). -/
theorem State.hand_empty {s : State} {c : Channel} (he : s.holdingEmpty c = true) (hw : s.waitingFrames c = [])
    (r : TxRequest) (e : Option Nat) :
    s.hand c r e = s.putHolding c { request := r, dest := s.destination c, earliest := e } := by
  have hw' : s.toHand.get c = [] := hw
  unfold State.hand State.handNext
  split
  · next h => cases c <;> simp [State.waitingFrames, State.withWaitingFrames, PerChannel.get, PerChannel.set] at h
  · next f fs h =>
    rw [State.holdingEmpty_withWaitingFrames, he]
    obtain ⟨rfl, rfl⟩ : f = { request := r, dest := s.destination c, earliest := e } ∧ fs = [] := by
      cases c <;>
        simp_all [State.waitingFrames, State.withWaitingFrames, PerChannel.get, PerChannel.set]
    rw [if_pos rfl, State.withWaitingFrames_same, State.withWaitingFrames_nil hw]

end Sys2Proof.Machine
end

