-- ==== Sys2Proof/Laws/History.lean ====
section
/-! SUPPORT. The history table keeps its form (`History.wf`): one lemma per operation of the table. -/

namespace Sys2Proof.Machine

/-! ### Lists of records -/

theorem snapshotBytes_append (xs ys : List Record) :
    snapshotBytes (xs ++ ys) = snapshotBytes xs + snapshotBytes ys := by
  induction xs with
  | nil => simp [snapshotBytes]
  | cons r rs ih => simp [snapshotBytes, ih, Nat.add_assoc]

theorem snapshotBytes_filter (p : Record → Bool) (rs : List Record) :
    snapshotBytes rs = snapshotBytes (rs.filter p) + snapshotBytes (rs.filter (fun r => !p r)) := by
  induction rs with
  | nil => rfl
  | cons r rs ih => by_cases h : p r <;> simp [snapshotBytes, h, ih] <;> omega

/-- A change of every record that keeps its number, module, code and snapshot and leaves it sound keeps the form. -/
theorem History.wf_map {h : History} {f : Record → Record} (hw : h.wf)
    (key : ∀ r, (f r).number = r.number ∧ (f r).module = r.module ∧ (f r).code = r.code ∧ (f r).snapshot = r.snapshot)
    (sound : ∀ r ∈ h.records, r.sound → (f r).sound) : { h with records := h.records.map f }.wf := by
  obtain ⟨ha, ho, hl, hs, hp, hb, hn⟩ := hw
  have bytes : ∀ rs : List Record, snapshotBytes (rs.map f) = snapshotBytes rs := by
    intro rs
    induction rs with
    | nil => rfl
    | cons r rs ih => simp [snapshotBytes, ih, (key r).2.2.2]
  refine ⟨?_, ?_, by simpa using hl, ?_, by simpa [bytes] using hp, hb, hn⟩
  · exact List.pairwise_map.2 (ha.imp (fun {a b} hab => by simpa [(key a).1, (key b).1] using hab))
  · exact List.pairwise_map.2
      (ho.imp (fun {a b} hab => by simpa [(key a).2.1, (key b).2.1, (key a).2.2.1, (key b).2.2.1] using hab))
  · intro r hr
    obtain ⟨r', hr', rfl⟩ := List.mem_map.1 hr
    exact sound r' hr' (hs r' hr')

theorem History.wf_clearSighted {h : History} (hw : h.wf) (m : ModuleIndex) : (h.clearSighted m).wf :=
  wf_map hw (fun r => by split <;> simp) (fun r _ hs => by split <;> simp_all [Record.sound])

theorem History.wf_clearAllSighted {h : History} (hw : h.wf) : h.clearAllSighted.wf :=
  wf_map hw (fun r => by simp) (fun r _ hs => by simp_all [Record.sound])

theorem History.wf_clearUnread {h : History} (hw : h.wf) (cs : List Record) : (h.clearUnread cs).wf :=
  wf_map hw (fun r => by split <;> simp) (fun r _ hs => by split <;> simp_all [Record.sound])

theorem History.wf_markGone {h : History} (hw : h.wf) (m : ModuleIndex) (n : Word16) : (h.markGone m n).1.wf :=
  wf_map hw (fun r => by split <;> simp)
    (fun r _ hs => by
      split
      · rename_i hv
        simp_all [Record.sound, Record.vanished]
      · exact hs)

theorem History.wf_removeWhere {h : History} (hw : h.wf) (p : Record → Bool) : (h.removeWhere p).1.wf := by
  obtain ⟨ha, ho, hl, hs, hp, hb, hn⟩ := hw
  have hsum := snapshotBytes_filter p h.records
  refine ⟨ha.sublist List.filter_sublist, ho.sublist List.filter_sublist, ?_, ?_, ?_, ?_, hn⟩
  · exact le_trans (List.length_filter_le ..) hl
  · intro r hr
    exact hs r (List.mem_filter.1 hr).1
  · show h.poolUsed - snapshotBytes (h.records.filter p) = snapshotBytes (h.records.filter (fun r => !p r))
    omega
  · exact le_trans (Nat.sub_le ..) hb

/-! ### Room and eviction (R111) -/

theorem evict_spec (need : Nat) (rs : List Record) :
    ∀ held pool, snapshotBytes rs ≤ pool → rs.length ≤ held →
      let out := evict need held pool rs
      out.1.Sublist rs ∧ out.2 + snapshotBytes rs = pool + snapshotBytes out.1
        ∧ (held - (rs.filter Record.isCandidate).length < maxRecords →
            need ≤ poolSize - (pool - snapshotBytes (rs.filter Record.isCandidate)) →
            held - (rs.length - out.1.length) < maxRecords ∧ need ≤ poolSize - out.2) := by
  induction rs with
  | nil =>
    intro held pool _ _
    simpa [evict, snapshotBytes] using fun h1 h2 => And.intro h1 h2
  | cons r rs ih =>
    intro held pool hpool hheld
    simp only [snapshotBytes, List.length_cons] at hpool hheld
    have hfilter : snapshotBytes (rs.filter Record.isCandidate) ≤ snapshotBytes rs := by
      have := snapshotBytes_filter Record.isCandidate rs
      omega
    have hcount := List.length_filter_le Record.isCandidate rs
    unfold evict
    split
    · rename_i hroom
      simp [hroom]
    · rename_i hroom
      split
      · rename_i hc
        obtain ⟨hsub, hbytes, hmeet⟩ := ih (held - 1) (pool - r.snapshot.length) (by omega) (by omega)
        have hlen := hsub.length_le
        refine ⟨hsub.cons r, ?_, ?_⟩
        · simp only [snapshotBytes]
          omega
        · intro h1 h2
          simp only [List.filter_cons, hc, if_true, List.length_cons, snapshotBytes] at h1 h2 ⊢
          have := hmeet (by omega) (by omega)
          omega
      · rename_i hc
        obtain ⟨hsub, hbytes, hmeet⟩ := ih held pool (by omega) (by omega)
        have hlen := hsub.length_le
        refine ⟨hsub.cons_cons r, ?_, ?_⟩
        · simp only [snapshotBytes]
          omega
        · intro h1 h2
          simp only [List.filter_cons, hc, if_false, Bool.false_eq_true, List.length_cons] at h1 h2 ⊢
          have := hmeet (by omega) (by omega)
          omega

/-- A table with room made keeps its form, holds a subset of the records, and has the place and the pool bytes (R111). -/
theorem History.makeRoom_spec {h h' : History} {need : Nat} (hw : h.wf) (hm : h.makeRoom need = some h') :
    h'.wf ∧ h'.records.Sublist h.records ∧ h'.records.length < maxRecords ∧ h'.poolUsed + need ≤ poolSize
      ∧ h'.next = h.next := by
  obtain ⟨ha, ho, hl, hs, hp, hb, hn⟩ := hw
  unfold makeRoom at hm
  split at hm
  · rename_i hcan
    simp only [Option.some.injEq] at hm
    subst hm
    obtain ⟨hsub, hbytes, hmeet⟩ := evict_spec need h.records h.records.length h.poolUsed (by omega) (le_refl _)
    simp only [canMakeRoom, Bool.and_eq_true, decide_eq_true_eq] at hcan
    have hroom := hmeet hcan.1 hcan.2
    have hlen := hsub.length_le
    have hsum : (evict need h.records.length h.poolUsed h.records).2
        = snapshotBytes (evict need h.records.length h.poolUsed h.records).1 := by omega
    have hle : snapshotBytes (evict need h.records.length h.poolUsed h.records).1 ≤ snapshotBytes h.records := by
      have := hbytes
      have mono : ∀ {xs ys : List Record}, xs.Sublist ys → snapshotBytes xs ≤ snapshotBytes ys := by
        intro xs ys hxy
        induction hxy with
        | slnil => exact le_refl _
        | cons _ _ ih => simp only [snapshotBytes]; omega
        | cons_cons _ _ ih => simp only [snapshotBytes]; omega
      exact mono hsub
    refine ⟨⟨ha.sublist hsub, ho.sublist hsub, le_trans hlen hl, fun r hr => hs r (hsub.subset hr), hsum, ?_, hn⟩,
      hsub, ?_, ?_, rfl⟩
    · show (evict need h.records.length h.poolUsed h.records).2 ≤ poolSize
      omega
    · show (evict need h.records.length h.poolUsed h.records).1.length < maxRecords
      omega
    · show (evict need h.records.length h.poolUsed h.records).2 + need ≤ poolSize
      omega
  · cases hm

/-! ### Numbers (R108) -/

theorem nextNumber_ne_zero {n : Word32} (_ : n ≠ 0) : nextNumber n ≠ 0 := by
  unfold nextNumber
  split
  · decide
  · rename_i hne
    bv_omega

/-- Counting numbers on the circle 1 .. 0xFFFFFFFF. -/
theorem nextNumber_toNat {n : Word32} (h : n ≠ 0) : (nextNumber n).toNat = n.toNat % (2 ^ 32 - 1) + 1 := by
  unfold nextNumber
  split
  · rename_i he
    subst he
    decide
  · rename_i hne
    bv_omega

/-- The number `k` steps after `n`. -/
def numberAfter (n : Word32) : Nat → Word32
  | 0 => n
  | k + 1 => numberAfter (nextNumber n) k

theorem numberAfter_toNat {n : Word32} (h : n ≠ 0) (k : Nat) :
    (numberAfter n k).toNat = (n.toNat - 1 + k) % (2 ^ 32 - 1) + 1 := by
  induction k generalizing n with
  | zero =>
    have : n.toNat ≠ 0 := by simpa [BitVec.toNat_eq] using h
    have := n.isLt
    simp only [numberAfter]
    omega
  | succ k ih =>
    have h1 : n.toNat ≠ 0 := by simpa [BitVec.toNat_eq] using h
    have h2 := n.isLt
    rw [numberAfter, ih (nextNumber_ne_zero h), nextNumber_toNat h]
    omega

theorem freeNumber_cases (rs : List Record) (fuel : Nat) (n : Word32) (h : n ≠ 0) :
    freeNumber rs fuel n ≠ 0 ∧
      ((∀ r ∈ rs, r.number ≠ freeNumber rs fuel n) ∨ ∀ k < fuel, ∃ r ∈ rs, r.number = numberAfter n k) := by
  induction fuel generalizing n with
  | zero => exact ⟨h, Or.inr (fun k hk => absurd hk (Nat.not_lt_zero k))⟩
  | succ fuel ih =>
    unfold freeNumber
    split
    · rename_i hany
      obtain ⟨h1, h2⟩ := ih (nextNumber n) (nextNumber_ne_zero h)
      refine ⟨h1, h2.imp_right (fun hall k hk => ?_)⟩
      cases k with
      | zero => simpa [numberAfter] using hany
      | succ k => exact hall k (Nat.lt_of_succ_lt_succ hk)
    · rename_i hany
      exact ⟨h, Or.inl (by simpa using hany)⟩

/-- The number of a new record is not 0 and is held by no record (R108). -/
theorem freeNumber_spec {rs : List Record} (hl : rs.length ≤ maxRecords) {n : Word32} (h : n ≠ 0) :
    freeNumber rs (maxRecords + 1) n ≠ 0 ∧ ∀ r ∈ rs, r.number ≠ freeNumber rs (maxRecords + 1) n := by
  obtain ⟨h1, h2⟩ := freeNumber_cases rs (maxRecords + 1) n h
  refine ⟨h1, h2.resolve_right (fun hall => ?_)⟩
  have hsub : (Finset.range (maxRecords + 1)).image (fun k => numberAfter n k)
      ⊆ (rs.map (fun r => r.number)).toFinset := by
    intro x hx
    obtain ⟨k, hk, rfl⟩ := Finset.mem_image.1 hx
    obtain ⟨r, hr, he⟩ := hall k (Finset.mem_range.1 hk)
    exact List.mem_toFinset.2 (List.mem_map.2 ⟨r, hr, he⟩)
  have hinj : Set.InjOn (fun k => numberAfter n k) (Finset.range (maxRecords + 1) : Set Nat) := by
    intro a ha b hb hab
    have hab' : numberAfter n a = numberAfter n b := hab
    have h1 := numberAfter_toNat h a
    have h2 := numberAfter_toNat h b
    rw [hab'] at h1
    simp only [Finset.coe_range, Set.mem_Iio, maxRecords] at ha hb
    omega
  have hcard := Finset.card_le_card hsub
  rw [Finset.card_image_of_injOn hinj, Finset.card_range] at hcard
  have := List.toFinset_card_le (rs.map (fun r => r.number))
  simp only [List.length_map] at this
  omega

/-! ### Creation (R108, R109, R114) -/

theorem insertRecord_perm (r : Record) (rs : List Record) : (insertRecord r rs).Perm (r :: rs) := by
  induction rs with
  | nil => exact List.Perm.refl _
  | cons x xs ih =>
    unfold insertRecord
    split
    · exact List.Perm.refl _
    · exact (ih.cons x).trans (List.Perm.swap r x xs)

theorem insertRecord_ascending {r : Record} {rs : List Record} (ha : ascending rs)
    (hr : ∀ x ∈ rs, x.number ≠ r.number) : ascending (insertRecord r rs) := by
  induction rs with
  | nil => simp [insertRecord, ascending]
  | cons x xs ih =>
    obtain ⟨hx, hxs⟩ := List.pairwise_cons.1 ha
    unfold insertRecord
    split
    · rename_i hlt
      refine List.pairwise_cons.2 ⟨fun y hy => ?_, ha⟩
      rcases List.mem_cons.1 hy with rfl | hy
      · exact hlt
      · exact lt_trans hlt (hx y hy)
    · rename_i hlt
      refine List.pairwise_cons.2 ⟨fun y hy => ?_, ih hxs (fun y hy => hr y (List.mem_cons_of_mem x hy))⟩
      rcases List.mem_cons.1 ((insertRecord_perm r xs).subset hy) with rfl | hy
      · have hne : x.number.toNat ≠ y.number.toNat := fun he =>
          hr x List.mem_cons_self (BitVec.eq_of_toNat_eq he)
        omega
      · exact hx y hy

theorem snapshotBytes_perm {xs ys : List Record} (h : xs.Perm ys) : snapshotBytes xs = snapshotBytes ys := by
  induction h with
  | nil => rfl
  | cons x _ ih => simp [snapshotBytes, ih]
  | swap x y l => simp only [snapshotBytes]; omega
  | trans _ _ h1 h2 => exact h1.trans h2

theorem History.wf_create {h : History} {sg : Sighting} (hw : h.wf) (n : Word16) (hl : h.records.length < maxRecords)
    (hroom : h.poolUsed + sg.snapshot.length ≤ poolSize) (hs : sg.state ≠ .gone)
    (hnew : ∀ r ∈ h.records, ¬ (r.module = sg.module ∧ r.code = sg.code)) : (h.create sg n).wf := by
  obtain ⟨ha, ho, _, hsound, hp, _, hn⟩ := hw
  obtain ⟨hf0, hfree⟩ := freeNumber_spec (rs := h.records) (by omega) hn
  have hperm := insertRecord_perm (newRecord sg (freeNumber h.records (maxRecords + 1) h.next) n) h.records
  refine ⟨insertRecord_ascending ha hfree, ?_, ?_, ?_, ?_, hroom, nextNumber_ne_zero hf0⟩
  · refine (hperm.pairwise_iff (fun {a b} hab hba => hab ⟨hba.1.symm, hba.2.symm⟩)).2
      (List.pairwise_cons.2 ⟨fun r hr hc => hnew r hr ⟨hc.1.symm, hc.2.symm⟩, ho⟩)
  · show (insertRecord _ _).length ≤ _
    rw [hperm.length_eq, List.length_cons]
    omega
  · intro r hr
    rcases List.mem_cons.1 (hperm.subset hr) with rfl | hr
    · exact ⟨hf0, fun hg => absurd hg hs⟩
    · exact hsound r hr
  · show h.poolUsed + sg.snapshot.length = snapshotBytes (insertRecord _ _)
    rw [snapshotBytes_perm hperm]
    simp only [snapshotBytes, newRecord]
    omega

/-! ### Merging into a held record (R101 to R103, R115, R116) -/

theorem replaceRecord_bytes {r r' : Record} {rs : List Record} (ha : ascending rs) (hr : r ∈ rs)
    (hn : r'.number = r.number) :
    snapshotBytes (replaceRecord r' rs) + r.snapshot.length = snapshotBytes rs + r'.snapshot.length := by
  induction rs with
  | nil => cases hr
  | cons x xs ih =>
    obtain ⟨hx, hxs⟩ := List.pairwise_cons.1 ha
    rcases List.mem_cons.1 hr with rfl | hr
    · have hrest : replaceRecord r' xs = xs := by
        refine (List.map_congr_left (fun y hy => ?_)).trans (List.map_id xs)
        have : y.number ≠ r'.number := fun he => by
          have := hx y hy
          rw [he, hn] at this
          exact lt_irrefl _ this
        simp [this]
      have hhead : replaceRecord r' (r :: xs) = r' :: replaceRecord r' xs := by simp [replaceRecord, hn]
      rw [hhead, hrest]
      simp only [snapshotBytes]
      omega
    · have hne : x.number ≠ r'.number := fun he => by
        have := hx r hr
        rw [he, hn] at this
        exact lt_irrefl _ this
      have hhead : replaceRecord r' (x :: xs) = x :: replaceRecord r' xs := by simp [replaceRecord, hne]
      have := ih hxs hr
      rw [hhead]
      simp only [snapshotBytes]
      omega

/-- Records in ascending number are told apart by their numbers. -/
theorem ascending_unique {rs : List Record} (ha : ascending rs) {x y : Record} (hx : x ∈ rs) (hy : y ∈ rs)
    (he : x.number = y.number) : x = y := by
  induction rs with
  | nil => cases hx
  | cons z zs ih =>
    obtain ⟨hz, hzs⟩ := List.pairwise_cons.1 ha
    rcases List.mem_cons.1 hx with hxz | hx <;> rcases List.mem_cons.1 hy with hyz | hy
    · rw [hxz, hyz]
    · have := hz y hy
      rw [← he, hxz] at this
      exact absurd this (lt_irrefl _)
    · have := hz x hx
      rw [he, hyz] at this
      exact absurd this (lt_irrefl _)
    · exact ih hzs hx hy

/-- A held record replaced by one of the same number, module and code that is sound and fits keeps the form. -/
theorem History.wf_replace {h : History} (hw : h.wf) {r r' : Record} (hr : r ∈ h.records)
    (hkey : r'.number = r.number ∧ r'.module = r.module ∧ r'.code = r.code) (hs : r'.sound)
    (hroom : h.poolUsed - r.snapshot.length + r'.snapshot.length ≤ poolSize) :
    ({ h with records := replaceRecord r' h.records,
              poolUsed := h.poolUsed - r.snapshot.length + r'.snapshot.length } : History).wf := by
  obtain ⟨ha, ho, hl, hsound, hp, hb, hn⟩ := hw
  have hbytes := replaceRecord_bytes ha hr hkey.1
  have hle : r.snapshot.length ≤ snapshotBytes h.records := by
    have hsplit : ∀ rs : List Record, r ∈ rs → r.snapshot.length ≤ snapshotBytes rs := by
      intro rs hmem
      induction rs with
      | nil => cases hmem
      | cons x xs ih =>
        simp only [snapshotBytes]
        rcases List.mem_cons.1 hmem with rfl | hmem
        · omega
        · have := ih hmem
          omega
    exact hsplit _ hr
  have hsame : ∀ x ∈ h.records, x.number = r'.number → x = r := by
    intro x hx he
    exact ascending_unique ha hx hr (he.trans hkey.1)
  have hmap : ∀ x ∈ h.records, let y := if x.number = r'.number then r' else x
      y.number = x.number ∧ y.module = x.module ∧ y.code = x.code := by
    intro x hx
    by_cases he : x.number = r'.number
    · have := hsame x hx he
      subst this
      simp [hkey]
    · simp [he]
  refine ⟨?_, ?_, by simpa [replaceRecord] using hl, ?_, ?_, hroom, hn⟩
  · refine List.pairwise_map.2 (List.Pairwise.imp_of_mem (fun {a b} hma hmb hab => ?_) ha)
    rw [(hmap a hma).1, (hmap b hmb).1]
    exact hab
  · refine List.pairwise_map.2 (List.Pairwise.imp_of_mem (fun {a b} hma hmb hab => ?_) ho)
    rw [(hmap a hma).2.1, (hmap b hmb).2.1, (hmap a hma).2.2, (hmap b hmb).2.2]
    exact hab
  · intro x hx
    obtain ⟨y, hy, rfl⟩ := List.mem_map.1 hx
    by_cases he : y.number = r'.number
    · simpa [he] using hs
    · simpa [he] using hsound y hy
  · show h.poolUsed - r.snapshot.length + r'.snapshot.length = snapshotBytes (replaceRecord r' h.records)
    omega

theorem markChanged_keeps (before after : Record) :
    (markChanged before after).number = after.number ∧ (markChanged before after).module = after.module
      ∧ (markChanged before after).code = after.code ∧ (markChanged before after).snapshot = after.snapshot
      ∧ (markChanged before after).state = after.state ∧ (markChanged before after).sighted = after.sighted := by
  unfold markChanged
  split <;> simp

theorem mergedSnapshot_fits (r : Record) (sn : List Byte) (free : Nat) :
    (mergedSnapshot r sn free).1.length ≤ free + r.snapshot.length := by
  unfold mergedSnapshot
  repeat' split
  all_goals simp_all

/-- A merge keeps the form of the table (R100). -/
theorem History.wf_merge {h : History} (hw : h.wf) (sg : Sighting) (n : Word16) (hs : sg.state ≠ .gone) :
    (h.merge sg n).1.wf := by
  unfold merge
  split
  · rename_i r hfind
    have hr : r ∈ h.records := List.mem_of_find?_eq_some hfind
    have hrs : r.sound := hw.2.2.2.1 r hr
    have hpool : h.poolUsed ≤ poolSize := hw.2.2.2.2.2.1
    split
    · have key := markChanged_keeps r
        { r with
          state := if r.state = .active ∨ sg.state = .active then .active else .stored,
          stamps := widenedStamps r.stamps sg.stamps,
          predates := r.predates || (takesStamp r.stamps sg.stamps && sg.predates),
          refUnset := r.refUnset || (takesStamp r.stamps sg.stamps && sg.refUnset) }
      have hsnap : (secondSighting r sg).snapshot.length = r.snapshot.length := by
        exact congrArg List.length key.2.2.2.1
      have hle : r.snapshot.length ≤ h.poolUsed := by
        have := replaceRecord_bytes hw.1 hr (r' := { r with snapshot := [] }) rfl
        simp only [List.length_nil] at this
        have hp := hw.2.2.2.2.1
        omega
      have hwf := wf_replace hw (r' := secondSighting r sg) hr ⟨key.1, key.2.1, key.2.2.1⟩
        ⟨by rw [secondSighting, key.1]; exact hrs.1, fun hg => by
          rw [secondSighting, key.2.2.2.2.1] at hg
          exact absurd hg (by simp only; split <;> simp)⟩
        (by rw [hsnap]; omega)
      have heq : h.poolUsed - r.snapshot.length + (secondSighting r sg).snapshot.length = h.poolUsed := by
        rw [hsnap]
        omega
      rw [heq] at hwf
      exact hwf
    · have hle : r.snapshot.length ≤ h.poolUsed := by
        have := replaceRecord_bytes hw.1 hr (r' := { r with snapshot := [] }) rfl
        simp only [List.length_nil] at this
        have hp := hw.2.2.2.2.1
        omega
      have hfit := mergedSnapshot_fits r sg.snapshot h.freePool
      have key := markChanged_keeps r
        { r with
          state := sg.state, severity := sg.severity, total := mergedTotal r sg.count, box := sg.count,
          stamps := mergedStamps r.stamps sg.stamps, predates := r.predates || sg.predates,
          refUnset := r.refUnset || sg.refUnset, snapLost := (mergedSnapshot r sg.snapshot h.freePool).2,
          snapshot := (mergedSnapshot r sg.snapshot h.freePool).1, sighted := true, sweepNumber := n }
      refine wf_replace hw (r' := firstSighting r sg h.freePool n) hr ⟨key.1, key.2.1, key.2.2.1⟩
        ⟨by rw [firstSighting, key.1]; exact hrs.1, fun hg => by
          rw [firstSighting, key.2.2.2.2.1] at hg
          exact absurd hg hs⟩ ?_
      have : (firstSighting r sg h.freePool n).snapshot = (mergedSnapshot r sg.snapshot h.freePool).1 := key.2.2.2.1
      rw [this]
      simp only [freePool] at hfit ⊢
      omega
  · rename_i hfind
    split
    · rename_i h' hroom
      obtain ⟨hw', hsub, hl, hpool, _⟩ := makeRoom_spec hw hroom
      refine wf_create hw' n hl hpool hs (fun r hr hc => ?_)
      have := List.find?_eq_none.1 hfind r (hsub.subset hr)
      simp [Record.isOf, hc.1, hc.2] at this
    · exact hw

/-! ### Sightings of a page -/

theorem decodeStatus_ne_gone (bs : List Byte) (f : Option StatusField) : (decodeStatus bs f).1 ≠ RecordState.gone := by
  cases f with
  | none => simp [decodeStatus]
  | some f =>
    simp only [decodeStatus]
    split <;> simp

/-- No sighting is GONE (R86). -/
theorem decodePage_state {p : Profile} {sn : Option RefSnapshot} {m : ModuleIndex} {bs : List Byte} {sg : Sighting}
    (h : sg ∈ decodePage p sn m bs) : sg.state ≠ .gone := by
  obtain ⟨record, _, hd⟩ := List.mem_filterMap.1 h
  unfold decodeRecord at hd
  simp only at hd
  split at hd
  · cases hd
  · simp only [Option.some.injEq] at hd
    subst hd
    exact decodeStatus_ne_gone record p.status

end Sys2Proof.Machine
end

