-- ==== Sys2Proof/Laws/Line.lean ====
section
/-! SUPPORT. What samples do to line S through its filter (R140). -/

namespace Sys2Proof.Machine

@[simp] theorem State.takeSamples_zero (s : State) (x : Level) : s.takeSamples x 0 = s := rfl

@[simp] theorem State.takeSamples_succ (s : State) (x : Level) (n : Nat) :
    s.takeSamples x (n + 1) = (s.takeSample x).takeSamples x n := rfl

/-- A row of samples is two rows, one after the other. -/
theorem State.takeSamples_add (x : Level) (m n : Nat) :
    ∀ s : State, s.takeSamples x (m + n) = (s.takeSamples x m).takeSamples x n := by
  induction m with
  | zero => intro s; rw [Nat.zero_add]; rfl
  | succ m ih => intro s; rw [Nat.succ_add]; exact ih _

@[simp] theorem Line.level_idleFor (l : Line) (n : Nat) : (l.idleFor n).level = l.level := by
  unfold Line.idleFor
  cases h : l.level <;> simp [h]

@[simp] theorem Line.filterRun_idleFor (l : Line) (n : Nat) : (l.idleFor n).filterRun = l.filterRun := by
  unfold Line.idleFor
  cases l.level <;> rfl

/-- Two stretches of idle time are one. -/
theorem Line.idleFor_idleFor (l : Line) (m n : Nat) : (l.idleFor m).idleFor n = l.idleFor (m + n) := by
  unfold Line.idleFor longestIdle
  cases h : l.level
  · simp [h]
  · simp only
    congr 1
    omega

/-- A sample that agrees with the filtered level ends the filter run. -/
theorem State.takeSample_agree (s : State) :
    s.takeSample s.line.level = s.withLine { s.line.idleFor s.samplePeriod with filterRun := 0 } := by
  simp [State.takeSample]

/-- A sample that disagrees, the fourth in a row excepted, adds one to the filter run. -/
theorem State.takeSample_disagree {s : State} {x : Level} (h : x ≠ s.line.level) (hr : s.line.filterRun < 3) :
    s.takeSample x = s.withLine { s.line.idleFor s.samplePeriod with filterRun := s.line.filterRun + 1 } := by
  simp only [State.takeSample, Line.level_idleFor, Line.filterRun_idleFor]
  rw [if_neg h, if_neg (by omega)]

/-- The fourth disagreeing sample in a row is an edge. -/
theorem State.takeSample_edge {s : State} {x : Level} (h : x ≠ s.line.level) (hr : 3 ≤ s.line.filterRun) :
    s.takeSample x = (s.withLine (s.line.idleFor s.samplePeriod)).lineEdge x := by
  simp only [State.takeSample, Line.level_idleFor, Line.filterRun_idleFor]
  rw [if_neg h, if_pos (by omega)]

end Sys2Proof.Machine
end

