-- ==== Sys2Proof/Laws/PerInstr.lean ====
section
/-! SUPPORT. A statement made of every command as syntax: the bytes that a well-formed command carries fit a host frame's
payload (R166). -/

namespace Sys2Proof.Laws.CarriedBytes

/-- The data bytes a command carries: a request's payload, a frame's data or body. -/
def carried : Instr → List Byte
  | .ident payload => payload
  | .status payload => payload
  | .tablePut payload => payload
  | .tableGet payload => payload
  | .tableRemove payload => payload
  | .profileLoad payload => payload
  | .profileGet payload => payload
  | .profileUnload payload => payload
  | .bind payload => payload
  | .decline payload => payload
  | .bindingsGet payload => payload
  | .settingsPut payload => payload
  | .settingsGet payload => payload
  | .referenceSet payload => payload
  | .sweep payload => payload
  | .halt payload => payload
  | .channelResume payload => payload
  | .historyRead payload => payload
  | .historyPurge payload => payload
  | .reset payload => payload
  | .unknownKindRequest _ payload => payload
  | .segment _ _ data => data
  | .canFrameReceived _ frame => frame.data
  | .lineFrameReceived bytes => bytes
  | _ => []

/-- The bytes a well-formed command carries are at most 250. -/
def Statement (i : Instr) : Prop := i.wellFormed = true → (carried i).length ≤ 250

theorem ident (payload : List Byte) : Statement (.ident payload) := fun h => of_decide_eq_true h

theorem status (payload : List Byte) : Statement (.status payload) := fun h => of_decide_eq_true h

theorem tablePut (payload : List Byte) : Statement (.tablePut payload) := fun h => of_decide_eq_true h

theorem tableGet (payload : List Byte) : Statement (.tableGet payload) := fun h => of_decide_eq_true h

theorem tableRemove (payload : List Byte) : Statement (.tableRemove payload) := fun h => of_decide_eq_true h

theorem profileLoad (payload : List Byte) : Statement (.profileLoad payload) := fun h => of_decide_eq_true h

theorem profileGet (payload : List Byte) : Statement (.profileGet payload) := fun h => of_decide_eq_true h

theorem profileUnload (payload : List Byte) : Statement (.profileUnload payload) := fun h => of_decide_eq_true h

theorem bind (payload : List Byte) : Statement (.bind payload) := fun h => of_decide_eq_true h

theorem decline (payload : List Byte) : Statement (.decline payload) := fun h => of_decide_eq_true h

theorem bindingsGet (payload : List Byte) : Statement (.bindingsGet payload) := fun h => of_decide_eq_true h

theorem settingsPut (payload : List Byte) : Statement (.settingsPut payload) := fun h => of_decide_eq_true h

theorem settingsGet (payload : List Byte) : Statement (.settingsGet payload) := fun h => of_decide_eq_true h

theorem referenceSet (payload : List Byte) : Statement (.referenceSet payload) := fun h => of_decide_eq_true h

theorem sweep (payload : List Byte) : Statement (.sweep payload) := fun h => of_decide_eq_true h

theorem halt (payload : List Byte) : Statement (.halt payload) := fun h => of_decide_eq_true h

theorem channelResume (payload : List Byte) : Statement (.channelResume payload) := fun h => of_decide_eq_true h

theorem historyRead (payload : List Byte) : Statement (.historyRead payload) := fun h => of_decide_eq_true h

theorem historyPurge (payload : List Byte) : Statement (.historyPurge payload) := fun h => of_decide_eq_true h

theorem reset (payload : List Byte) : Statement (.reset payload) := fun h => of_decide_eq_true h

theorem unknownKindRequest (kind : Byte) (payload : List Byte) : Statement (.unknownKindRequest kind payload) :=
  fun h => of_decide_eq_true (Bool.and_eq_true_iff.mp h).2

theorem hostFrameReceived (bytes : List LineByte) : Statement (.hostFrameReceived bytes) := fun _ => Nat.zero_le 250

theorem hostGapTimerExpiry : Statement (.hostGapTimerExpiry) := fun _ => Nat.zero_le 250

theorem outboundFrameSent : Statement (.outboundFrameSent) := fun _ => Nat.zero_le 250

theorem dialogStart (ch : Channel) : Statement (.dialogStart ch) := fun _ => Nat.zero_le 250

theorem idReply (ch : Channel) (tag : Word16) (clock : ClockBytes) (flags : Byte) :
    Statement (.idReply ch tag clock flags) := fun _ => Nat.zero_le 250

theorem pageHead (ch : Channel) (page count : Byte) (length : Word16) (flags : Byte) (sum : Word16) :
    Statement (.pageHead ch page count length flags sum) := fun _ => Nat.zero_le 250

theorem segment (ch : Channel) (index : BitVec 3) (data : List Byte) : Statement (.segment ch index data) := fun h =>
  (of_decide_eq_true (Bool.and_eq_true_iff.mp h).2).trans (by cases ch <;> decide)

theorem holdOn (ch : Channel) (n : Byte) : Statement (.holdOn ch n) := fun _ => Nat.zero_le 250

theorem deny (ch : Channel) (reason : Byte) : Statement (.deny ch reason) := fun _ => Nat.zero_le 250

theorem eraseDone (ch : Channel) : Statement (.eraseDone ch) := fun _ => Nat.zero_le 250

theorem responseTimerExpiry (ch : Channel) : Statement (.responseTimerExpiry ch) := fun _ => Nat.zero_le 250

theorem bootTimerExpiry (ch : Channel) : Statement (.bootTimerExpiry ch) := fun _ => Nat.zero_le 250

theorem keepAwakeTimerExpiry (ch : Channel) : Statement (.keepAwakeTimerExpiry ch) := fun _ => Nat.zero_le 250

theorem referralTimerExpiry (ch : Channel) : Statement (.referralTimerExpiry ch) := fun _ => Nat.zero_le 250

theorem canAttemptStart (c : CanChannel) : Statement (.canAttemptStart c) := fun _ => Nat.zero_le 250

theorem canFrameSent (c : CanChannel) : Statement (.canFrameSent c) := fun _ => Nat.zero_le 250

theorem arbitrationLost (c : CanChannel) : Statement (.arbitrationLost c) := fun _ => Nat.zero_le 250

theorem canTransmitError (c : CanChannel) : Statement (.canTransmitError c) := fun _ => Nat.zero_le 250

theorem canReceiveError (c : CanChannel) : Statement (.canReceiveError c) := fun _ => Nat.zero_le 250

theorem canFrameReceived (c : CanChannel) (frame : CanFrame) : Statement (.canFrameReceived c frame) := fun h =>
  (of_decide_eq_true (Bool.and_eq_true_iff.mp (Bool.and_eq_true_iff.mp h).1).1).trans (by decide)

theorem foreignTesterRequest (c : CanChannel) (address : BitVec 5) : Statement (.foreignTesterRequest c address) := fun _ => Nat.zero_le 250

theorem busDominantTimeout (c : CanChannel) : Statement (.busDominantTimeout c) := fun _ => Nat.zero_le 250

theorem idleSequence (c : CanChannel) : Statement (.idleSequence c) := fun _ => Nat.zero_le 250

theorem gapTimerExpiry (c : CanChannel) : Statement (.gapTimerExpiry c) := fun _ => Nat.zero_le 250

theorem windowTimerExpiry (c : CanChannel) : Statement (.windowTimerExpiry c) := fun _ => Nat.zero_le 250

theorem lineTransmitStart : Statement (.lineTransmitStart) := fun _ => Nat.zero_le 250

theorem lineFrameSent : Statement (.lineFrameSent) := fun _ => Nat.zero_le 250

theorem lineFrameAbandoned : Statement (.lineFrameAbandoned) := fun _ => Nat.zero_le 250

theorem turnaroundTimerExpiry : Statement (.turnaroundTimerExpiry) := fun _ => Nat.zero_le 250

theorem lineFrameReceived (bytes : List Byte) : Statement (.lineFrameReceived bytes) := fun h =>
  (of_decide_eq_true (Bool.and_eq_true_iff.mp h).2).trans (by decide)

theorem lineFrameDiscarded : Statement (.lineFrameDiscarded) := fun _ => Nat.zero_le 250

theorem wakePatternStart : Statement (.wakePatternStart) := fun _ => Nat.zero_le 250

theorem wakePatternEnd : Statement (.wakePatternEnd) := fun _ => Nat.zero_le 250

theorem stuckTimerExpiry : Statement (.stuckTimerExpiry) := fun _ => Nat.zero_le 250

theorem stuckClearTimerExpiry : Statement (.stuckClearTimerExpiry) := fun _ => Nat.zero_le 250

theorem attentionPulse (width : Nat) : Statement (.attentionPulse width) := fun _ => Nat.zero_le 250

theorem widthOverflow : Statement (.widthOverflow) := fun _ => Nat.zero_le 250

theorem releaseTimerExpiry : Statement (.releaseTimerExpiry) := fun _ => Nat.zero_le 250

theorem tpresChange (active : Bool) : Statement (.tpresChange active) := fun _ => Nat.zero_le 250

theorem releaseHoldTimerExpiry (ch : Channel) : Statement (.releaseHoldTimerExpiry ch) := fun _ => Nat.zero_le 250

theorem keyOff : Statement (.keyOff) := fun _ => Nat.zero_le 250

theorem keyOn : Statement (.keyOn) := fun _ => Nat.zero_le 250

theorem settleTimerExpiry : Statement (.settleTimerExpiry) := fun _ => Nat.zero_le 250

theorem chassisTimeAdvance : Statement (.chassisTimeAdvance) := fun _ => Nat.zero_le 250

theorem fullReset (pins : ResetPins) : Statement (.fullReset pins) := fun _ => Nat.zero_le 250

theorem lineEdge (level : Level) (samples : Nat) : Statement (.lineEdge level samples) := fun _ => Nat.zero_le 250

theorem receiverLocked (intervals : List Nat) (stop : Level) : Statement (.receiverLocked intervals stop) := fun _ => Nat.zero_le 250

end Sys2Proof.Laws.CarriedBytes
end

