-- ==== Sys2Proof/Laws/Works.lean ====
section
/-! SUPPORT. What the part's own work can do, said once per shared operation: it queues notices and nothing else on the
host link, it leaves the store, the references, the settings, the key, the straps, the pins and the command queue as they
are, it never writes a configured field of the module table, and it keeps the form of the history table. Each lemma has
the form "if `s` was reached from `r` by such work, so is the operation's result", so that `simp` chains them. -/

namespace Sys2Proof.Machine

/-! ### Notices alone -/

/-- `m` is `l` after some notices have been queued or dropped, in order. -/
def Link.Notified (l m : Link) : Prop := ∃ ns : List Notice, m = ns.foldl Link.notify l

theorem Link.Notified.refl (l : Link) : l.Notified l := ⟨[], rfl⟩

theorem Link.Notified.notify {l m : Link} (h : l.Notified m) (n : Notice) : l.Notified (m.notify n) := by
  obtain ⟨ns, rfl⟩ := h
  exact ⟨ns ++ [n], by simp⟩

theorem Link.notify_keeps (l : Link) (n : Notice) :
    (l.notify n).assembler = l.assembler ∧ (l.notify n).requests = l.requests
      ∧ (l.notify n).inService = l.inService ∧ (l.notify n).repliesHeld = l.repliesHeld
      ∧ l.outbound <+: (l.notify n).outbound := by
  unfold notify
  split <;> simp [repliesHeld, OutFrame.isNotice]

theorem Link.notify_bound {l : Link} (h : l.noticesHeld ≤ 12) (n : Notice) : (l.notify n).noticesHeld ≤ 12 := by
  unfold notify
  split
  · rename_i hlt
    simp only [noticesHeld, List.filter_append, List.length_append] at hlt ⊢
    simp only [OutFrame.isNotice, List.filter_cons, List.filter_nil, if_true, List.length_cons, List.length_nil]
    omega
  · exact h

/-- What is queued or dropped as a notice leaves the rest of the link, keeps what was queued in front, and never takes
the notices above 12 (R168). -/
theorem Link.Notified.keeps {l m : Link} (h : l.Notified m) :
    m.assembler = l.assembler ∧ m.requests = l.requests ∧ m.inService = l.inService ∧ m.repliesHeld = l.repliesHeld
      ∧ l.outbound <+: m.outbound ∧ (l.noticesHeld ≤ 12 → m.noticesHeld ≤ 12) := by
  obtain ⟨ns, rfl⟩ := h
  induction ns generalizing l with
  | nil => simp
  | cons n ns ih =>
    have h1 := Link.notify_keeps l n
    have h2 := ih (l := l.notify n)
    refine ⟨h2.1.trans h1.1, h2.2.1.trans h1.2.1, h2.2.2.1.trans h1.2.2.1, h2.2.2.2.1.trans h1.2.2.2.1,
      h1.2.2.2.2.trans h2.2.2.2.2.1, fun h => h2.2.2.2.2.2 (Link.notify_bound h n)⟩

theorem Link.Notified.bounded {l m : Link} (h : l.Notified m) (hb : l.bounded) : m.bounded := by
  obtain ⟨_, hr, hi, hp, _, hn⟩ := h.keeps
  exact ⟨hr ▸ hb.1, hi.trans hb.2.1, hn hb.2.2.1, hp ▸ hb.2.2.2⟩

/-! ### The work -/

/-- `s` is reached from `r` by the part's own work. -/
structure State.Works (r s : State) : Prop where
  store : s.store = r.store
  clock : s.clock = r.clock
  settings : s.settings = r.settings
  key : s.key = r.key
  straps : s.straps = r.straps
  pins : s.pins = r.pins
  pending : s.pending = r.pending
  notified : r.link.Notified s.link
  configured : ∀ i, (s.entry i).configured = (r.entry i).configured
  history : r.history.wf → s.history.wf

variable {r s : State}

@[simp] theorem State.Works.refl (r : State) : r.Works r :=
  ⟨rfl, rfl, rfl, rfl, rfl, rfl, rfl, .refl _, fun _ => rfl, id⟩

theorem State.Works.trans {r s t : State} (h : r.Works s) (k : s.Works t) : r.Works t where
  store := k.store.trans h.store
  clock := k.clock.trans h.clock
  settings := k.settings.trans h.settings
  key := k.key.trans h.key
  straps := k.straps.trans h.straps
  pins := k.pins.trans h.pins
  pending := k.pending.trans h.pending
  notified := by
    obtain ⟨ns, h⟩ := h.notified
    obtain ⟨ms, k⟩ := k.notified
    exact ⟨ns ++ ms, by rw [k, h, List.foldl_append]⟩
  configured i := (k.configured i).trans (h.configured i)
  history w := k.history (h.history w)

@[simp] theorem State.Works.withSlot (h : r.Works s) (c : Channel) (x : Slot) : r.Works (s.withSlot c x) := { h with }
@[simp] theorem State.Works.withWaitingFrames (h : r.Works s) (c : Channel) (x : List TxFrame) :
    r.Works (s.withWaitingFrames c x) := { h with }
@[simp] theorem State.Works.withCan (h : r.Works s) (k : CanChannel) (x : Can) : r.Works (s.withCan k x) := { h with }
@[simp] theorem State.Works.withLine (h : r.Works s) (x : Line) : r.Works (s.withLine x) := { h with }
@[simp] theorem State.Works.withShareOf (h : r.Works s) (c : Channel) (x : ShareChannel) : r.Works (s.withShareOf c x) :=
  { h with }
@[simp] theorem State.Works.withShareState (h : r.Works s) (c : Channel) (x : ShareState) : r.Works (s.withShareState c x) :=
  { h with }
@[simp] theorem State.Works.withSweep (h : r.Works s) (x : Sweep) : r.Works (s.withSweep x) := { h with }
@[simp] theorem State.Works.withWorkList (h : r.Works s) (c : Channel) (x : List ModuleIndex) : r.Works (s.withWorkList c x) :=
  { h with }
@[simp] theorem State.Works.notify (h : r.Works s) (n : Notice) : r.Works (s.notify n) :=
  { h with notified := h.notified.notify n }
@[simp] theorem State.Works.recomputeOutputs (h : r.Works s) : r.Works s.recomputeOutputs := { h with }

theorem State.Works.withEntry (h : r.Works s) {i : ModuleIndex} {e : Entry} (he : e.configured = (s.entry i).configured) :
    r.Works (s.withEntry i e) :=
  { h with
    configured := fun j => by
      by_cases hij : i = j
      · subst hij
        rw [State.entry_withEntry, he]
        exact h.configured i
      · rw [State.entry_withEntry_other s hij]
        exact h.configured j }

@[simp] theorem State.Works.withOutcome (h : r.Works s) (i : ModuleIndex) (o : Option SweepOutcome) (w : Word16) :
    r.Works (s.withEntry i { s.entry i with lastOutcome := o, lastSweep := w }) := h.withEntry rfl
@[simp] theorem State.Works.withAttention (h : r.Works s) (i : ModuleIndex) (b : Bool) :
    r.Works (s.withEntry i { s.entry i with attention := b }) := h.withEntry rfl
@[simp] theorem State.Works.withResolution (h : r.Works s) (i : ModuleIndex) (x : Resolution) :
    r.Works (s.withEntry i { s.entry i with resolution := x }) := h.withEntry rfl

theorem State.Works.withHistory (h : r.Works s) {x : History} (hx : s.history.wf → x.wf) : r.Works (s.withHistory x) :=
  { h with history := fun w => hx (h.history w) }

theorem State.Works.foldl {α : Type} {f : State → α → State} (hf : ∀ {t : State} (a : α), r.Works t → r.Works (f t a))
    (h : r.Works s) (as : List α) : r.Works (as.foldl f s) := by
  induction as generalizing s with
  | nil => exact h
  | cons a as ih => exact ih (hf a h)

/-! ### The sweep controller -/

@[simp] theorem State.Works.recordOutcome (h : r.Works s) (i : ModuleIndex) (o : SweepOutcome) (p n : Nat) :
    r.Works (s.recordOutcome i o p n) := by
  unfold State.recordOutcome
  try dsimp only
  simp (maxDischargeDepth := 30) [h]

@[simp] theorem State.Works.weighAppend (h : r.Works s) (i : ModuleIndex) :
    r.Works (s.weighAppend i) := by
  unfold State.weighAppend
  try dsimp only
  (repeat' split) <;> simp (maxDischargeDepth := 30) [h]

@[simp] theorem State.Works.abortList (h : r.Works s) (c : Channel) :
    r.Works (s.abortList c) := by
  unfold State.abortList
  exact State.Works.foldl (fun i ht => by simp (maxDischargeDepth := 30) [ht]) (by simp (maxDischargeDepth := 30) [h]) _

@[simp] theorem State.Works.enlist (h : r.Works s) (i : ModuleIndex) :
    r.Works (s.enlist i) := by
  unfold State.enlist
  try dsimp only
  (repeat' split) <;> simp (maxDischargeDepth := 30) [h]

@[simp] theorem State.Works.startSweep (h : r.Works s) (k : SweepKind) (o : SweepOptions) (x : Scope) :
    r.Works (s.startSweep k o x) := by
  unfold State.startSweep
  exact State.Works.foldl (fun i ht => by simp (maxDischargeDepth := 30) [ht]) (by simp (maxDischargeDepth := 30) [h]) _

@[simp] theorem State.Works.endSweep (h : r.Works s) (x : EndReason) :
    r.Works (s.endSweep x) := by
  unfold State.endSweep
  try dsimp only
  simp (maxDischargeDepth := 30) [h]

@[simp] theorem State.Works.attentionCheck (h : r.Works s) :
    r.Works (s.attentionCheck) := by
  unfold State.attentionCheck
  try dsimp only
  (repeat' split) <;> simp (maxDischargeDepth := 30) [h]

@[simp] theorem State.Works.settleSweep (h : r.Works s) (n : Nat) :
    r.Works (State.settleSweep n s) := by
  induction n generalizing s with
  | zero => exact h
  | succ n ih =>
    unfold State.settleSweep
    (repeat' split)
    · simp (maxDischargeDepth := 30) [h]
    · exact ih (by simp (maxDischargeDepth := 30) [h])
    · exact h

/-! ### Frames -/

@[simp] theorem State.Works.putHolding (h : r.Works s) (c : Channel) (f : TxFrame) :
    r.Works (s.putHolding c f) := by
  unfold State.putHolding
  try dsimp only
  (repeat' split) <;> simp (maxDischargeDepth := 30) [h]

@[simp] theorem State.Works.handNext (h : r.Works s) (c : Channel) :
    r.Works (s.handNext c) := by
  unfold State.handNext
  try dsimp only
  (repeat' split) <;> simp (maxDischargeDepth := 30) [h]

@[simp] theorem State.Works.hand (h : r.Works s) (c : Channel) (q : TxRequest) (e : Option Nat) :
    r.Works (s.hand c q e) := by
  unfold State.hand
  try dsimp only
  simp (maxDischargeDepth := 30) [h]

@[simp] theorem State.Works.emptyHolding (h : r.Works s) (c : Channel) :
    r.Works (s.emptyHolding c) := by
  unfold State.emptyHolding
  try dsimp only
  (repeat' split) <;> simp (maxDischargeDepth := 30) [h]

@[simp] theorem State.Works.dropRequests (h : r.Works s) (c : Channel) (p : TxFrame → Bool) :
    r.Works (s.dropRequests c p) := by
  unfold State.dropRequests
  try dsimp only
  (repeat' split) <;> simp (maxDischargeDepth := 30) [h]

@[simp] theorem State.Works.withdraw (h : r.Works s) (c : Channel) :
    r.Works (s.withdraw c) := by
  unfold State.withdraw
  simp [h]

@[simp] theorem State.Works.disown (h : r.Works s) (c : Channel) :
    r.Works (s.disown c) := by
  unfold State.disown
  try dsimp only
  (repeat' split) <;> simp (maxDischargeDepth := 30) [h]

@[simp] theorem State.Works.cut (h : r.Works s) (c : Channel) :
    r.Works (s.cut c) := by
  unfold State.cut
  try dsimp only
  (repeat' split) <;> simp (maxDischargeDepth := 30) [h]

@[simp] theorem State.Works.takeBases (h : r.Works s) (k : CanChannel) :
    r.Works (s.takeBases k) := by
  unfold State.takeBases
  try dsimp only
  simp (maxDischargeDepth := 30) [h]

@[simp] theorem State.Works.stopListening (h : r.Works s) (c : Channel) :
    r.Works (s.stopListening c) := by
  unfold State.stopListening
  try dsimp only
  (repeat' split) <;> simp (maxDischargeDepth := 30) [h]

@[simp] theorem State.Works.freeSlot (h : r.Works s) (c : Channel) :
    r.Works (s.freeSlot c) := by
  unfold State.freeSlot
  try dsimp only
  (repeat' split) <;> simp (maxDischargeDepth := 30) [h]

@[simp] theorem State.Works.startListening (h : r.Works s) (c : Channel) :
    r.Works (s.startListening c) := by
  unfold State.startListening
  try dsimp only
  (repeat' split) <;> simp (maxDischargeDepth := 30) [h]

/-! ### The dialog -/

@[simp] theorem State.Works.loadResponse (h : r.Works s) (c : Channel) :
    r.Works (s.loadResponse c) := by
  unfold State.loadResponse
  try dsimp only
  simp (maxDischargeDepth := 30) [h]

@[simp] theorem State.Works.passOutcome (h : r.Works s) (c : Channel) (o : SweepOutcome) :
    r.Works (s.passOutcome c o) := by
  unfold State.passOutcome
  try dsimp only
  (repeat' split) <;> simp (maxDischargeDepth := 30) [h]

@[simp] theorem State.Works.endDialog (h : r.Works s) (c : Channel) (o : SweepOutcome) :
    r.Works (s.endDialog c o) := by
  unfold State.endDialog
  try dsimp only
  (repeat' split) <;> simp (maxDischargeDepth := 30) [h]

@[simp] theorem State.Works.abortSlot (h : r.Works s) (c : Channel) :
    r.Works (s.abortSlot c) := by
  unfold State.abortSlot
  try dsimp only
  (repeat' split) <;> simp (maxDischargeDepth := 30) [h]

@[simp] theorem State.Works.park (h : r.Works s) (c : Channel) (x : ResumePoint) :
    r.Works (s.park c x) := by
  unfold State.park
  try dsimp only
  simp (maxDischargeDepth := 30) [h]

@[simp] theorem State.Works.resumeSlot (h : r.Works s) (c : Channel) :
    r.Works (s.resumeSlot c) := by
  unfold State.resumeSlot
  try dsimp only
  (repeat' split) <;> simp (maxDischargeDepth := 30) [h]

@[simp] theorem State.Works.enterPage (h : r.Works s) (c : Channel) (n : Nat) :
    r.Works (s.enterPage c n) := by
  unfold State.enterPage
  try dsimp only
  (repeat' split) <;> simp (maxDischargeDepth := 30) [h]

@[simp] theorem State.Works.enterErase (h : r.Works s) (c : Channel) :
    r.Works (s.enterErase c) := by
  unfold State.enterErase
  try dsimp only
  (repeat' split) <;> simp (maxDischargeDepth := 30) [h]

@[simp] theorem State.Works.afterCompleteRead (h : r.Works s) (c : Channel) :
    r.Works (s.afterCompleteRead c) := by
  unfold State.afterCompleteRead
  try dsimp only
  (repeat' split) <;> simp (maxDischargeDepth := 30) [h]

@[simp] theorem State.Works.resolve (h : r.Works s) (c : Channel) (x : Resolution) :
    r.Works (s.resolve c x) := by
  unfold State.resolve
  try dsimp only
  (repeat' split) <;> simp (maxDischargeDepth := 30) [h]

@[simp] theorem State.Works.settleFound (h : r.Works s) (c : Channel) (x : ProfileRef) :
    r.Works (s.settleFound c x) := by
  unfold State.settleFound
  try dsimp only
  simp (maxDischargeDepth := 30) [h]

@[simp] theorem State.Works.enterReferred (h : r.Works s) (c : Channel) (x : Slot) :
    r.Works (s.enterReferred c x) := by
  unfold State.enterReferred
  simp (maxDischargeDepth := 30) [h]

@[simp] theorem State.Works.refer (h : r.Works s) (c : Channel) (t : Word16) :
    r.Works (s.refer c t) := by
  unfold State.refer
  try dsimp only
  (repeat' split) <;> simp (maxDischargeDepth := 30) [h]

@[simp] theorem State.Works.settleLookup (h : r.Works s) (c : Channel) (t : Word16) :
    r.Works (s.settleLookup c t) := by
  unfold State.settleLookup
  try dsimp only
  (repeat' split) <;> simp (maxDischargeDepth := 30) [h]

@[simp] theorem State.Works.settleProfile (h : r.Works s) (c : Channel) (t : Word16) :
    r.Works (s.settleProfile c t) := by
  unfold State.settleProfile
  try dsimp only
  (repeat' split) <;> simp (maxDischargeDepth := 30) [h]

@[simp] theorem State.Works.resumeRefer (h : r.Works s) (c : Channel) (t : Word16) :
    r.Works (s.resumeRefer c t) := by
  unfold State.resumeRefer
  try dsimp only
  (repeat' split) <;> simp (maxDischargeDepth := 30) [h]

@[simp] theorem State.Works.settleResumed (h : r.Works s) (c : Channel) (t : Word16) (b : Bool) :
    r.Works (s.settleResumed c t b) := by
  unfold State.settleResumed
  try dsimp only
  (repeat' split) <;> simp (maxDischargeDepth := 30) [h]

@[simp] theorem State.Works.wakeSlot (h : r.Works s) (c : Channel) (t : Word16) :
    r.Works (s.wakeSlot c t) := by
  unfold State.wakeSlot
  try dsimp only
  (repeat' split) <;> simp (maxDischargeDepth := 30) [h]

@[simp] theorem State.Works.wakeWaiting (h : r.Works s) (t : Word16) :
    r.Works (s.wakeWaiting t) := by
  unfold State.wakeWaiting
  exact State.Works.foldl (fun c ht => by simp (maxDischargeDepth := 30) [ht]) h _

@[simp] theorem State.Works.nextIdentityAttempt (h : r.Works s) (c : Channel) :
    r.Works (s.nextIdentityAttempt c) := by
  unfold State.nextIdentityAttempt
  try dsimp only
  (repeat' split) <;> simp (maxDischargeDepth := 30) [h]

@[simp] theorem State.Works.identityExpired (h : r.Works s) (c : Channel) :
    r.Works (s.identityExpired c) := by
  unfold State.identityExpired
  try dsimp only
  (repeat' split) <;> simp (maxDischargeDepth := 30) [h]

@[simp] theorem State.Works.bootExpired (h : r.Works s) (c : Channel) :
    r.Works (s.bootExpired c) := by
  unfold State.bootExpired
  try dsimp only
  (repeat' split) <;> simp (maxDischargeDepth := 30) [h]

@[simp] theorem State.Works.loadBoot (h : r.Works s) (c : Channel) :
    r.Works (s.loadBoot c) := by
  unfold State.loadBoot
  try dsimp only
  (repeat' split) <;> simp (maxDischargeDepth := 30) [h]

@[simp] theorem State.Works.clearSighted (h : r.Works s) (i : ModuleIndex) :
    r.Works (s.withHistory (s.history.clearSighted i)) := by
  exact h.withHistory (fun w => History.wf_clearSighted w i)

@[simp] theorem State.Works.acceptIdentity (h : r.Works s) (c : Channel) (t : Word16) (k : ClockBytes) (f : Byte) :
    r.Works (s.acceptIdentity c t k f) := by
  unfold State.acceptIdentity
  dsimp only
  split
  · simp (maxDischargeDepth := 30) [h]
  · apply State.Works.settleProfile
    split
    · exact (h.withSlot c _).clearSighted _
    · exact h.withSlot c _

@[simp] theorem State.Works.onIdReply (h : r.Works s) (c : Channel) (t : Word16) (k : ClockBytes) (f : Byte) :
    r.Works (s.onIdReply c t k f) := by
  unfold State.onIdReply
  try dsimp only
  (repeat' split) <;> simp (maxDischargeDepth := 30) [h]

@[simp] theorem State.Works.failAttempt (h : r.Works s) (c : Channel) :
    r.Works (s.failAttempt c) := by
  unfold State.failAttempt
  try dsimp only
  (repeat' split) <;> simp (maxDischargeDepth := 30) [h]

@[simp] theorem State.Works.countMerge (h : r.Works s) (c : Channel) (m : MergeReport) :
    r.Works (s.countMerge c m) := by
  unfold State.countMerge
  split <;> simp (maxDischargeDepth := 30) [h]

theorem State.Works.mergeSighting (h : r.Works s) (c : Channel) {g : Sighting} (hg : g.state ≠ .gone) :
    r.Works (State.mergeSighting c s g) := by
  unfold State.mergeSighting
  exact State.Works.countMerge (h.withHistory (fun w => History.wf_merge w g _ hg)) c _

theorem State.Works.mergeAll (h : r.Works s) (c : Channel) {gs : List Sighting} (hg : ∀ g ∈ gs, g.state ≠ .gone) :
    r.Works (gs.foldl (State.mergeSighting c) s) := by
  induction gs generalizing s with
  | nil => exact h
  | cons g gs ih =>
    exact ih (h.mergeSighting c (hg g List.mem_cons_self)) (fun x hx => hg x (List.mem_cons_of_mem g hx))

@[simp] theorem State.Works.mergePage (h : r.Works s) (c : Channel) (p : Profile) (i : ModuleIndex) :
    r.Works (s.mergePage c p i) := by
  unfold State.mergePage
  exact State.Works.withSlot (h.mergeAll c (fun g hg => decodePage_state hg)) c _

@[simp] theorem State.Works.markGone (h : r.Works s) (i : ModuleIndex) :
    r.Works (s.markGone i) := by
  unfold State.markGone
  exact State.Works.withSweep (h.withHistory (fun w => History.wf_markGone w i _)) _

@[simp] theorem State.Works.afterCommit (h : r.Works s) (c : Channel) (i : ModuleIndex) (b : Bool) :
    r.Works (s.afterCommit c i b) := by
  unfold State.afterCommit
  try dsimp only
  (repeat' split) <;> simp (maxDischargeDepth := 30) [h]

@[simp] theorem State.Works.checkSum (h : r.Works s) (c : Channel) :
    r.Works (s.checkSum c) := by
  unfold State.checkSum
  try dsimp only
  (repeat' split) <;> simp (maxDischargeDepth := 30) [h]

@[simp] theorem State.Works.startBurst (h : r.Works s) (c : Channel) :
    r.Works (s.startBurst c) := by
  unfold State.startBurst
  try dsimp only
  simp (maxDischargeDepth := 30) [h]

@[simp] theorem State.Works.nextBurst (h : r.Works s) (c : Channel) :
    r.Works (s.nextBurst c) := by
  unfold State.nextBurst
  try dsimp only
  (repeat' split) <;> simp (maxDischargeDepth := 30) [h]

@[simp] theorem State.Works.onPageHead (h : r.Works s) (c : Channel) (n k l : Nat) (b : Bool) (w : Word16) :
    r.Works (s.onPageHead c n k l b w) := by
  unfold State.onPageHead
  try dsimp only
  (repeat' split) <;> simp (maxDischargeDepth := 30) [h]

@[simp] theorem State.Works.onSegment (h : r.Works s) (c : Channel) (i : BitVec 3) (bs : List Byte) :
    r.Works (s.onSegment c i bs) := by
  unfold State.onSegment
  try dsimp only
  (repeat' split) <;> simp (maxDischargeDepth := 30) [h]

@[simp] theorem State.Works.onHoldOn (h : r.Works s) (c : Channel) (n : Nat) :
    r.Works (s.onHoldOn c n) := by
  unfold State.onHoldOn
  try dsimp only
  (repeat' split) <;> simp (maxDischargeDepth := 30) [h]

@[simp] theorem State.Works.onDeny (h : r.Works s) (c : Channel) :
    r.Works (s.onDeny c) := by
  unfold State.onDeny
  try dsimp only
  (repeat' split) <;> simp (maxDischargeDepth := 30) [h]

@[simp] theorem State.Works.onEraseDone (h : r.Works s) (c : Channel) :
    r.Works (s.onEraseDone c) := by
  unfold State.onEraseDone
  try dsimp only
  (repeat' split) <;> simp (maxDischargeDepth := 30) [h]

@[simp] theorem State.Works.deliver (h : r.Works s) (c : Channel) (v : Service) :
    r.Works (s.deliver c v) := by
  unfold State.deliver
  try dsimp only
  (repeat' split) <;> simp (maxDischargeDepth := 30) [h]

@[simp] theorem State.Works.waitExpired (h : r.Works s) (c : Channel) :
    r.Works (s.waitExpired c) := by
  unfold State.waitExpired
  try dsimp only
  (repeat' split) <;> simp (maxDischargeDepth := 30) [h]

@[simp] theorem State.Works.responseExpired (h : r.Works s) (c : Channel) :
    r.Works (s.responseExpired c) := by
  unfold State.responseExpired
  try dsimp only
  (repeat' split) <;> simp (maxDischargeDepth := 30) [h]

@[simp] theorem State.Works.keepAwakeExpired (h : r.Works s) (c : Channel) :
    r.Works (s.keepAwakeExpired c) := by
  unfold State.keepAwakeExpired
  try dsimp only
  (repeat' split) <;> simp (maxDischargeDepth := 30) [h]

@[simp] theorem State.Works.referralExpired (h : r.Works s) (c : Channel) :
    r.Works (s.referralExpired c) := by
  unfold State.referralExpired
  try dsimp only
  (repeat' split) <;> simp (maxDischargeDepth := 30) [h]

@[simp] theorem State.Works.slotFrameSent (h : r.Works s) (c : Channel) (f : TxFrame) :
    r.Works (s.slotFrameSent c f) := by
  unfold State.slotFrameSent
  try dsimp only
  (repeat' split) <;> simp (maxDischargeDepth := 30) [h]

@[simp] theorem State.Works.slotFrameAbandoned (h : r.Works s) (f : TxFrame) :
    r.Works (s.slotFrameAbandoned f) := by
  unfold State.slotFrameAbandoned
  try dsimp only
  (repeat' split) <;> simp (maxDischargeDepth := 30) [h]

@[simp] theorem State.Works.startDialog (h : r.Works s) (c : Channel) (i : ModuleIndex) :
    r.Works (s.startDialog c i) := by
  unfold State.startDialog
  try dsimp only
  (repeat' split) <;> simp (maxDischargeDepth := 30) [h]

@[simp] theorem State.Works.haltSlot (h : r.Works s) (c : Channel) :
    r.Works (s.haltSlot c) := by
  unfold State.haltSlot
  try dsimp only
  (repeat' split) <;> simp (maxDischargeDepth := 30) [h]

/-! ### The share unit -/

@[simp] theorem State.Works.reopenIfClear (h : r.Works s) (c : Channel) :
    r.Works (s.reopenIfClear c) := by
  unfold State.reopenIfClear
  try dsimp only
  (repeat' split) <;> simp (maxDischargeDepth := 30) [h]

@[simp] theorem State.Works.letGo (h : r.Works s) (c : Channel) : r.Works (s.letGo c) := by
  unfold State.letGo
  (repeat' split) <;> simp [h]

@[simp] theorem State.Works.enterYielded (h : r.Works s) (c : Channel) :
    r.Works (s.enterYielded c) := by
  unfold State.enterYielded
  try dsimp only
  simp (maxDischargeDepth := 30) [h]

@[simp] theorem State.Works.startYield (h : r.Works s) (c : Channel) :
    r.Works (s.startYield c) := by
  unfold State.startYield
  try dsimp only
  (repeat' split) <;> simp (maxDischargeDepth := 30) [h]

@[simp] theorem State.Works.yieldSettle (h : r.Works s) (c : Channel) :
    r.Works (s.yieldSettle c) := by
  unfold State.yieldSettle
  try dsimp only
  (repeat' split) <;> simp (maxDischargeDepth := 30) [h]

@[simp] theorem State.Works.enterSilence (h : r.Works s) (c : Channel) (x : Cause) :
    r.Works (s.enterSilence c x) := by
  unfold State.enterSilence
  try dsimp only
  (repeat' split) <;> simp (maxDischargeDepth := 30) [h]

@[simp] theorem State.Works.silence (h : r.Works s) (c : Channel) (x : Cause) :
    r.Works (s.silence c x) := by
  unfold State.silence
  try dsimp only
  (repeat' split) <;> simp (maxDischargeDepth := 30) [h]

@[simp] theorem State.Works.loadHold (h : r.Works s) (c : Channel) :
    r.Works (s.loadHold c) := by
  unfold State.loadHold
  try dsimp only
  simp (maxDischargeDepth := 30) [h]

@[simp] theorem State.Works.triggerOccurs (h : r.Works s) (c : Channel) :
    r.Works (s.triggerOccurs c) := by
  unfold State.triggerOccurs
  try dsimp only
  (repeat' split) <;> simp (maxDischargeDepth := 30) [h]

@[simp] theorem State.Works.closeStep (h : r.Works s) :
    r.Works (s.closeStep) := by
  unfold State.closeStep
  simp (maxDischargeDepth := 30) [h, allChannels]

@[simp] theorem State.Works.standDown (h : r.Works s) (c : Channel) :
    r.Works (s.standDown c) := by
  unfold State.standDown
  try dsimp only
  (repeat' split) <;> simp (maxDischargeDepth := 30) [h]

@[simp] theorem State.Works.canStandby (h : r.Works s) (k : CanChannel) :
    r.Works (s.canStandby k) := by
  unfold State.canStandby
  try dsimp only
  simp (maxDischargeDepth := 30) [h]

@[simp] theorem State.Works.allStandby (h : r.Works s) :
    r.Works (s.allStandby) := by
  unfold State.allStandby
  simp (maxDischargeDepth := 30) [h, allChannels]

@[simp] theorem State.Works.keyOffSweep (h : r.Works s) :
    r.Works (s.keyOffSweep) := by
  unfold State.keyOffSweep
  split <;> simp (maxDischargeDepth := 30) [h, allChannels]

@[simp] theorem State.Works.standby (h : r.Works s) :
    r.Works (s.standby) := by
  unfold State.standby
  simp (maxDischargeDepth := 30) [h, allChannels, allCanChannels]

@[simp] theorem State.Works.wakeSilenced (h : r.Works s) (c : Channel) (x : Cause) :
    r.Works (s.wakeSilenced c x) := by
  unfold State.wakeSilenced
  try dsimp only
  simp (maxDischargeDepth := 30) [h]

@[simp] theorem State.Works.wakeChannel (h : r.Works s) (c : Channel) :
    r.Works (s.wakeChannel c) := by
  unfold State.wakeChannel
  try dsimp only
  (repeat' split) <;> simp (maxDischargeDepth := 30) [h]

@[simp] theorem State.Works.freshController (h : r.Works s) (k : CanChannel) :
    r.Works (s.freshController k) := by
  unfold State.freshController
  try dsimp only
  simp (maxDischargeDepth := 30) [h]

@[simp] theorem State.Works.wake (h : r.Works s) :
    r.Works (s.wake) := by
  unfold State.wake
  simp (maxDischargeDepth := 30) [h, allChannels, allCanChannels]

@[simp] theorem State.Works.resetSlot (h : r.Works s) (c : Channel) :
    r.Works (s.resetSlot c) := by
  unfold State.resetSlot
  try dsimp only
  simp (maxDischargeDepth := 30) [h]

@[simp] theorem State.Works.resetShare (h : r.Works s) (c : Channel) :
    r.Works (s.resetShare c) := by
  unfold State.resetShare
  try dsimp only
  (repeat' split) <;> simp (maxDischargeDepth := 30) [h]

@[simp] theorem State.Works.clearAllSighted (h : r.Works s) :
    r.Works (s.withHistory s.history.clearAllSighted) := by
  exact h.withHistory (fun w => History.wf_clearAllSighted w)

@[simp] theorem State.Works.engineReset (h : r.Works s) :
    r.Works (s.engineReset) := by
  unfold State.engineReset
  simp (maxDischargeDepth := 30) [h, allChannels]

/-! ### Events -/

@[simp] theorem State.Works.serviceReceived (h : r.Works s) (c : Channel) (v : Service) :
    r.Works (s.serviceReceived c v) := by
  unfold State.serviceReceived
  try dsimp only
  (repeat' split) <;> simp (maxDischargeDepth := 30) [h]

@[simp] theorem State.Works.dialogStart (h : r.Works s) (c : Channel) :
    r.Works (s.dialogStart c) := by
  unfold State.dialogStart
  try dsimp only
  (repeat' split) <;> simp (maxDischargeDepth := 30) [h]

@[simp] theorem State.Works.bootTimerExpired (h : r.Works s) (c : Channel) :
    r.Works (s.bootTimerExpired c) := by
  unfold State.bootTimerExpired
  try dsimp only
  (repeat' split) <;> simp (maxDischargeDepth := 30) [h]

@[simp] theorem State.Works.canAttemptStart (h : r.Works s) (k : CanChannel) :
    r.Works (s.canAttemptStart k) := by
  unfold State.canAttemptStart
  try dsimp only
  simp (maxDischargeDepth := 30) [h]

@[simp] theorem State.Works.canFrameSent (h : r.Works s) (k : CanChannel) :
    r.Works (s.canFrameSent k) := by
  unfold State.canFrameSent
  try dsimp only
  (repeat' split) <;> simp (maxDischargeDepth := 30) [h]

@[simp] theorem State.Works.arbitrationLost (h : r.Works s) (k : CanChannel) :
    r.Works (s.arbitrationLost k) := by
  unfold State.arbitrationLost
  try dsimp only
  (repeat' split) <;> simp (maxDischargeDepth := 30) [h]

@[simp] theorem State.Works.busOff (h : r.Works s) (k : CanChannel) (n : Nat) :
    r.Works (s.busOff k n) := by
  unfold State.busOff
  try dsimp only
  simp (maxDischargeDepth := 30) [h]

@[simp] theorem State.Works.canTransmitError (h : r.Works s) (k : CanChannel) :
    r.Works (s.canTransmitError k) := by
  unfold State.canTransmitError
  try dsimp only
  (repeat' split) <;> simp (maxDischargeDepth := 30) [h]

@[simp] theorem State.Works.canReceiveError (h : r.Works s) (k : CanChannel) :
    r.Works (s.canReceiveError k) := by
  unfold State.canReceiveError
  try dsimp only
  (repeat' split) <;> simp (maxDischargeDepth := 30) [h]

@[simp] theorem State.Works.busDominant (h : r.Works s) (k : CanChannel) :
    r.Works (s.busDominant k) := by
  unfold State.busDominant
  try dsimp only
  (repeat' split) <;> simp (maxDischargeDepth := 30) [h]

@[simp] theorem State.Works.idleSequence (h : r.Works s) (k : CanChannel) :
    r.Works (s.idleSequence k) := by
  unfold State.idleSequence
  try dsimp only
  (repeat' split) <;> simp (maxDischargeDepth := 30) [h]

@[simp] theorem State.Works.gapExpired (h : r.Works s) (k : CanChannel) :
    r.Works (s.gapExpired k) := by
  unfold State.gapExpired
  try dsimp only
  simp (maxDischargeDepth := 30) [h]

@[simp] theorem State.Works.windowExpired (h : r.Works s) (k : CanChannel) :
    r.Works (s.windowExpired k) := by
  unfold State.windowExpired
  try dsimp only
  simp (maxDischargeDepth := 30) [h]

@[simp] theorem State.Works.testerRequest (h : r.Works s) (k : CanChannel) (a : BitVec 5) :
    r.Works (s.testerRequest k a) := by
  unfold State.testerRequest
  try dsimp only
  (repeat' split) <;> simp (maxDischargeDepth := 30) [h]

@[simp] theorem State.Works.foreignTester (h : r.Works s) (k : CanChannel) (a : BitVec 5) :
    r.Works (s.foreignTester k a) := by
  unfold State.foreignTester
  try dsimp only
  (repeat' split) <;> simp (maxDischargeDepth := 30) [h]

@[simp] theorem State.Works.answerReceived (h : r.Works s) (c : Channel) (bs : List Byte) :
    r.Works (s.answerReceived c bs) := by
  unfold State.answerReceived
  try dsimp only
  (repeat' split) <;> simp (maxDischargeDepth := 30) [h]

@[simp] theorem State.Works.canFrameReceived (h : r.Works s) (k : CanChannel) (f : CanFrame) :
    r.Works (s.canFrameReceived k f) := by
  unfold State.canFrameReceived
  try dsimp only
  (repeat' split) <;> simp (maxDischargeDepth := 30) [h]

@[simp] theorem State.Works.recognise (h : r.Works s) (i : ModuleIndex) :
    r.Works (s.recognise i) := by
  unfold State.recognise
  try dsimp only
  (repeat' split) <;> simp (maxDischargeDepth := 30) [h]

@[simp] theorem State.Works.mapWidth (h : r.Works s) (w : Nat) :
    r.Works (s.mapWidth w) := by
  unfold State.mapWidth
  try dsimp only
  (repeat' split) <;> simp (maxDischargeDepth := 30) [h]

@[simp] theorem State.Works.lineEdge (h : r.Works s) (l : Level) :
    r.Works (s.lineEdge l) := by
  unfold State.lineEdge
  try dsimp only
  (repeat' split) <;> simp (maxDischargeDepth := 30) [h]

@[simp] theorem State.Works.takeSample (h : r.Works s) (x : Level) : r.Works (s.takeSample x) := by
  unfold State.takeSample
  try dsimp only
  (repeat' split) <;> simp [h]

@[simp] theorem State.Works.takeSamples (x : Level) (n : Nat) : ∀ {s : State}, r.Works s → r.Works (s.takeSamples x n) := by
  induction n with
  | zero => exact fun h => h
  | succ n ih => exact fun h => ih (h.takeSample x)

@[simp] theorem State.Works.sampleTick (h : r.Works s) : r.Works s.sampleTick := by
  unfold State.sampleTick
  exact .withLine (.takeSamples _ _ h) _

@[simp] theorem State.Works.attentionPulse (h : r.Works s) (w : Nat) :
    r.Works (s.attentionPulse w) := by
  unfold State.attentionPulse
  try dsimp only
  (repeat' split) <;> simp (maxDischargeDepth := 30) [h]

@[simp] theorem State.Works.lineTransmitStart (h : r.Works s) :
    r.Works (s.lineTransmitStart) := by
  unfold State.lineTransmitStart
  try dsimp only
  (repeat' split) <;> simp (maxDischargeDepth := 30) [h]

@[simp] theorem State.Works.wakePatternStart (h : r.Works s) :
    r.Works (s.wakePatternStart) := by
  unfold State.wakePatternStart
  try dsimp only
  (repeat' split) <;> simp (maxDischargeDepth := 30) [h]

@[simp] theorem State.Works.lineFrameSent (h : r.Works s) :
    r.Works (s.lineFrameSent) := by
  unfold State.lineFrameSent
  try dsimp only
  (repeat' split) <;> simp (maxDischargeDepth := 30) [h]

@[simp] theorem State.Works.countAbandoned (h : r.Works s) :
    r.Works (s.countAbandoned) := by
  unfold State.countAbandoned
  try dsimp only
  (repeat' split) <;> simp (maxDischargeDepth := 30) [h]

@[simp] theorem State.Works.lineFrameAbandoned (h : r.Works s) :
    r.Works (s.lineFrameAbandoned) := by
  unfold State.lineFrameAbandoned
  try dsimp only
  (repeat' split) <;> simp (maxDischargeDepth := 30) [h]

@[simp] theorem State.Works.turnaroundExpired (h : r.Works s) :
    r.Works (s.turnaroundExpired) := by
  unfold State.turnaroundExpired
  try dsimp only
  (repeat' split) <;> simp (maxDischargeDepth := 30) [h]

@[simp] theorem State.Works.wakePatternEnd (h : r.Works s) :
    r.Works (s.wakePatternEnd) := by
  unfold State.wakePatternEnd
  try dsimp only
  (repeat' split) <;> simp (maxDischargeDepth := 30) [h]

@[simp] theorem State.Works.lineBodyReceived (h : r.Works s) (n : Nat) (bs : List Byte) :
    r.Works (s.lineBodyReceived n bs) := by
  unfold State.lineBodyReceived
  try dsimp only
  (repeat' split) <;> simp (maxDischargeDepth := 30) [h]

@[simp] theorem State.Works.lineFrameReceived (h : r.Works s) (bs : List Byte) :
    r.Works (s.lineFrameReceived bs) := by
  unfold State.lineFrameReceived
  try dsimp only
  (repeat' split) <;> simp (maxDischargeDepth := 30) [h]

@[simp] theorem State.Works.stuckExpired (h : r.Works s) :
    r.Works (s.stuckExpired) := by
  unfold State.stuckExpired
  try dsimp only
  (repeat' split) <;> simp (maxDischargeDepth := 30) [h]

@[simp] theorem State.Works.holdExpired (h : r.Works s) (c : Channel) :
    r.Works (s.holdExpired c) := by
  unfold State.holdExpired
  try dsimp only
  (repeat' split) <;> simp (maxDischargeDepth := 30) [h]

@[simp] theorem State.Works.tpresReaches (h : r.Works s) (c : Channel) :
    r.Works (s.tpresReaches c) := by
  unfold State.tpresReaches
  try dsimp only
  (repeat' split) <;> simp (maxDischargeDepth := 30) [h]

@[simp] theorem State.Works.slotExpiries (h : r.Works s) (c : Channel) :
    r.Works (s.slotExpiries c) := by
  unfold State.slotExpiries
  try dsimp only
  (repeat' split) <;> simp (maxDischargeDepth := 30) [h]

@[simp] theorem State.Works.canExpiries (h : r.Works s) (k : CanChannel) :
    r.Works (s.canExpiries k) := by
  unfold State.canExpiries
  try dsimp only
  (repeat' split) <;> simp (maxDischargeDepth := 30) [h]

@[simp] theorem State.Works.lineExpiries (h : r.Works s) :
    r.Works (s.lineExpiries) := by
  unfold State.lineExpiries
  try dsimp only
  (repeat' split) <;> simp (maxDischargeDepth := 30) [h]

@[simp] theorem State.Works.holdExpiries (h : r.Works s) (c : Channel) :
    r.Works (s.holdExpiries c) := by
  unfold State.holdExpiries
  try dsimp only
  (repeat' split) <;> simp (maxDischargeDepth := 30) [h]

end Sys2Proof.Machine
end

