-- ==== Sys2Proof/Laws/Rest.lean ====
section
/-! SUPPORT. What a step settles, on a state with nothing to settle; the taking of a request by a handler that is ready for
it; and the requests a dialog drops, as the statements say them. -/

namespace Sys2Proof.Claim

open Sys2Proof.Machine

/-- A property of every channel, from the three. -/
theorem everyChannel {p : Channel → Prop} (a : p .a) (b : p .b) (s : p .s) (c : Channel) : p c := by
  cases c <;> assumption

/-- A property of every CAN channel, from the two. -/
theorem everyCan {p : CanChannel → Prop} (a : p .a) (b : p .b) (k : CanChannel) : p k := by
  cases k <;> assumption

/-- With nothing to settle, the end of a step changes nothing. -/
theorem closeStep_settled {s : State} (h : Settled s) : s.closeStep = s := by
  obtain ⟨hy, hd, ht, hp⟩ := h
  have hys : ∀ c, s.yieldSettle c = s := by
    intro c
    unfold State.yieldSettle
    rw [if_neg]
    rintro ⟨h1, h2⟩
    have := hy c h1
    tauto
  have h1 : allChannels.foldl State.yieldSettle s = s := by simp [allChannels, hys]
  have h2 : s.settleSweep 3 = s := by simp [State.settleSweep, hd]
  unfold State.closeStep
  rw [h1, h2]
  simp only [State.recomputeOutputs, ← ht, ← hp]

/-- A state is settled when it differs from a settled one in nothing that the settling reads. -/
theorem Settled.of_same {s t : State} (h : Settled s) (hslot : ∀ c, t.slot c = s.slot c)
    (hlist : ∀ c, t.workList c = s.workList c) (hsweep : t.sweep.state = s.sweep.state) (hshare : t.share = s.share)
    (hsocket : t.setting .socketChannels = s.setting .socketChannels) : Settled t := by
  obtain ⟨hy, hd, ht, hp⟩ := h
  have hss : ∀ d, t.shareState d = s.shareState d := by intro d; simp [State.shareState, State.shareOf, hshare]
  refine ⟨fun c hc => ?_, ?_, ?_, ?_⟩
  · rw [hss] at hc
    rw [hslot]
    exact hy c hc
  · rw [← hd]
    simp only [State.sweepDone, hsweep, hslot, hlist]
  · rw [hshare, ht]
    simp only [State.tgntValue, State.isSocket, hsocket, hss]
  · rw [hshare, hp]
    simp only [State.pneedValue, hss, hslot, hlist]

/-- A state is settled when it differs from a settled one, in what the settling reads, only in the slot and the list of one
channel that is neither YIELDED nor left FREE or waiting to be YIELDED. -/
theorem Settled.of_busy {s t : State} (h : Settled s) (c : Channel) (hfree : (t.slot c).state ≠ .free)
    (hparked : s.shareState c = .yieldPending → (t.slot c).state ≠ .parked) (hopen : s.shareState c ≠ .yielded)
    (hs : ∀ d, d ≠ c → t.slot d = s.slot d) (hl : ∀ d, d ≠ c → t.workList d = s.workList d)
    (hshare : t.share = s.share) (hsocket : t.setting .socketChannels = s.setting .socketChannels) : Settled t := by
  obtain ⟨hy, hd, ht, hp⟩ := h
  have hss : ∀ d, t.shareState d = s.shareState d := by intro d; simp [State.shareState, State.shareOf, hshare]
  refine ⟨?_, ?_, ?_, ?_⟩
  · intro d hd1
    rw [hss] at hd1
    by_cases hdc : d = c
    · subst hdc
      exact ⟨hfree, hparked hd1⟩
    · rw [hs d hdc]
      exact hy d hd1
  · simp only [State.sweepDone, Bool.and_eq_false_iff]
    right
    simp only [List.all_eq_false]
    refine ⟨c, by cases c <;> simp [allChannels], ?_⟩
    simp [hfree]
  · rw [hshare, ht]
    simp only [State.tgntValue, State.isSocket, hsocket, hss]
  · rw [hshare, hp]
    have ho : (s.shareState c == .yielded) = false := by simpa using hopen
    simp only [State.pneedValue, hss, allChannels, List.any_cons, List.any_nil]
    cases c
    · rw [hs .b (by decide), hs .s (by decide), hl .b (by decide), hl .s (by decide), ho]
      simp
    · rw [hs .a (by decide), hs .s (by decide), hl .a (by decide), hl .s (by decide), ho]
      simp
    · rw [hs .b (by decide), hs .a (by decide), hl .b (by decide), hl .a (by decide), ho]
      simp

/-- A handler that is ready carries the request out at once, with the request in service meanwhile. -/
theorem takeRequest_ready {s : State} (h : Ready s) (f : HostFrame) (carry : State → State) :
    s.takeRequest f carry =
      (carry (s.withLink { s.link with inService := some f })).withLink
        { (carry (s.withLink { s.link with inService := some f })).link with inService := none } := by
  obtain ⟨h1, h2, h3⟩ := h
  simp [State.takeRequest, h1, Link.canTake, h2, h3, State.serve]

/-- A request that only replies. -/
theorem takeRequest_reply {s : State} (h : Ready s) (f : HostFrame) (carry : State → State) (k : Byte) (st : Status)
    (bs : List Byte)
    (hc : carry (s.withLink { s.link with inService := some f }) =
      (s.withLink { s.link with inService := some f }).reply k st bs) :
    s.takeRequest f carry = answered s (replyKind k) st bs := by
  rw [takeRequest_ready h, hc]
  obtain ⟨h1, h2, h3⟩ := h
  cases s with | mk a1 a2 a3 a4 a5 a6 a7 a8 a9 a10 l a12 a13 a14 a15 a16 =>
  cases l
  simp_all [State.withLink, State.reply, answered]

/-- A request of the dialog as the statements say it is one as the model has it. -/
theorem asks_eq_isOwnRequest (f : TxFrame) : asks f = f.isOwnRequest := by
  obtain ⟨q, _, _, own⟩ := f
  cases q <;> cases own <;> rfl

/-- What a slot drops on entering REFERRED (R33). -/
theorem dropRequests_eq_requestsDropped (s : State) (c : Channel) :
    s.dropRequests c TxFrame.isOwnRequest = requestsDropped s c := by
  unfold State.dropRequests requestsDropped stillToHand
  simp only [asks_eq_isOwnRequest]
  cases c <;> simp only [State.frameWaiting, canOf, State.withWaitingFrames, State.canCtl, PerCan.get]
  · cases h : s.can.a.holding <;> simp only
    split <;> simp [State.emptyHolding, canOf, State.canCtl, PerCan.get, h, State.withCan]
  · cases h : s.can.b.holding <;> simp only
    split <;> simp [State.emptyHolding, canOf, State.canCtl, PerCan.get, h, State.withCan]
  · cases s.line.holding <;> simp only
    split <;> simp [State.emptyHolding, canOf, State.withLine]

/-- The part's own work leaves alone what `OwnWork` names. -/
theorem ownWork_of_works {s t : State} (h : s.Works t) : OwnWork s t := by
  obtain ⟨h1, h2, h3, h4, h5, _⟩ := h.notified.keeps
  exact ⟨h.store, h.clock, h.settings, h.key, h.straps, h.pins, h.pending, h.configured, h1, h2, h3, h4, h5⟩

end Sys2Proof.Claim
end

