-- ==== Sys2Proof/Tests/Slice0.lean ====
section
/-! SUPPORT. The model's own tests: an ill-formed command for each check of WellFormed, worked values of the manual, and, for
each statement with hypotheses, states and operands that meet them. -/

namespace Sys2Proof.Tests

open Sys2Proof.Machine Sys2Proof.Claim

/-! ### WellFormed -/

theorem test_payload_of_251_bytes_is_ill_formed : (Instr.ident (List.replicate 251 0)).wellFormed = false := by
  simp only [Instr.wellFormed, payloadOk, List.length_replicate]
  decide

theorem test_payload_of_250_bytes_is_well_formed : (Instr.ident (List.replicate 250 0)).wellFormed = true := by
  simp only [Instr.wellFormed, payloadOk, List.length_replicate]
  decide

theorem test_known_kind_as_unknown_is_ill_formed : (Instr.unknownKindRequest 0x14 []).wellFormed = false := by decide

theorem test_unknown_kind_is_well_formed : (Instr.unknownKindRequest 0x15 []).wellFormed = true := by decide

theorem test_empty_run_of_bytes_is_ill_formed : (Instr.hostFrameReceived []).wellFormed = false := by decide

theorem test_segments_out_of_length_are_ill_formed :
    (Instr.segment .a 0 []).wellFormed = false ∧ (Instr.segment .b 0 (List.replicate 8 0)).wellFormed = false
      ∧ (Instr.segment .s 0 (List.replicate 17 0)).wellFormed = false := by decide

theorem test_can_frames_out_of_form_are_ill_formed :
    (Instr.canFrameReceived .a { ident := 0x800, data := [] }).wellFormed = false
      ∧ (Instr.canFrameReceived .a { ident := 2 ^ 29, extended := true, data := [] }).wellFormed = false
      ∧ (Instr.canFrameReceived .a { ident := 1, data := List.replicate 9 0 }).wellFormed = false
      ∧ (Instr.canFrameReceived .a { ident := 1, remote := true, data := [0] }).wellFormed = false := by decide

theorem test_line_frames_out_of_length_are_ill_formed :
    (Instr.lineFrameReceived (List.replicate 3 0)).wellFormed = false
      ∧ (Instr.lineFrameReceived (List.replicate 22 0)).wellFormed = false := by decide

theorem test_width_above_268_is_ill_formed : (Instr.attentionPulse 269).wellFormed = false := by decide

theorem test_eight_intervals_are_ill_formed :
    (Instr.receiverLocked (List.replicate 8 16) .high).wellFormed = false := by decide

/-! ### Small states -/

/-- The module of entry 0, on channel A. -/
def moduleA : Entry := { inUse := true, channel := .a, address := 5 }

/-- The module of entry 1, a sleepy one on channel B. -/
def moduleB : Entry := { inUse := true, channel := .b, address := 31, sleepy := true, bootWait := 2 }

/-- The module of entry 2, on line S, with attention slot 0. -/
def moduleS : Entry :=
  { inUse := true, channel := .s, address := 15, lineRate := some .r9600, attentionSlot := some 0 }

/-- The reset state with three modules in the table. -/
def fitted : State :=
  { State.reset with table := ((State.reset.table.set 0 moduleA).set 1 moduleB).set 2 moduleS }

/-- A sweep running with all three modules listed. -/
def running : State :=
  { fitted with sweep := { state := .running, number := 1, lists := ⟨[0], [1], [2]⟩ } }

/-- The index of the module of a channel. -/
def moduleOf : Channel → ModuleIndex
  | .a => 0
  | .b => 1
  | .s => 2

/-- A sweep running with a dialog in the slot of a channel, the other modules still listed. -/
def during (c : Channel) (x : Slot) : State :=
  { running with
    sweep := { running.sweep with lists := running.sweep.lists.set c [] },
    slots := running.slots.set c { x with module := some (moduleOf c) } }

/-- A halted sweep with a dialog in the slot of a channel, and another under way. -/
def halted (c d : Channel) (x : Slot) : State :=
  { during c x with
    sweep := { running.sweep with state := .halting, haltTaken := true, lists := ⟨[], [], []⟩ },
    slots := (during c x).slots.set d { state := .erasing, module := some (moduleOf d) } }

/-- A slot that draws a page of 24 bytes with built-in profile 0 (records of 4 bytes). -/
def drawing : Slot :=
  { state := .reading, sub := .drawing, identified := true, tag := some 0x1001, profile := some (.rom 0),
    head := some { count := 6, length := 24, more := false, sum := 0 }, expected := 4, received := 0, outstanding := 4,
    response := some { left := 150 } }

/-- A slot that has asked a page with built-in profile 0. -/
def asked : Slot :=
  { state := .reading, sub := .asked, identified := true, tag := some 0x1001, profile := some (.rom 0),
    response := some { left := 150 } }

/-- A slot that draws the one segment of a page with one record, `0x0A0B`, ACTIVE, count 3. -/
def lastSegment (more : Bool) : Slot :=
  { drawing with
    head := some { count := 1, length := 4, more, sum := 0x19 }, expected := 1, received := 0, outstanding := 1,
    eraseCapable := true }

/-- The bytes of that record. -/
def oneRecord : List Byte := [0x0A, 0x0B, 0x01, 0x03]

/-- A slot that waits for its module's first identity reply. -/
def identifying : Slot := { state := .identifying, response := some { left := 150 } }

/-- The check of `Settled`, channel by channel. -/
def quiet (s : State) : Bool :=
  [Channel.a, .b, .s].all (fun c =>
    s.shareState c ≠ .yieldPending || ((s.slot c).state ≠ .free && (s.slot c).state ≠ .parked))
    && !s.sweepDone && s.share.tgnt == s.tgntValue && s.share.pneed == s.pneedValue

theorem settled_of_quiet {s : State} (h : quiet s = true) : Settled s := by
  simp only [quiet, Bool.and_eq_true, beq_iff_eq, Bool.not_eq_true'] at h
  obtain ⟨⟨⟨hc, hd⟩, ht⟩, hp⟩ := h
  refine ⟨fun c hy => ?_, hd, ht, hp⟩
  have hm : c ∈ [Channel.a, .b, .s] := by cases c <;> decide
  have := List.all_eq_true.mp hc c hm
  simp only [hy] at this
  simpa using this

theorem unresolved_ne {tag : Word16} (r : ProfileRef) : Resolution.unresolved ≠ .resolved r tag := by
  intro h
  cases h

/-! ### Worked values of the manual -/

theorem test_reset_state_is_idle_with_the_key_on :
    State.reset.sweep.state = .idle ∧ State.reset.key.on = true ∧ State.reset.history.wf ∧ State.reset.link.bounded := by
  decide

theorem test_bad_form_reply_on_the_wire :
    (OutFrame.reply 0x83 .badForm []).bytes = [0xA7, 0x01, 0x83, 0x02, 0x7A] := by decide

/-- R96: for a 2-byte clock at 16 and a stamp of 65 520 the elapsed raw value is 32. -/
theorem test_wrapped_stamp_of_r96 : elapsedRaw 2 16 65520 = 32 := by decide

/-- R26: a HOLD_ON(255) at 3000 ms, with a wait begun at 0 and ending at 2100, ends it at 5000 ms. -/
theorem test_hold_on_bound_of_r26 :
    ({ left := 100, since := 3000 } : ResponseTimer).extend 255 = { left := 2000, since := 3000 } := by decide

/-- R108: the next number 0xFFFFFFFF with 0xFFFFFFFF, 1 and 2 held is 3. -/
theorem test_number_search_of_r108 :
    (let r (n : Word32) : Record := newRecord
        { module := 0, code := 1, state := .active, severity := 0, count := 1, stamps := none, predates := false,
          refUnset := false, snapshot := [] } n 1
     freeNumber [r 1, r 2, r 0xFFFFFFFF] 385 0xFFFFFFFF) = 3 := by decide

/-- R36: a page of 512 bytes needs 74 segments on CAN and 32 on line S; one of 120 bytes 18, the last of 1 byte, and 8, the
last of 8. -/
theorem test_segments_of_r36 :
    segmentsFor .a 512 = 74 ∧ segmentsFor .s 512 = 32 ∧ segmentsFor .b 120 = 18 ∧ segmentLength .b 120 17 = 1
      ∧ segmentsFor .s 120 = 8 ∧ segmentLength .s 120 7 = 8 := by decide

/-- R150: the ends of the widths of slots 0, 1 and 15, and the gap between 0 and 1. -/
theorem test_widths_of_r150 :
    attentionSlotOf 19 = none ∧ attentionSlotOf 20 = some 0 ∧ attentionSlotOf 28 = some 0 ∧ attentionSlotOf 29 = none
      ∧ attentionSlotOf 35 = none ∧ attentionSlotOf 36 = some 1 ∧ attentionSlotOf 260 = some 15
      ∧ attentionSlotOf 268 = some 15 ∧ attentionSlotOf 269 = none := by decide

/-- R127: bases and rates adjusted. -/
theorem test_adjusted_bases_and_rates :
    SettingId.requestBaseA.adjust 0x6BF = some 0x6A0 ∧ SettingId.requestBaseA.adjust 0xFFFF = some 0x7C0
      ∧ SettingId.canRateA.adjust 999 = some 500 ∧ SettingId.canRateA.adjust 0 = some 125
      ∧ SettingId.drawSize.adjust 0 = some 1 ∧ SettingId.drawSize.adjust 9 = some 8
      ∧ SettingId.echoSilence.adjust 2 = none := by decide

/-- R141: an ASK_ID to address 5 on line S. -/
theorem test_ask_id_on_line_s : lineFrameBytes 5 .askId = [0x55, 0x05, 0x01, 0x01, 0xF9] := by decide

/-- R140: three samples LOW and one HIGH are lost; a fourth LOW in a row is a falling edge. -/
theorem test_glitch_of_three_samples_is_lost :
    let s := fitted.withLine { fitted.line with receiver := .off }
    ((s.takeSamples .low 3).takeSamples .high 1).line = { s.line with idleTime := 4 }
      ∧ (s.takeSamples .low 3).line.filterRun = 3 ∧ (s.takeSamples .low 3).line.level = .high
      ∧ (s.takeSamples .low 4).line.level = .low ∧ (s.takeSamples .low 4).line.stuckTimer = some 200 := by decide

/-- R91, R93: the advance that a REFERENCE_SET forestalls does not happen. -/
theorem test_reference_set_forestalls_the_advance :
    let s : State := { fitted with clock := { fitted.clock with ms := 999, t := 7 } }
    s.chassisAdvance.clock.t = 8 ∧ (s.handleReferenceSet [1, 0, 0, 1, 0, 0, 0, 0, 0]).chassisAdvance.clock.t = 256 := by
  decide

/-- R68: the tags of the built-in profiles are 0x1001..0x100C. -/
theorem test_rom_tags :
    romProfiles.toList.map Profile.tag =
      [0x1001, 0x1002, 0x1003, 0x1004, 0x1005, 0x1006, 0x1007, 0x1008, 0x1009, 0x100A, 0x100B, 0x100C] := by decide

/-- R67, R69: every built-in profile would be accepted by PROFILE_LOAD, and reads back as itself. -/
theorem test_rom_profiles_are_of_good_form :
    romProfiles.toList.all (fun p => parseProfileLoad (0 :: profileBytes p) == some (0, p)) = true := by decide

/-- R85, R88, R89: one record of built-in profile 0. -/
theorem test_record_of_rom_0 :
    (decodePage romProfiles[0] none 0 oneRecord).map (fun g => (g.code, g.state, g.severity, g.count)) =
      [(0x0A0B, .active, 0, 3)] := by decide

/-- A dialog starts, and its ASK_ID waits at identifier 0x6A5. -/
theorem test_dialog_start_hands_ask_id :
    (running.dialogStart .a).can.a.holding = .waiting { request := .askId, dest := .can 0x6A5 }
      ∧ (running.dialogStart .a).slots.a.state = .identifying := by decide

/-- A page of one record is committed: one record, number 1, total 3. -/
theorem test_commit_of_one_record :
    ((during .a (lastSegment true)).serviceReceived .a (.segment 0 oneRecord)).history.records.map
        (fun r => (r.number, r.code, r.total)) = [(1, 0x0A0B, 3)] := by decide

/-! ### The hypotheses of the statements can be met

Each theorem is named after the statement, or the part of one, whose hypotheses it shows to hold together somewhere. -/

/-- A state with a link of these waiting requests and held replies. -/
def linked (s : State) (requests : List HostFrame) (replies : Nat) : State :=
  { s with link := { s.link with requests, outbound := List.replicate replies (.reply 0x81 .done []) } }

theorem test_met_IdleStepServesOrTicks :
    (let s := linked State.reset [⟨0x01, []⟩] 3
     s.pending = [] ∧ s.link.requests = [⟨0x01, []⟩] ∧ s.link.inService = none ∧ s.link.repliesHeld < 4
       ∧ requestOf (.ident []) = some ⟨0x01, []⟩)
    ∧ (State.reset.pending = [] ∧ State.reset.link.requests = [])
    ∧ 4 ≤ (linked State.reset [⟨0x01, []⟩] 4).link.repliesHeld := by decide

theorem test_met_WellFormedFrameIsOffered :
    ((([] : List Byte).length ≤ 250) ∧ State.reset.link.assembler = {} ∧ State.reset.link.requests.length < 4)
      ∧ (let s := linked State.reset (List.replicate 4 ⟨0x01, []⟩) 0
         s.link.assembler = {} ∧ ¬ s.link.requests.length < 4) := by decide

/-- The reset state with the assembler in a state. -/
def assembling (a : Assembler) : State := { State.reset with link := { State.reset.link with assembler := a } }

theorem test_met_DiscardedFrames :
    (State.reset.link.assembler.state = .hunt ∧ (0xA6 : Byte) ≠ 0xA7)
      ∧ (assembling { state := .kind, len := 0, gap := some 20 }).link.assembler.state ≠ .hunt
      ∧ ((assembling { state := .length, gap := some 20 }).link.assembler.state = .length ∧ 250 < (251 : Byte).toNat)
      ∧ (let a := (assembling { state := .sum, len := 0, kind := 1, gap := some 20 }).link.assembler
         a.state = .sum ∧ byte a.len + a.kind + sum8 a.payload + 0 ≠ 0) := by decide

theorem test_met_SentFrameLeavesTheQueue :
    (linked State.reset [] 1).link.outbound = [.reply 0x81 .done []] := by decide

theorem test_met_RequestsWaitForTheHandler :
    (let s := linked State.reset [] 4
     s.link.requests.head? ≠ some ⟨0x10, []⟩ ∧ 4 ≤ s.link.repliesHeld ∧ requestOf (.halt []) = some ⟨0x10, []⟩)
      ∧ (let s := linked State.reset (List.replicate 4 ⟨0x01, []⟩) 0
         s.link.requests.head? ≠ some ⟨0x10, []⟩ ∧ s.link.requests ≠ [] ∧ ¬ s.link.requests.length < 4) := by decide

theorem test_met_EveryRequestGetsOneReply :
    Ready (linked State.reset [] 3) ∧ requestOf (.reset []) = some ⟨0x14, []⟩
      ∧ requestOf (.unknownKindRequest 0xFF [1]) = some ⟨0xFF, [1]⟩ := by decide

theorem test_met_IdentAndStatusReport :
    Ready State.reset ∧ Ready (linked State.reset [] 3) ∧ ([0] : List Byte) ≠ [] := by decide

theorem test_met_UnknownKindIsAnswered :
    ¬ (1 ≤ (0x00 : Byte).toNat ∧ (0x00 : Byte).toNat ≤ 0x14) ∧ ¬ (1 ≤ (0x15 : Byte).toNat ∧ (0x15 : Byte).toNat ≤ 0x14)
      ∧ ¬ (1 ≤ (0xFF : Byte).toNat ∧ (0xFF : Byte).toNat ≤ 0x14) := by decide

theorem test_met_WrongLengthIsBadForm :
    requestOf (.bind []) = some ⟨0x09, []⟩ ∧ lengthAllowed 0x09 0 = false ∧ lengthAllowed 0x0F 51 = false
      ∧ lengthAllowed 0x0C 74 = false ∧ lengthAllowed 0x0D 26 = false ∧ lengthAllowed 0x14 1 = false
      ∧ requestOf (.channelResume [3]) = some ⟨0x11, [3]⟩ ∧ (∀ b ∈ [channelCode .a, channelCode .b, channelCode .s], ([3] : List Byte) ≠ [b]) := by
  decide

theorem test_met_TablePutNamesAnEntryAndAChannel :
    (47 < (48 : Byte).toNat ∨ 2 < (0 : Byte).toNat) ∧ (47 < (0 : Byte).toNat ∨ 2 < (3 : Byte).toNat) := by decide

theorem test_met_UnusedBitsAreBadForm :
    8 ≤ (8 : Byte).toNat ∧ 2 ≤ (2 : Byte).toNat ∧ 4 ≤ (4 : Byte).toNat ∧ 8 ≤ (255 : Byte).toNat
      ∧ (List.replicate 5 (0 : Byte)).length = 5 := by decide

theorem test_met_TableRemoveForm : 2 ≤ (2 : Byte).toNat ∧ 47 < (48 : Byte).toNat := by decide

theorem test_met_SettingsGetForm :
    ¬ ([1, 1] : List Byte).Nodup ∧ (∃ b ∈ ([26] : List Byte), b.toNat = 0 ∨ 25 < b.toNat)
      ∧ (∃ b ∈ ([0] : List Byte), b.toNat = 0 ∨ 25 < b.toNat) := by decide

theorem test_met_HistoryReadForm :
    ((0 : Byte) = 0) ∧ 2 < (3 : Byte).toNat ∧ ((2 : Byte).toNat = 2 ∧ 47 < (48 : Byte).toNat) := by decide

/-! #### The module table -/

theorem not_engaged {s : State} {i : ModuleIndex} (h : s.engaged i = false) : ¬ isEngaged s i := by
  rintro ⟨c, hc⟩
  simp only [State.engaged, State.inSlot, State.listed, Bool.or_eq_false_iff, List.any_eq_false] at h
  have hm : c ∈ allChannels := by cases c <;> decide
  rcases hc with ⟨h1, h2⟩ | h1
  · exact h.1 c hm (by simp [h1, h2])
  · exact h.2 c hm (by simp [h1])

theorem test_met_TablePutChecksAndWrites :
    -- the form refused: an address above 31 on A, above 15 on S, a flag, a line rate, an attention slot
    (putFormBad .a 32 0 0 0 ∧ putFormBad .s 16 0 0 0 ∧ putFormBad .b 0 8 0 0 ∧ putFormBad .s 0 0 4 0
        ∧ putFormBad .s 0 4 0 16)
      -- a clash with entry 0, the form being good
      ∧ (Ready fitted ∧ ¬ putFormBad .a 5 0 0 0 ∧ putClashes fitted 7 (writtenEntry .a 5 0 0 0 0 0 0))
      -- entry 0 engaged, and free of work
      ∧ (Ready running ∧ ¬ putFormBad .a 31 0 0 0 ∧ ¬ putClashes running 0 (writtenEntry .a 31 0 0 0 0 0 0)
          ∧ isEngaged running 0)
      ∧ (Ready fitted ∧ ¬ putFormBad .s 15 4 3 15 ∧ ¬ putClashes fitted 0 (writtenEntry .s 14 4 0 0 4 3 15)
          ∧ ¬ isEngaged fitted 0) := by
  refine ⟨?_, ?_, ?_, ?_⟩
  · unfold putFormBad; decide
  · unfold putFormBad putClashes; decide
  · refine ⟨by decide, by unfold putFormBad; decide, by unfold putClashes; decide, .a, ?_⟩
    right
    decide
  · exact ⟨by decide, by unfold putFormBad; decide, by unfold putClashes; decide, not_engaged (by decide)⟩

theorem test_met_TableGetReadsTheTable :
    Ready fitted ∧ (fitted.entry 2).inUse = true ∧ (fitted.entry 47).inUse = false ∧ 47 < (48 : Byte).toNat
      ∧ (48 : Byte) ≠ 0xFF ∧ (0xFE : Byte) ≠ 0xFF := by decide

theorem test_met_TableRemoveChecksAndRemoves :
    (Ready fitted ∧ (fitted.entry 3).inUse = false) ∧ (isEngaged running 1 ∧ (running.entry 1).inUse = true)
      ∧ ((fitted.entry 0).inUse = true ∧ ¬ isEngaged fitted 0
          ∧ fitted.history.records.countP (fun x => x.module == 0) = 0)
      ∧ (let s := (during .a (lastSegment true)).serviceReceived .a (.segment 0 oneRecord)
         let t : State := { fitted with history := s.history }
         Ready t ∧ (t.entry 0).inUse = true ∧ t.history.records.countP (fun x => x.module == 0) ≠ 0) := by
  refine ⟨by decide, ⟨⟨.b, by right; decide⟩, by decide⟩, ⟨by decide, not_engaged (by decide), by decide⟩, by decide⟩

/-! #### Profiles and bindings -/

/-- A payload of good form for loaded slot 3: the fields of built-in profile 4. -/
def goodProfile : List Byte := 3 :: profileBytes romProfiles[4]

/-- The reset state with that profile in loaded slot 3, bound to tag 0x2000, and tag 0x2001 declined. -/
def stocked : State :=
  { fitted with store :=
      { loaded := State.reset.store.loaded.set 3 (some romProfiles[4]),
        bindings := [⟨0x2000, .profile (.loaded 3)⟩, ⟨0x2001, .decline⟩] } }

/-- The same with slot A reading with the loaded profile. -/
def using3 : State :=
  { stocked with slots := stocked.slots.set .a { asked with module := some 0, profile := some (.loaded 3) } }

/-- A list of 16 bindings. -/
def full : State :=
  { fitted with store := { fitted.store with
      bindings := (List.range 16).map (fun n => ⟨BitVec.ofNat 16 (0x3000 + n), .decline⟩) } }

theorem not_in_use {s : State} {n : Fin 12} (h : s.profileInUse (.loaded n) = false) : ¬ loadedInUse s n := by
  rintro ⟨c, h1, h2⟩
  simp only [State.profileInUse, List.any_eq_false] at h
  have hm : c ∈ allChannels := by cases c <;> decide
  exact h c hm (by simp [State.slotUses, h1, h2])

theorem not_waited {s : State} {tag : Word16}
    (h : [Channel.a, .b, .s].any (fun c => (s.slot c).waitsOnReferral && (s.slot c).tag == some tag) = false) :
    ¬ waitedFor s tag := by
  rintro ⟨c, h1, h2⟩
  rw [List.any_eq_false] at h
  have hm : c ∈ [Channel.a, .b, .s] := by cases c <;> decide
  exact h c hm (by simp [h1, h2])

theorem test_met_ProfileLoadFillsTheSlot :
    (Ready fitted ∧ parseProfileLoad [] = none ∧ parseProfileLoad goodProfile = some ((3 : Fin 12), romProfiles[4]))
      ∧ (Ready using3 ∧ loadedInUse using3 3)
      ∧ (¬ loadedInUse stocked 3 ∧ ¬ waitedFor stocked 0x1005 ∧ Settled stocked
          ∧ (stocked.store.loaded[(3 : Fin 12)]).isSome = true)
      ∧ (¬ loadedInUse fitted 3 ∧ ¬ waitedFor fitted 0x1005 ∧ Settled fitted
          ∧ (fitted.store.loaded[(3 : Fin 12)]).isSome = false) := by
  refine ⟨by decide, ⟨by decide, .a, by decide, by decide⟩, ⟨not_in_use (by decide), not_waited (by decide),
    settled_of_quiet (by decide), by decide⟩, not_in_use (by decide), not_waited (by decide),
    settled_of_quiet (by decide), by decide⟩

theorem test_met_ConfiguredAndProfileBytesReadBack :
    parseProfileLoad goodProfile = some ((3 : Fin 12), romProfiles[4])
      ∧ parseTablePut [0, 2, 15, 7, 0, 0, 4, 3, 15] =
          some (0, { moduleS with sleepy := true, bootStep := .coarse, responseWait := 15, retries := 3,
                                  lineRate := some .r19200, attentionSlot := some 15 }, true) := by decide

theorem test_met_TablesStoreAndSettingsAreRead :
    Ready stocked ∧ stocked.store.profile (.rom 11) = some romProfiles[11]
      ∧ stocked.store.profile (.loaded 3) = some romProfiles[4] ∧ stocked.store.loaded[(11 : Fin 12)] = none
      ∧ (12 ≤ (12 : Byte).toNat ∧ ¬ (16 ≤ (12 : Byte).toNat ∧ (12 : Byte).toNat < 28))
      ∧ (12 ≤ (28 : Byte).toNat ∧ ¬ (16 ≤ (28 : Byte).toNat ∧ (28 : Byte).toNat < 28))
      ∧ ([SettingId.echoSilence, .autoAttention] ≠ [] ∧ [SettingId.echoSilence, .autoAttention].Nodup) := by decide

theorem test_met_ProfileUnloadReleases :
    ¬ (16 ≤ (11 : Byte).toNat ∧ (11 : Byte).toNat < 28) ∧ ¬ (16 ≤ (28 : Byte).toNat ∧ (28 : Byte).toNat < 28)
      ∧ (Ready fitted ∧ fitted.store.loaded[(0 : Fin 12)] = none)
      ∧ (Ready using3 ∧ using3.store.loaded[(3 : Fin 12)] ≠ none ∧ loadedInUse using3 3)
      ∧ (Ready stocked ∧ stocked.store.loaded[(3 : Fin 12)] ≠ none ∧ ¬ loadedInUse stocked 3) :=
  ⟨by decide, by decide, by decide, ⟨by decide, by decide, .a, by decide, by decide⟩, by decide, by decide,
    not_in_use (by decide)⟩

theorem test_met_BindRefusals :
    (beWord16 0 0 = 0 ∧ beWord16 0xFF 0xFF = 0xFFFF ∧ (ProfileRef.ofCode 28 = none ∧ (28 : Byte) ≠ 0xFF))
      ∧ (Ready fitted ∧ fitted.store.binding 0x0001 = none)
      ∧ (ProfileRef.ofCode 16 = some (.loaded 0) ∧ fitted.store.profile (.loaded 0) = none)
      ∧ (Ready full ∧ full.store.profile (.rom 0) ≠ none ∧ full.store.binding 0x0001 = none
          ∧ 16 ≤ full.store.bindings.length) := by decide

theorem test_met_BindChangesOneBinding :
    (Ready stocked ∧ Settled stocked ∧ ¬ waitedFor stocked 0x2001 ∧ stocked.store.binding 0x2001 ≠ none)
      ∧ (ProfileRef.ofCode 0x13 = some (.loaded 3) ∧ stocked.store.profile (.loaded 3) ≠ none
          ∧ ¬ waitedFor stocked 0xFFFE ∧ stocked.store.binding 0xFFFE = none ∧ stocked.store.bindings.length < 16) :=
  ⟨⟨by decide, settled_of_quiet (by decide), not_waited (by decide), by decide⟩, by decide, by decide,
    not_waited (by decide), by decide, by decide⟩

theorem test_met_DeclineBindsTheTag :
    (Ready full ∧ Settled full ∧ full.store.binding 0x0001 = none ∧ 16 ≤ full.store.bindings.length)
      ∧ (Ready stocked ∧ Settled stocked ∧ stocked.store.binding 0x2000 ≠ none ∧ ¬ waitedFor stocked 0x2000) :=
  ⟨⟨by decide, settled_of_quiet (by decide), by decide, by decide⟩, by decide, settled_of_quiet (by decide), by decide,
    not_waited (by decide)⟩

theorem test_met_LookupOrder :
    stocked.store.binding 0x2001 = some ⟨0x2001, .decline⟩
      ∧ (stocked.store.binding 0x1005 = none ∧ stocked.store.loaded[(3 : Fin 12)] = some romProfiles[4]
          ∧ romProfiles[4].tag = 0x1005
          ∧ ∀ m : Fin 12, m < 3 → stocked.store.loaded[m] = none)
      ∧ (fitted.store.binding 0x100C = none ∧ (∀ m : Fin 12, fitted.store.loaded[m] = none)
          ∧ (0x100C : Word16) = BitVec.ofNat 16 (0x1001 + (11 : Fin 12).val) ∧ 0x100C < (0x100D : Word16).toNat) := by
  decide

/-- Slot A waiting on a referral for tag 0x4000. -/
def referring : State :=
  during .a { state := .referred, identified := true, tag := some 0x4000, referral := some 10000,
              keepAwake := some ⟨2000, 2000⟩ }

/-- The same with slot B PARKED and waiting for the same tag, and slot S referred for another. -/
def referringAll : State :=
  { referring with slots :=
      { referring.slots with
        b := { referring.slots.a with module := some 1, state := .parked, resume := .refer, keepAwake := none },
        s := { referring.slots.a with module := some 2, tag := some 0x4001 } } }

/-- What a lookup of tag 0x4000 finds after a command. -/
def foundAfter (c : Instr) (s : State := referringAll) : Option Target :=
  match exec c s with
  | .next t => t.store.lookup 0x4000
  | _ => none

/-- A payload that loads a profile with tag 0x4000 into slot 11. -/
def loads4000 : List Byte := 11 :: profileBytes { romProfiles[4] with tag := 0x4000 }

theorem test_met_HostAnswersWakeTheWaitingSlots :
    (Ready referringAll ∧ Settled referringAll)
      ∧ (waitsOn (referringAll.slot .a) 0x4000 ∧ (referringAll.slot .a).module = some 0
          ∧ (referringAll.slot .a).state = .referred ∧ referringAll.shareState .a = .opened
          ∧ referringAll.sweep.state ≠ .halting ∧ nothingWaits referringAll .a
          ∧ referringAll.setting .autoAttention = 0)
      ∧ (waitsOn (referringAll.slot .b) 0x4000 ∧ (referringAll.slot .b).state = .parked)
      ∧ ¬ waitsOn (referringAll.slot .s) 0x4000
      ∧ (answersFor referringAll 0x4000 (.bind [0x40, 0, 11])
          ∧ foundAfter (.bind [0x40, 0, 11]) = some (.profile (.rom 11)))
      ∧ (answersFor referringAll 0x4000 (.decline [0x40, 0]) ∧ foundAfter (.decline [0x40, 0]) = some .decline)
      ∧ (answersFor referringAll 0x4000 (.profileLoad loads4000)
          ∧ foundAfter (.profileLoad loads4000) = some (.profile (.loaded 11))) := by
  refine ⟨⟨by decide, settled_of_quiet (by decide)⟩, ?_, ?_, ?_, ⟨?_, by decide⟩, ⟨?_, by decide⟩, ?_, by decide⟩
  · unfold waitsOn nothingWaits
    decide
  · unfold waitsOn
    decide
  · unfold waitsOn
    decide
  · exact ⟨by decide, by decide, by decide, .inr ⟨.rom 11, by decide, by decide, by decide, .inr (by decide)⟩⟩
  · exact ⟨by decide, by decide, by decide, .inr (by decide)⟩
  · exact ⟨11, { romProfiles[4] with tag := 0x4000 }, by decide, rfl, not_in_use (by decide)⟩

/-- A BIND to NONE that leaves nothing to find: the tag was bound. -/
theorem test_met_HostAnswersWakeTheWaitingSlots_none :
    let s : State := { referring with store := { referring.store with bindings := [⟨0x4000, .decline⟩] } }
    answersFor s 0x4000 (.bind [0x40, 0, 0xFF])
      ∧ (match exec (.bind [0x40, 0, 0xFF]) s with | .next t => t.store.lookup 0x4000 | _ => some .decline) = none :=
  ⟨⟨by decide, by decide, by decide, .inl (by decide)⟩, by decide⟩

/-! #### The settings and the history -/

theorem not_refused {s : State} {ps : List (SettingId × Word16)} (h1 : ps ≠ []) (h2 : ps.length ≤ 25)
    (h3 : (ps.map Prod.fst).Nodup) (h4 : ∀ p ∈ ps, codeAccepted p.1 p.2)
    (h5 : heldAfter s ps .requestBaseA ≠ heldAfter s ps .responseBaseA)
    (h6 : heldAfter s ps .requestBaseB ≠ heldAfter s ps .responseBaseB) : ¬ pairsRefused s ps := by
  rintro (h | h | h | ⟨p, hp, h⟩ | h | h)
  · exact h1 h
  · omega
  · exact h h3
  · exact h (h4 p hp)
  · exact h5 h
  · exact h6 h

theorem test_met_SettingsPutIsOneWhole :
    (Ready State.reset ∧ pairsRefused State.reset [] ∧ pairsRefused State.reset [(.drawSize, 1), (.drawSize, 2)]
        ∧ pairsRefused State.reset [(.autoAttention, 2)] ∧ pairsRefused State.reset [(.requestBaseB, 0x6DF)])
      ∧ ¬ pairsRefused State.reset [(.echoSilence, 0), (.drawSize, 9), (.requestBaseA, 0xFFFF)]
      ∧ (([] : List Byte).length % 3 = 0 ∧ ([0x19, 0, 1] : List Byte).length % 3 = 0 ∧ (0 : Byte).toNat = 0
          ∧ 25 < (26 : Byte).toNat) := by
  refine ⟨⟨by decide, .inl rfl, ?_, ?_, ?_⟩, ?_, by decide⟩
  · exact .inr (.inr (.inl (by decide)))
  · exact .inr (.inr (.inr (.inl ⟨_, List.mem_singleton.mpr rfl, by simp [codeAccepted, SettingId.range]⟩)))
  · exact .inr (.inr (.inr (.inr (.inr (by decide)))))
  · refine not_refused (by decide) (by decide) (by decide) ?_ (by decide) (by decide)
    intro p hp
    simp only [List.mem_cons, List.not_mem_nil, or_false] at hp
    rcases hp with rfl | rfl | rfl <;> simp [codeAccepted, SettingId.range]

theorem one_pair_not_refused {s : State} {i : SettingId} {v : Word16} (h4 : codeAccepted i v)
    (h5 : heldAfter s [(i, v)] .requestBaseA ≠ heldAfter s [(i, v)] .responseBaseA)
    (h6 : heldAfter s [(i, v)] .requestBaseB ≠ heldAfter s [(i, v)] .responseBaseB) : ¬ pairsRefused s [(i, v)] :=
  not_refused (by simp) (by simp) (by simp) (fun p hp => by
    rw [List.mem_singleton] at hp
    subst hp
    exact h4) h5 h6

/-- A base changed with the slot FREE and with a dialog in it, and the polarity changed during a pulse, at rest and while the
detector is SUPPRESSED. -/
theorem test_met_SettingsActAtOnce :
    (Ready fitted ∧ Settled fitted ∧ ¬ pairsRefused fitted [(.requestBaseA, 0x123)]
        ∧ stored .requestBaseA 0x123 ≠ fitted.setting .requestBaseA ∧ (fitted.slot .a).state = .free)
      ∧ (let s := during .b asked
         Ready s ∧ Settled s ∧ ¬ pairsRefused s [(.responseBaseB, 0x123)]
           ∧ stored .responseBaseB 0x123 ≠ s.setting .responseBaseB ∧ (s.slot .b).state ≠ .free)
      ∧ (∀ d ∈ [Detector.capture, .ready, .suppressed],
          let s := fitted.withLine { detector := d }
          Ready s ∧ Settled s ∧ ¬ pairsRefused s [(.attentionPolarity, 1)]
            ∧ (1 : Word16).toNat ≠ s.setting .attentionPolarity) := by
  refine ⟨⟨by decide, settled_of_quiet (by decide), ?_, by decide⟩, ⟨by decide, settled_of_quiet (by decide), ?_, by decide⟩, ?_⟩
  · exact one_pair_not_refused (by simp [codeAccepted, SettingId.range]) (by decide) (by decide)
  · exact one_pair_not_refused (by simp [codeAccepted, SettingId.range]) (by decide) (by decide)
  · intro d hd
    simp only [List.mem_cons, List.not_mem_nil, or_false] at hd
    rcases hd with rfl | rfl | rfl <;>
      exact ⟨by decide, settled_of_quiet (by decide),
        one_pair_not_refused (by simp [codeAccepted, SettingId.range]) (by decide) (by decide), by decide⟩

theorem test_met_ChassisReferencesAreSetAndCount :
    Ready State.reset ∧ ((4 : Byte) ≠ 0 ∧ 4 ≤ (4 : Byte).toNat) ∧ ((3 : Byte) ≠ 0 ∧ (3 : Byte).toNat < 4) := by decide

/-- Records of profiles with and without a status field, a count field and a snapshot field, and an empty one. -/
theorem test_met_RecordsAreDecoded :
    (number .highFirst [0x0A, 0x0B] ≠ 0 ∧ number .highFirst [0, 0] = 0 ∧ number .lowFirst [0, 1] = 256)
      ∧ (romProfiles[3].status = none ∧ romProfiles[0].status = some ⟨2, 0x01, 4⟩)
      ∧ (romProfiles[1].count = none ∧ romProfiles[3].count = some ⟨3, 2⟩)
      ∧ (romProfiles[0].snapshot = none ∧ romProfiles[3].snapshot = some ⟨8, 2⟩)
      ∧ (decodeRecord romProfiles[0] none 0 oneRecord).isSome = true
      ∧ decodeRecord romProfiles[0] none 0 [0, 0, 1, 3] = none := by decide

/-- A reference snapshot with the module clock 0x00000010 high byte first. -/
def snap : RefSnapshot := { t := 1000, tSet := false, d := 0, dSet := false, clock := ⟨0, 0, 0, 0x10⟩ }

/-- Built-in profile 2 has both stamps, of two bytes, at offsets 4 and 6. -/
theorem test_met_StampsAreNormalised :
    romProfiles[0].stamps = none
      ∧ romProfiles[2].stamps = some ⟨2, some 4, some 6, 180, 1⟩ ∧ romProfiles[2].stampClass ≠ .none
      ∧ number .highFirst [snap.clock.b0, snap.clock.b1, snap.clock.b2, snap.clock.b3] % 2 ^ 16 ≠ 2 ^ 16 - 1
      ∧ presentStamp .highFirst [1, 0, 0, 1, 0, 8, 0, 0x10, 0, 0, 0, 0] 2 (some 4) = some 8
      ∧ presentStamp .highFirst [1, 0, 0, 1, 0, 8, 0, 0x10, 0, 0, 0, 0] 2 (some 6) = some 16
      ∧ presentStamp .highFirst [1, 0, 0, 1, 0xFF, 0xFF, 0, 0x10, 0, 0, 0, 0] 2 (some 4) = none
      ∧ number .highFirst [0, 0, 0xFF, 0xFF] % 2 ^ 16 = 2 ^ 16 - 1 := by decide

/-- A sighting of code 0x0A0B of module 0. -/
def sight : Sighting :=
  { module := 0, code := 0x0A0B, state := .active, severity := 1, count := 3, stamps := some ⟨.time, 7, 9⟩,
    predates := false, refUnset := true, snapshot := [1, 2] }

/-- The table with that sighting's record, sighted or not. -/
def recorded (sighted : Bool) : History :=
  { records := [{ newRecord sight 1 1 with sighted }], next := 2, poolUsed := 2 }

/-- The same record GONE, with the pool full or not beyond its two bytes. -/
def goneRecord (poolUsed : Nat) : History :=
  { recorded false with
    records := [{ newRecord sight 1 1 with sighted := false, state := .gone, unread := false }], poolUsed }

theorem test_met_SightingsMergeIntoTheirRecord :
    -- a first sighting: stamps of one class, of two, of one side alone
    (∃ r, (recorded false).find 0 0x0A0B = some r ∧ r.sighted = false ∧ r.stamps = some ⟨.time, 7, 9⟩
        ∧ r.state ≠ .gone ∧ r.stamps ≠ sight.stamps.map (fun z => { z with cls := .distance }))
      -- GONE, with room for two snapshot bytes and not for three
      ∧ (∃ r, (goneRecord 3072).find 0 0x0A0B = some r ∧ r.sighted = false ∧ r.state = .gone
          ∧ sight.snapshot.length ≤ 3072 - (goneRecord 3072).poolUsed + r.snapshot.length
          ∧ ([1, 2, 3] : List Byte) ≠ [] ∧ 3072 - (goneRecord 3072).poolUsed + r.snapshot.length < [1, 2, 3].length)
      -- a second sighting, whose stamps move the record's or do not
      ∧ (∃ r, (recorded true).find 0 0x0A0B = some r ∧ r.sighted = true ∧ r.stamps = some ⟨.time, 7, 9⟩
          ∧ (6 : Word32).toNat < (7 : Word32).toNat ∧ ¬ ((7 : Word32).toNat < 7 ∨ 9 < (9 : Word32).toNat))
      ∧ (recorded false).wf :=
  ⟨⟨_, rfl, by decide⟩, ⟨_, rfl, by decide⟩, ⟨_, rfl, by decide⟩, by decide⟩

/-- A table of one ACTIVE record with `n` snapshot bytes. -/
def pooled (n : Nat) : History :=
  { records := [{ newRecord { sight with snapshot := List.replicate n 0 } 1 1 with sighted := false }], next := 2,
    poolUsed := n }

theorem snapshotBytes_pooled (n : Nat) : snapshotBytes (pooled n).records = n := by
  simp [pooled, newRecord, snapshotBytes]

theorem pooled_wf {n : Nat} (h : n ≤ 3072) : (pooled n).wf := by
  refine ⟨List.pairwise_singleton _ _, List.pairwise_singleton _ _, by simp [pooled, maxRecords], ?_,
    (snapshotBytes_pooled n).symm, h, by simp [pooled]⟩
  intro r hr
  rw [List.mem_singleton.mp hr]
  exact ⟨by simp [newRecord], fun _ => rfl⟩

theorem pooled_staying (n : Nat) :
    (pooled n).records.filter (fun r => !(r.state == .gone && !r.unread)) = (pooled n).records := rfl

/-- The same with the record GONE and read: a candidate for eviction. -/
def evictablePool (n : Nat) : History :=
  { pooled n with
    records := [{ newRecord { sight with snapshot := List.replicate n 0 } 1 1 with
      sighted := false, state := .gone, unread := false }] }

theorem evictablePool_wf {n : Nat} (h : n ≤ 3072) : (evictablePool n).wf := by
  refine ⟨List.pairwise_singleton _ _, List.pairwise_singleton _ _, by simp [evictablePool, maxRecords], ?_, ?_, h,
    by simp [evictablePool, pooled]⟩
  · intro r hr
    rw [List.mem_singleton.mp hr]
    exact ⟨by simp [newRecord], fun _ => rfl⟩
  · simp [evictablePool, pooled, newRecord, snapshotBytes]

theorem snapshotBytes_evictablePool (n : Nat) : snapshotBytes (evictablePool n).records = n := by
  simp [evictablePool, newRecord, snapshotBytes]

theorem evictable_evictablePool (n : Nat) : evictable (evictablePool n) = (evictablePool n).records := rfl

/-- With a full pool the sighting finds room after the eviction, and not before. -/
theorem test_met_NewSightingsFindRoomOrAreRefused_evicting :
    (evictablePool 3072).wf ∧ (evictablePool 3072).find 0 0x0A0C = none
      ∧ roomAfter (evictablePool 3072) sight.snapshot.length (evictable (evictablePool 3072)).length
      ∧ ¬ roomAfter (evictablePool 3072) sight.snapshot.length 0 := by
  refine ⟨evictablePool_wf le_rfl, rfl, ⟨Nat.lt_of_le_of_lt (Nat.sub_le _ _) (show 1 < 384 by decide), ?_⟩, ?_⟩
  · rw [List.take_length, evictable_evictablePool, Nat.sub_self]
    decide
  · rintro ⟨_, h⟩
    rw [List.take_zero, snapshotBytes_evictablePool] at h
    simp [snapshotBytes, sight] at h

theorem test_met_NewSightingsFindRoomOrAreRefused :
    ((recorded true).wf ∧ (recorded true).find 0 0x0A0C = none
        ∧ roomAfter (recorded true) sight.snapshot.length (evictable (recorded true)).length
        ∧ roomAfter (recorded true) sight.snapshot.length 0)
      ∧ ((pooled 3072).wf ∧ (pooled 3072).find 0 0x0A0C = none
          ∧ 3072 < snapshotBytes ((pooled 3072).records.filter (fun r => !(r.state == .gone && !r.unread)))
              + sight.snapshot.length) := by
  refine ⟨⟨by decide, by decide, by unfold roomAfter; decide, by unfold roomAfter; decide⟩, pooled_wf le_rfl, rfl, ?_⟩
  rw [pooled_staying, snapshotBytes_pooled]
  decide

theorem test_met_HistoryIsReadAndPurged :
    Ready { State.reset with history := recorded false } ∧ (1 : Byte) ≠ 0 ∧ (0 : Byte).toNat < 2 ∧ (1 : Byte).toNat < 2
      ∧ ((2 : Byte).toNat = 2 ∧ (47 : Byte).toNat < 48) := by decide

/-! #### The sweep controller -/

/-- The state with a channel SILENCED by these causes. -/
def silencedBy (s : State) (c : Channel) (causes : Causes) : State :=
  s.withShareOf c { s.shareOf c with state := .silenced, causes }

/-- The fitted part with its key off. -/
def asleep : State :=
  { fitted with
    key := { on := false }, pins := { fitted.pins with key := false },
    share := { fitted.share with channels := ⟨{ state := .standby }, { state := .standby }, { state := .standby }⟩ } }

theorem sweepForm_all : sweepForm [0, 3] := ⟨3, by decide, .inl rfl⟩

theorem sweepForm_set : sweepForm [1, 0, 7] := ⟨0, by decide, .inr (.inl ⟨7, rfl, by decide, by decide⟩)⟩

theorem sweepForm_list : sweepForm [2, 0, 47] :=
  ⟨0, by decide, .inr (.inr ⟨[47], rfl, by decide, by decide, by decide⟩)⟩

theorem not_sweepForm_nil : ¬ sweepForm [] := by
  rintro ⟨o, _, h | ⟨x, h, _⟩ | ⟨is, h, _⟩⟩ <;> simp at h

theorem test_met_SweepRefusals :
    (Ready fitted ∧ ¬ sweepForm []) ∧ (Ready asleep ∧ sweepForm [0, 3] ∧ asleep.key.on = false)
      ∧ (Ready running ∧ sweepForm [1, 0, 7] ∧ running.key.on = true ∧ running.sweep.state ≠ .idle)
      ∧ sweepForm [2, 0, 47] :=
  ⟨⟨by decide, not_sweepForm_nil⟩, ⟨by decide, sweepForm_all, rfl⟩, ⟨by decide, sweepForm_set, rfl, by decide⟩,
    sweepForm_list⟩

theorem rests_of_free {s : State} (h : [Channel.a, .b, .s].all (fun c => s.workList c == [] && (s.slot c).state == .free))
    (hh : s.sweep.haltTaken = false) : SweepRests s := by
  have hc : ∀ c, s.workList c = [] ∧ (s.slot c).state = .free := by
    intro c
    have hm : c ∈ [Channel.a, .b, .s] := by cases c <;> decide
    simpa using List.all_eq_true.mp h c hm
  exact ⟨fun _ => ⟨hh, hc⟩, fun _ c => (hc c).1⟩

theorem test_met_SweepBuildsItsLists :
    Ready fitted ∧ Settled fitted ∧ SweepRests fitted ∧ sweepForm [1, 0, 7] ∧ ([1, 0, 7] : List Byte).getD 1 0 = 0
      ∧ fitted.key.on = true ∧ fitted.sweep.state = .idle
      ∧ (inScopeOf fitted [1, 0, 7] 0 ∧ ¬ skippedAtStart fitted 0 0)
      ∧ (inScopeOf fitted [1, 0, 7] 1 ∧ skippedAtStart fitted 0 1)
      ∧ (∀ i, i ∈ ([1] : List ModuleIndex) ↔ inScopeOf fitted [1, 0, 7] i ∧ skippedAtStart fitted 0 i)
      ∧ fitted.link.noticesHeld + ([1] : List ModuleIndex).length ≤ 12 := by
  refine ⟨by decide, settled_of_quiet (by decide), rests_of_free (by decide) rfl, sweepForm_set, rfl, rfl, rfl, ?_, ?_, ?_,
    by decide⟩ <;> (unfold inScopeOf skippedAtStart; decide)

theorem test_met_EmptySweepEndsWithinItsStart :
    Ready State.reset ∧ Settled State.reset ∧ SweepRests State.reset ∧ sweepForm [0, 3]
      ∧ (∀ i, ¬ inScopeOf State.reset [0, 3] i) ∧ State.reset.setting .autoAttention = 0 ∧ State.reset.key.on = true := by
  refine ⟨by decide, settled_of_quiet (by decide), rests_of_free (by decide) rfl, sweepForm_all, ?_, by decide, rfl⟩
  unfold inScopeOf
  decide

theorem test_met_SkippedSweepEndsWithinItsStart :
    Ready fitted ∧ Settled fitted ∧ SweepRests fitted ∧ sweepForm [2, 0, 1, 3] ∧ ([1] : List ModuleIndex).Pairwise (· < ·)
      ∧ (∀ i, i ∈ ([1] : List ModuleIndex) ↔ inScopeOf fitted [2, 0, 1, 3] i) ∧ skippedAtStart fitted 0 1
      ∧ fitted.setting .autoAttention = 0 ∧ fitted.link.noticesHeld + 1 < 12 := by
  refine ⟨by decide, settled_of_quiet (by decide), rests_of_free (by decide) rfl,
    ⟨0, by decide, .inr (.inr ⟨[1, 3], rfl, by decide, by decide, by decide⟩)⟩, by decide, ?_, ?_, by decide⟩
  · unfold inScopeOf
    decide
  · unfold skippedAtStart
    decide

theorem not_in_unit {s : State} {c : Channel} (h1 : (s.slot c).response = none) (h2 : (s.slot c).boot = none)
    (h3 : s.frameInProgress c = none) : ¬ inExchangeUnit s c := by
  simp [inExchangeUnit, h1, h2, h3]

/-- Slots at a boundary, in REFERRED and PARKED; and one whose ASK_ID is on the bus. -/
theorem test_met_HaltStopsTheSweep_slots :
    (let s := during .a { asked with response := none }
     Ready s ∧ Settled s ∧ ¬ inExchangeUnit s .a ∧ (s.slot .a).module = some 0 ∧ s.shareState .a = .opened
       ∧ s.frameInProgress .a = none)
    ∧ (Settled referringAll ∧ (referringAll.slot .a).state = .referred ∧ (referringAll.slot .b).state = .parked)
    ∧ (let f : TxFrame := { request := .askId, dest := .can 0x6A5 }
       let s := (during .a { identifying with response := none }).withCan .a { holding := .inProgress f true }
       Settled s ∧ inExchangeUnit s .a ∧ (s.slot .a).state = .identifying) :=
  ⟨⟨by decide, settled_of_quiet (by decide), not_in_unit (by decide) (by decide) (by decide), by decide⟩,
    ⟨settled_of_quiet (by decide), by decide⟩,
    settled_of_quiet (by decide), .inr (.inr ⟨{ request := .askId, dest := .can 0x6A5 }, by decide⟩), by decide⟩

theorem test_met_ResetKeepsWhatItShould :
    (let s := linked fitted [⟨0x14, []⟩, ⟨0x01, []⟩] 3
     s.link.inService = none ∧ s.link.repliesHeld < 4 ∧ s.link.requests = ⟨0x14, []⟩ :: [⟨0x01, []⟩])
    ∧ fitted.link.requests = [] := by decide

theorem test_met_HaltStopsTheSweep :
    (Ready fitted ∧ Settled fitted ∧ fitted.sweep.state ≠ .running)
      ∧ (Ready running ∧ Settled running ∧ running.sweep.state = .running ∧ running.slots.a.state = .free
          ∧ running.slots.b.state = .free ∧ running.slots.s.state = .free ∧ running.link.noticesHeld < 12)
      ∧ (let s := during .a identifying
         Ready s ∧ Settled s ∧ s.sweep.state = .running ∧ (s.slot .a).response ≠ none
          ∧ (s.slot .a).state = .identifying ∧ s.inSlot 1 = false) :=
  ⟨⟨by decide, settled_of_quiet (by decide), by decide⟩, ⟨by decide, settled_of_quiet (by decide), by decide⟩, by decide,
    settled_of_quiet (by decide), by decide⟩

/-- Channel A SILENCED with BUS_OFF, its controller in OFF_IDLE, and a yield trigger present or not. -/
def busOffA (hold : Option Nat) : State :=
  let s := silencedBy fitted .a { busOff := true }
  let s := s.withShareOf .a { s.shareOf .a with hold }
  s.withCan .a { s.can.a with errorState := .offIdle }

theorem test_met_ChannelResumeChecksAndReopens :
    (Ready fitted ∧ fitted.shareState .a ≠ .silenced)
      ∧ (let s := (silencedBy fitted .a { busOff := true }).withCan .a { fitted.can.a with errorState := .off }
         s.shareState .a = .silenced ∧ (s.shareOf .a).causes.busOff = true ∧ s.controllerOff .a = true)
      ∧ (let s := (silencedBy fitted .s { lineStuck := true }).withLine { fitted.line with stuck := true }
         s.shareState .s = .silenced ∧ (s.shareOf .s).causes.lineStuck = true ∧ s.line.stuck = true)
      ∧ (let s := busOffA (some 2000)
         let t := s.withShareOf .a { s.shareOf .a with causes := { tester := true } }
         t.shareState .a = .silenced ∧ (t.shareOf .a).causes.tester = true ∧ t.yieldTrigger .a = true)
      ∧ (let s := busOffA none
         Ready s ∧ Settled s ∧ s.shareState .a = .silenced ∧ s.controllerOff .a = false ∧ s.line.stuck = false
          ∧ s.yieldTrigger .a = false)
      ∧ (let s := busOffA (some 2000)
         Ready s ∧ Settled s ∧ s.shareState .a = .silenced ∧ s.controllerOff .a = false
          ∧ (s.shareOf .a).causes.tester = false ∧ s.yieldTrigger .a = true)
      ∧ (match exec (.channelResume [0]) (busOffA none) with | .next t => (t.canCtl .a).errorState | _ => .off) = .active :=
  ⟨by decide, by decide, by decide, by decide,
    ⟨by decide, settled_of_quiet (by decide), by decide⟩, ⟨by decide, settled_of_quiet (by decide), by decide⟩, by decide⟩

/-! #### The dialog -/

theorem heard_always {s : State} {c : Channel} {e : Entry}
    (h : s.can.a.errorState = .active ∧ s.can.a.testerHold = none ∧ s.can.b.errorState = .active ∧ s.can.b.testerHold = none) :
    heard s c e := by
  obtain ⟨h1, h2, h3, h4⟩ := h
  cases c <;> simp [heard, h1, h2, h3, h4]

theorem test_met_DialogStartTakesTheHead :
    (Settled running ∧ running.sweep.state = .running ∧ (running.slot .s).state = .free
        ∧ running.shareState .s = .opened ∧ running.workList .s = [2])
      ∧ (running.workList .b = [1] ∧ (running.entry 1).sleepy = true)
      ∧ (running.holdingEmpty .s = true ∧ running.waitingFrames .s = [])
      ∧ (let s := running.withCan .a { holding := .waiting { request := .bye, dest := .can 1, own := false } }
         Settled s ∧ s.holdingEmpty .a = false) :=
  ⟨⟨settled_of_quiet (by decide), by decide⟩, by decide, by decide, settled_of_quiet (by decide), by decide⟩

/-- The dialog `during c x`, with the profile store of `stocked`, and the module's resolution set. -/
def knowing (c : Channel) (x : Slot) (r : Resolution) : State :=
  let s : State := { during c x with store := stocked.store }
  s.withEntry (moduleOf c) { s.entry (moduleOf c) with resolution := r }

theorem test_met_IdReplyLeadsToPageZero :
    (let s := knowing .s identifying (.resolved (.rom 0) 0x1001)
     Settled s ∧ awaitsFirstReply s .s ∧ (s.slot .s).module = some 2 ∧ heard s .s (s.entry 2)
       ∧ s.shareState .s = .opened ∧ s.sweep.state ≠ .halting ∧ (s.entry 2).resolution = .resolved (.rom 0) 0x1001)
    ∧ (let s := knowing .a { identifying with state := .waking } (.declined 0x4000)
       Settled s ∧ awaitsFirstReply s .a ∧ (s.slot .a).module = some 0 ∧ heard s .a (s.entry 0)
         ∧ (∀ r, (s.entry 0).resolution ≠ .resolved r 0x2000) ∧ (s.entry 0).resolution ≠ .declined 0x2000
         ∧ s.store.lookup 0x2000 = some (.profile (.loaded 3))) := by
  refine ⟨⟨settled_of_quiet (by decide), ⟨.inl (by decide), by decide⟩, by decide, heard_always (by decide), by decide⟩,
    settled_of_quiet (by decide), ⟨.inr (by decide), by decide⟩, by decide, heard_always (by decide), ?_, by decide⟩
  intro r h
  have : (Resolution.declined 0x4000) = .resolved r 0x2000 := h
  cases this

theorem test_met_IdReplyRefersOrDeclines :
    (let s := knowing .b identifying .unresolved
     Settled s ∧ awaitsFirstReply s .b ∧ heard s .b (s.entry 1) ∧ s.shareState .b = .opened ∧ s.sweep.state ≠ .halting
       ∧ (∀ r, (s.entry 1).resolution ≠ .resolved r 0x7000) ∧ (s.entry 1).resolution ≠ .declined 0x7000
       ∧ s.store.lookup 0x7000 = none)
    ∧ (let s := knowing .b identifying (.declined 0x7000)
       Settled s ∧ awaitsFirstReply s .b ∧ otherWork s .b ∧ (s.entry 1).resolution = .declined 0x7000)
    ∧ (let s := knowing .b identifying .unresolved
       (∀ r, (s.entry 1).resolution ≠ .resolved r 0x2001) ∧ s.store.lookup 0x2001 = some .decline) := by
  have h : ∀ r t, (Resolution.unresolved) ≠ .resolved r t := by intro r t h; cases h
  exact ⟨⟨settled_of_quiet (by decide), ⟨.inl (by decide), by decide⟩, heard_always (by decide), by decide, by decide,
    fun r => h r _, by decide⟩, ⟨settled_of_quiet (by decide), ⟨.inl (by decide), by decide⟩, ⟨.a, .inl (by decide)⟩,
    by decide⟩, fun r => h r _, by decide⟩

theorem test_met_PageHeadStartsTheFirstBurst :
    (let s := during .a asked
     Settled s ∧ (s.slot .a).state = .reading ∧ (s.slot .a).sub = .asked ∧ (s.slot .a).module = some 0
       ∧ s.slotProfile .a = some romProfiles[0] ∧ heard s .a (s.entry 0)
       ∧ ¬ headMalformed romProfiles[0] (s.slot .a) 0 16 64
       ∧ s.shareState .a = .opened ∧ s.sweep.state ≠ .halting)
    ∧ segmentsNeeded .a 64 = 10 ∧ segmentsNeeded .s 64 = 4 := by
  refine ⟨⟨settled_of_quiet (by decide), by decide, by decide, by decide, by decide, heard_always (by decide), ?_,
    by decide⟩, by decide⟩
  unfold headMalformed
  decide

/-- A dialog on its second attempt at a page. -/
def secondAttempt : State := during .s { asked with attempt := 2 }

theorem test_met_PageAttemptsFail :
    (let s := during .a asked
     Settled s ∧ s.slotProfile .a = some romProfiles[0] ∧ heard s .a (s.entry 0)
       ∧ headMalformed romProfiles[0] (s.slot .a) 1 0 0 ∧ headMalformed romProfiles[0] (s.slot .a) 0 17 68
       ∧ headMalformed romProfiles[0] (s.slot .a) 0 1 5 ∧ (s.slot .a).response ≠ none ∧ (s.slot .a).attempt = 1)
    ∧ (Settled secondAttempt ∧ (secondAttempt.slot .s).attempt ≠ 1 ∧ otherWork secondAttempt .s
        ∧ (secondAttempt.slot .s).response ≠ none)
    ∧ (let s := during .b drawing
       Settled s ∧ (s.slot .b).sub = .drawing ∧ (s.slot .b).outstanding ≠ 0 ∧ (s.slot .b).response ≠ none
         ∧ segmentMisfits .b (s.slot .b) { count := 6, length := 24, more := false, sum := 0 } 1 (List.replicate 7 0)
         ∧ segmentMisfits .b (s.slot .b) { count := 6, length := 24, more := false, sum := 0 } 0 [0])
    ∧ (let s := during .s { lastSegment false with head := some { count := 1, length := 4, more := false, sum := 0 } }
       Settled s ∧ endsPage s .s { count := 1, length := 4, more := false, sum := 0 } 0 oneRecord
         ∧ sum16 ((s.slot .s).staging ++ oneRecord) ≠ 0)
    ∧ ((0 : Byte).toNat = (asked.page) ∧ (1 : Word16) ≠ 0) := by
  refine ⟨⟨settled_of_quiet (by decide), by decide, heard_always (by decide), ?_⟩,
    ⟨settled_of_quiet (by decide), by decide, ⟨.a, .inl (by decide)⟩, by decide⟩, ⟨settled_of_quiet (by decide), ?_⟩,
    ⟨settled_of_quiet (by decide), ?_, by decide⟩, by decide⟩
  · unfold headMalformed
    decide
  · unfold segmentMisfits
    decide
  · unfold endsPage
    decide

theorem test_met_PagesAreDrawnInBursts :
    (let s := during .b drawing
     Settled s ∧ 2 ≤ (s.slot .b).outstanding ∧ (s.slot .b).response ≠ none ∧ heard s .b (s.entry 1)
       ∧ ¬ segmentMisfits .b (s.slot .b) { count := 6, length := 24, more := false, sum := 0 } 0 (List.replicate 7 1))
    ∧ (let s := during .b { drawing with outstanding := 1, received := 1 }
       Settled s ∧ (s.slot .b).received + 1 ≠ (s.slot .b).expected
         ∧ ¬ segmentMisfits .b (s.slot .b) { count := 6, length := 24, more := false, sum := 0 } 1
              (List.replicate 7 1)) := by
  refine ⟨⟨settled_of_quiet (by decide), by decide, by decide, heard_always (by decide), ?_⟩,
    settled_of_quiet (by decide), by decide, ?_⟩ <;> (unfold segmentMisfits; decide)

theorem completes_lastSegment (c : Channel) (more : Bool) :
    completesPage (during c (lastSegment more)) c { count := 1, length := 4, more, sum := 0x19 } 0 oneRecord := by
  cases c <;> cases more <;> (unfold completesPage endsPage; decide)

/-- The same with a sweep that erases. -/
def erasing : State :=
  let s := during .s (lastSegment false)
  { s with sweep := { s.sweep with options := { eraseAfter := true } } }

theorem test_met_PagesAreCommittedWhole :
    (let s := during .a (lastSegment true)
     Settled s ∧ completesPage s .a { count := 1, length := 4, more := true, sum := 0x19 } 0 oneRecord
       ∧ s.slotProfile .a = some romProfiles[0] ∧ heard s .a (s.entry 0) ∧ s.sweep.state ≠ .halting
       ∧ (s.slot .a).page < 31)
    ∧ (let s := during .b (lastSegment false)
       Settled s ∧ completesPage s .b { count := 1, length := 4, more := false, sum := 0x19 } 0 oneRecord
         ∧ s.sweep.options.eraseAfter = false ∧ otherWork s .b)
    ∧ (Settled erasing ∧ completesPage erasing .s { count := 1, length := 4, more := false, sum := 0x19 } 0 oneRecord
        ∧ romProfiles[0].eraseAllowed = true ∧ (erasing.slot .s).eraseCapable = true
        ∧ erasing.sweep.haltTaken = false ∧ erasing.sweep.options.eraseAfter = true
        ∧ (mergedInOrder 1 erasing.history (decodePage romProfiles[0] none 2 oneRecord)).2.count .refused = 0) := by
  refine ⟨⟨settled_of_quiet (by decide), completes_lastSegment _ _, by decide, heard_always (by decide), by decide⟩,
    ⟨settled_of_quiet (by decide), completes_lastSegment _ _, by decide, .a, .inl (by decide)⟩,
    settled_of_quiet (by decide), completes_lastSegment .s false, by decide⟩

/-- The last possible page, with more to come, and one that asked an empty page. -/
theorem test_met_PagesAreCommittedWhole_page31 :
    (let s := during .b { lastSegment true with page := 31 }
     Settled s ∧ completesPage s .b { count := 1, length := 4, more := true, sum := 0x19 } 0 oneRecord
       ∧ s.slotProfile .b = some romProfiles[0] ∧ heard s .b (s.entry 1) ∧ (s.slot .b).page = 31 ∧ otherWork s .b)
    ∧ (let s := during .b { asked with page := 30 }
       Settled s ∧ heard s .b (s.entry 1) ∧ (30 : Byte).toNat = (s.slot .b).page ∧ (1 : Byte).getLsbD 0 = true
         ∧ (s.slot .b).page < 31) :=
  ⟨⟨settled_of_quiet (by decide), by unfold completesPage endsPage; decide, by decide, heard_always (by decide), by decide,
    .a, .inl (by decide)⟩, settled_of_quiet (by decide), heard_always (by decide), by decide⟩

/-- Reads that complete without an erase that is due: without ERASE_AFTER, and halted with it; and by an empty page. -/
theorem test_met_LastPageCompletesOrErases :
    (let s := during .b (lastSegment false)
     Settled s ∧ completesPage s .b { count := 1, length := 4, more := false, sum := 0x19 } 0 oneRecord
       ∧ ¬ eraseDueAfter s .b romProfiles[0] 0 ∧ otherWork s .b)
    ∧ (let s : State := { erasing with sweep := { erasing.sweep with state := .halting, haltTaken := true, lists := ⟨[], [], []⟩ } }
       Settled s ∧ completesPage s .s { count := 1, length := 4, more := false, sum := 0x19 } 0 oneRecord
         ∧ ¬ eraseDueAfter s .s romProfiles[0] 0)
    ∧ (let s := during .a asked
       Settled s ∧ (0 : Byte).toNat = (s.slot .a).page ∧ (0 : Byte).getLsbD 0 = false
         ∧ ¬ eraseDueAfter s .a romProfiles[0] (s.slot .a).refused ∧ otherWork s .a)
    ∧ eraseDueAfter erasing .s romProfiles[0] 0
    ∧ (let s := during .a { asked with eraseCapable := true }
       let u : State := { s with sweep := { s.sweep with options := { eraseAfter := true } } }
       Settled u ∧ u.shareState .a = .opened ∧ eraseDueAfter u .a romProfiles[0] (u.slot .a).refused) := by
  refine ⟨⟨settled_of_quiet (by decide), completes_lastSegment .b false, ?_, .a, .inl (by decide)⟩,
    ⟨settled_of_quiet (by decide), by unfold completesPage endsPage; decide, ?_⟩,
    ⟨settled_of_quiet (by decide), by decide, by decide, ?_, .b, .inl (by decide)⟩, ?_, settled_of_quiet (by decide),
    by decide, ?_⟩ <;> (unfold eraseDueAfter; decide)

/-- A dialog that waits for the answer to its ERASE. -/
def awaitsErase : Slot := { state := .erasing, identified := true, response := some { left := 150 } }

theorem test_met_AnswersEndTheDialog :
    (let s := during .s identifying
     Settled s ∧ awaitsFirstReply s .s ∧ heard s .s (s.entry 2) ∧ otherWork s .s)
    ∧ (let s := during .a { identifying with state := .waking }
       Settled s ∧ awaitsFirstReply s .a)
    ∧ (let s := halted .a .b asked
       Settled s ∧ (s.slot .a).state = .reading ∧ s.sweep.state = .halting ∧ otherWork s .a)
    ∧ (let s := during .b awaitsErase
       Settled s ∧ (s.slot .b).state = .erasing ∧ (s.slot .b).module = some 1 ∧ otherWork s .b)
    ∧ (Settled referring ∧ (referring.slot .a).referral ≠ none ∧ otherWork referring .a)
    ∧ (let s := during .a { referring.slots.a with state := .parked, resume := .refer }
       Settled s ∧ (s.slot .a).referral ≠ none ∧ otherWork s .a) :=
  ⟨⟨settled_of_quiet (by decide), ⟨.inl (by decide), by decide⟩, heard_always (by decide), .a, .inl (by decide)⟩,
    ⟨settled_of_quiet (by decide), .inr (by decide), by decide⟩,
    ⟨settled_of_quiet (by decide), by decide, by decide, .b, .inr (by decide)⟩,
    ⟨settled_of_quiet (by decide), by decide, by decide, .a, .inl (by decide)⟩,
    ⟨settled_of_quiet (by decide), by decide, .b, .inl (by decide)⟩,
    settled_of_quiet (by decide), by decide, .b, .inl (by decide)⟩

/-- Channel A with a frame unstarted in its transmit holding, and requests still to hand behind it. -/
def waitingA (s : State) (held : TxRequest) (behind : List TxRequest) : State :=
  (s.withCan .a { s.can.a with holding := .waiting { request := held, dest := .can 0x6A5 } }).withWaitingFrames .a
    (behind.map (fun q => { request := q, dest := .can 0x6A5 }))

/-- The requests that wait on channel A after a command, from the transmit holding on. -/
def waitOnA (i : Instr) (s : State) : List TxRequest :=
  match exec i s with
  | .next t => ((t.frameWaiting .a).toList ++ t.waitingFrames .a).map TxFrame.request
  | _ => []

/-- R33: a slot in REFERRED sends no request, whether its next ASK_ID stood behind a STAY or in the transmit holding. -/
theorem test_referred_slot_sends_no_request :
    (let s := knowing .a identifying .unresolved
     waitOnA (.idReply .a 0x7000 ⟨0, 0, 0, 0⟩ 0) (waitingA s .stay [.askId]) = [.stay]
       ∧ waitOnA (.idReply .a 0x7000 ⟨0, 0, 0, 0⟩ 0) (waitingA s .askId []) = []) := by decide +kernel

/-- R42: an ERASE goes out only within its dialog, so that of one denied is withdrawn before the BYE is handed (R44). -/
theorem test_denied_erase_is_not_sent :
    (let s := during .a { awaitsErase with response := none }
     waitOnA (.deny .a 0) (waitingA s .stay [.erase]) = [.stay, .bye]
       ∧ waitOnA (.deny .a 0) (waitingA s .erase []) = [.bye]) := by decide +kernel

/-- A slot that asks its module's identity again, to go on from a resume point. -/
def again (r : ResumePoint) : Slot :=
  { identifying with
    identified := true, tag := some 0x1001, profile := some (.rom 0), resume := r, eraseCapable := true }

/-- A sweep whose last dialog is in slot A, halted or not. -/
def lastOne (x : Slot) (halt : Bool) : State :=
  let s := during .a x
  { s with sweep := { s.sweep with
      state := if halt then .halting else .running, haltTaken := halt, lists := ⟨[], [], []⟩ } }

/-- The hypotheses on the state alone, checked. -/
def lastReady (s : State) : Bool :=
  quiet s && (s.slot .a).module == some 0 && s.sweep.state != .idle
    && s.workList .a == [] && s.workList .b == [] && s.workList .s == [] && (s.slot .b).state == .free
    && (s.slot .s).state == .free && s.setting .autoAttention == 0 && !(s.entry 0).attention
    && s.shareState .a == .opened && s.link.noticesHeld < 11

theorem lastDialog_of_ready {s : State} (h : lastReady s = true) : lastDialog s .a 0 := by
  simp only [lastReady, Bool.and_eq_true, beq_iff_eq, bne_iff_ne, Bool.not_eq_true', decide_eq_true_eq] at h
  obtain ⟨⟨⟨⟨⟨⟨⟨⟨⟨⟨⟨_, hm⟩, hi⟩, ha⟩, hb⟩, hs⟩, fb⟩, fs⟩, h0⟩, hf⟩, ho⟩, _⟩ := h
  refine ⟨hm, hi, fun d => ?_, fun d hd => ?_, h0, hf, by simp [ho]⟩
  · cases d <;> assumption
  · cases d
    · exact absurd rfl hd
    · exact fb
    · exact fs

theorem test_met_ModulesAndTimersEndTheSweep :
    [true, false].all (fun h =>
      lastReady (lastOne awaitsErase h) && lastReady (lastOne asked h) && lastReady (lastOne identifying h)
        && lastReady (lastOne referring.slots.a false) && lastReady (lastOne (lastSegment false) h)) = true := by decide

/-- The part of `stocked` in which the last dialog waits on a tag. -/
def lastReferral (x : Slot) : State :=
  { lastOne { referring.slots.a with state := x.state, resume := x.resume } false with store := stocked.store }

theorem sound_stocked : StoreSound stocked.store := by
  refine ⟨by decide, by decide, ?_⟩
  intro b hb
  refine ⟨?_, ?_, ?_⟩
  · revert b
    decide
  · revert b
    decide
  · intro n hn
    revert n hn
    revert b
    decide

/-- A slot that lost its lookup to a DECLINE while it asked its module again, and waits once more: its tag bound to DECLINE, a
profile in loaded slot 3, another entry RESOLVED to it. -/
def declinedReferral : State :=
  let s := lastReferral { state := .referred }
  { s with
    store := { s.store with bindings := s.store.bindings ++ [⟨0x4000, .decline⟩] },
    table := s.table.set 1 { moduleB with resolution := .resolved (.loaded 3) 0x2000 } }

/-- A payload that loads a profile with tag 0x4000 over the one in slot 3. -/
def over3 : List Byte := 3 :: profileBytes { romProfiles[4] with tag := 0x4000 }

theorem sound_declinedReferral : StoreSound declinedReferral.store := by
  refine ⟨by decide, by decide, ?_⟩
  intro b hb
  refine ⟨?_, ?_, ?_⟩
  · revert b
    decide
  · revert b
    decide
  · intro n hn
    revert n hn
    revert b
    decide

/-- What `HostDeclinesEndTheSweep` asks of the state, beside a sound store. -/
def waitsLast (s : State) : Prop := Ready s ∧ lastReady s = true ∧ waitsOn (s.slot .a) 0x4000

theorem test_met_HostDeclinesEndTheSweep :
    (let s := lastReferral { state := .referred }
     waitsLast s ∧ StoreSound s.store ∧ answersFor s 0x4000 (.decline [0x40, 0x00])
       ∧ answersFor s 0x4000 (.bind [0x40, 0x00, 11]))
    ∧ waitsLast (lastReferral { state := .parked, resume := .refer })
    ∧ (let s := declinedReferral
       waitsLast s ∧ StoreSound s.store ∧ answersFor s 0x4000 (.decline [0x40, 0x00])
         ∧ parseProfileLoad over3 = some ((3 : Fin 12), ({ romProfiles[4] with tag := 0x4000 } : Profile)) ∧ ¬ loadedInUse s 3
         ∧ s.store.binding 0x4000 = some ⟨0x4000, .decline⟩ ∧ (s.store.loaded[3]).isSome = true
         ∧ ((released s 3).entry 1).resolution = .unresolved ∧ (s.entry 1).resolution ≠ .unresolved
         ∧ answersFor s 0x4000 (.bind [0x40, 0x00, 0xFF])) := by
  refine ⟨⟨?_, sound_stocked, ⟨by decide, by decide, by decide, .inr (by decide)⟩,
      by decide, by decide, by decide, .inr ⟨.rom 11, by decide, by decide, by decide, .inr (by decide)⟩⟩, ?_,
    ?_, sound_declinedReferral, ⟨by decide, by decide, by decide, .inl (by decide)⟩, by decide, not_in_use (by decide), by decide,
      by decide, by decide +kernel, by decide, by decide, by decide, by decide, .inl (by decide)⟩ <;>
    exact ⟨by decide, by decide, by unfold waitsOn; decide⟩

/-- The entry RESOLVED to the replaced profile has returned to UNRESOLVED when the sweep ends (R70, R72). -/
theorem test_load_over_a_profile_ends_the_sweep :
    (match exec (.profileLoad over3) declinedReferral with
      | .next t => (t.sweep.state, (t.entry 1).resolution, t.link.outbound.head?)
      | _ => (.running, .unresolved, none)) =
      (.idle, .unresolved, some (.reply 0x86 .done [3, 1, 1])) := by decide +kernel

/-! Each end that `endsDialog` names, in the sweep's last dialog. -/

theorem test_met_endsDialog_answers :
    (endsDialog (lastOne awaitsErase false) .a 0 (endOf (lastOne awaitsErase false) .a .erased) (.eraseDone .a)
      ∧ endsDialog (lastOne awaitsErase true) .a 0 (endOf (lastOne awaitsErase true) .a .eraseDenied) (.deny .a 1))
    ∧ (endsDialog (lastOne asked false) .a 0 (endOf (lastOne asked false) .a .partialRead) (.deny .a 1)
      ∧ endsDialog (lastOne asked true) .a 0 (endOf (lastOne asked true) .a .aborted) (.deny .a 1))
    ∧ (let s := lastOne identifying false
       endsDialog s .a 0 (endOf s .a .denied) (.deny .a 1))
    ∧ (let s := lastOne { again .erase with state := .waking } false
       endsDialog s .a 0 (endOf s .a .complete) (.deny .a 1)) := by
  exact ⟨⟨⟨rfl, heard_always (by decide), by decide, rfl⟩, rfl, heard_always (by decide), .inr (.inr ⟨by decide, rfl⟩)⟩,
    ⟨⟨rfl, heard_always (by decide), .inr (.inl ⟨by decide, rfl⟩)⟩, rfl, heard_always (by decide), .inr (.inl ⟨by decide, rfl⟩)⟩,
    ⟨rfl, heard_always (by decide), .inl ⟨.inl (by decide), rfl⟩⟩, rfl, heard_always (by decide), .inl ⟨.inr (by decide), rfl⟩⟩

theorem test_met_endsDialog_timers :
    (let s := lastOne identifying true
     endsDialog s .a 0 (endOf s .a .aborted) (.responseTimerExpiry .a))
    ∧ (let s := lastOne { identifying with idAttempt := 2 } false
       endsDialog s .a 0 (endOf s .a .noAnswer) (.responseTimerExpiry .a))
    ∧ (let s := lastOne asked true
       endsDialog s .a 0 (endOf s .a .aborted) (.responseTimerExpiry .a))
    ∧ (let s := lastOne { asked with attempt := 2 } false
       endsDialog s .a 0 (endOf s .a .partialRead) (.responseTimerExpiry .a))
    ∧ (let s := lastOne awaitsErase true
       endsDialog s .a 0 (endOf s .a .eraseDenied) (.responseTimerExpiry .a))
    ∧ (let s := lastOne { state := .waking, boot := some 1 } true
       endsDialog s .a 0 (endOf s .a .aborted) (.bootTimerExpiry .a))
    ∧ (let s := lastOne referring.slots.a false
       endsDialog s .a 0 (endOf s .a .unresolved) (.referralTimerExpiry .a)) :=
  ⟨⟨rfl, by decide, .inl (by decide)⟩, ⟨rfl, by decide, .inr (.inl (by decide))⟩,
    ⟨rfl, by decide, .inr (.inr (.inl ⟨by decide, .inl (by decide)⟩))⟩,
    ⟨rfl, by decide, .inr (.inr (.inl ⟨by decide, .inr (by decide)⟩))⟩,
    ⟨rfl, by decide, .inr (.inr (.inr (by decide)))⟩, ⟨rfl, by decide⟩, rfl, by decide⟩

/-- The last dialog with the profile store of `stocked`. -/
def lastKnowing (x : Slot) (halt : Bool) : State := { lastOne x halt with store := stocked.store }

/-- An identity reply of the last dialog ends it. -/
def endsAtReply (s : State) (tag : Word16) (e : DialogEnd) : Prop := endsDialog s .a 0 e (.idReply .a tag ⟨0, 0, 0, 0⟩ 0)

theorem test_met_endsDialog_firstReply :
    (let s := lastKnowing identifying false
     endsAtReply s 0x2001 (endOf s .a .unsupported))
    ∧ (let s := lastKnowing { identifying with state := .waking } true
       endsAtReply s 0x1001 (endOf s .a .aborted))
    ∧ (let s := lastKnowing identifying true
       endsAtReply s 0x7000 { endOf s .a .aborted with before := [.referral 0 0x7000] }) := by
  refine ⟨⟨rfl, heard_always (by decide), by decide, by decide, .inl ⟨⟨.inl (by decide), by decide⟩,
      .inl ⟨.inr ⟨fun r => unresolved_ne r, by decide⟩, rfl⟩⟩⟩,
    ⟨rfl, heard_always (by decide), by decide, by decide, .inl ⟨⟨.inr (by decide), by decide⟩,
      .inr (.inl ⟨by decide, ⟨.rom 0, .inr ⟨fun r => unresolved_ne r, by decide⟩⟩, rfl⟩)⟩⟩,
    rfl, heard_always (by decide), by decide, by decide, .inl ⟨⟨.inl (by decide), by decide⟩,
      .inr (.inr ⟨by decide, ⟨fun r => unresolved_ne r, by decide⟩, rfl⟩)⟩⟩

theorem test_met_endsDialog_resumedReply :
    (let s := lastKnowing (again .page) true
     endsAtReply s 0x1001 (endOf s .a .aborted))
    ∧ (let s := lastKnowing (again .page) false
       endsAtReply s 0x2001 (endOf s .a .partialRead))
    ∧ (let s := lastKnowing (again .erase) true
       endsAtReply s 0x1001 (endOf s .a .aborted))
    ∧ (let s := lastKnowing (again .erase) false
       endsAtReply s 0x1001 (endOf s .a .complete))
    ∧ (let s := lastKnowing { again .refer with tag := some 0x2001 } false
       endsAtReply s 0x2001 (endOf s .a .unsupported))
    ∧ (let s := lastKnowing { again .refer with tag := some 0x7000 } true
       endsAtReply s 0x7000 (endOf s .a .aborted))
    ∧ (let s := lastKnowing (again .refer) false
       endsAtReply s 0x2001 (endOf s .a .unsupported)) := by
  refine ⟨?_, ?_, ?_, ?_, ?_, ?_, ?_⟩ <;>
    refine ⟨rfl, heard_always (by decide), by decide, by decide, .inr ⟨⟨.inl (by decide), by decide⟩, ?_⟩⟩
  · exact .inl ⟨by decide, rfl⟩
  · exact .inr ⟨by decide, by decide, rfl⟩
  · exact .inl ⟨by decide, rfl⟩
  · exact .inr ⟨by decide, rfl, romProfiles[0], by decide, by unfold eraseStillDue; decide⟩
  · exact .inl ⟨by decide, by decide, rfl⟩
  · exact .inr (.inl ⟨by decide, by decide, by decide, rfl⟩)
  · exact .inr (.inr ⟨by decide, .inl ⟨.inr ⟨fun r => unresolved_ne r, by decide⟩, rfl⟩⟩)

theorem test_met_endsDialog_pageHead :
    (let s := lastOne { asked with attempt := 2 } false
     endsDialog s .a 0 (endOf s .a .partialRead) (.pageHead .a 1 0 0 0 0)
       ∧ endsDialog s .a 0 (endOf s .a .partialRead) (.pageHead .a 0 0 0 0 1))
    ∧ (let s := lastOne asked true
       endsDialog s .a 0 (endOf s .a .aborted) (.pageHead .a 0 1 4 0 0)
         ∧ endsDialog s .a 0 (endAfterPage s .a (s.history, []) .aborted) (.pageHead .a 0 0 0 1 0))
    ∧ (let s := lastOne { asked with page := 31 } false
       endsDialog s .a 0 (endAfterPage s .a (s.history, []) .partialRead) (.pageHead .a 31 0 0 1 0)
         ∧ endsDialog s .a 0 (endAfterPage s .a (s.history, []) .complete) (.pageHead .a 31 0 0 0 0)) := by
  refine ⟨⟨?_, ?_⟩, ⟨?_, ?_⟩, ?_, ?_⟩ <;>
    refine ⟨rfl, heard_always (by decide), by decide, by decide, romProfiles[0], by decide, ?_⟩
  · exact .inl ⟨by unfold headMalformed; decide, .inr (by decide)⟩
  · exact .inr (.inr (.inl ⟨by unfold headMalformed; decide, by decide, by decide, .inr (by decide)⟩))
  · exact .inr (.inl ⟨by unfold headMalformed; decide, by decide, by decide, rfl⟩)
  · exact .inr (.inr (.inr ⟨by unfold headMalformed; decide, by decide, by decide, .inl ⟨by decide, by decide, rfl⟩⟩))
  · exact .inr (.inr (.inr
      ⟨by unfold headMalformed; decide, by decide, by decide, .inr (.inl ⟨by decide, by decide, by decide, rfl⟩)⟩))
  · exact .inr (.inr (.inr ⟨by unfold headMalformed; decide, by decide, by decide,
      .inr (.inr ⟨by decide, by unfold eraseDueAfter; decide, by decide⟩)⟩))

/-- The page of one record, with more to come or not. -/
def onePage (more : Bool) : PageHead := { count := 1, length := 4, more, sum := 0x19 }

theorem test_met_endsDialog_segment :
    (let s := lastOne { drawing with attempt := 2 } false
     endsDialog s .a 0 (endOf s .a .partialRead) (.segment .a 1 oneRecord))
    ∧ (let s := lastOne { drawing with outstanding := 1, received := 1 } true
       endsDialog s .a 0 (endOf s .a .aborted) (.segment .a 1 (List.replicate 7 0)))
    ∧ (let s := lastOne { lastSegment false with attempt := 2 } false
       endsDialog s .a 0 (endOf s .a .partialRead) (.segment .a 0 [0x0A, 0x0B, 0x01, 0x04]))
    ∧ (let s := lastOne (lastSegment true) true
       endsDialog s .a 0 (endAfterPage s .a (s.history, [.created]) .aborted) (.segment .a 0 oneRecord))
    ∧ (let s := lastOne { lastSegment true with page := 31 } false
       endsDialog s .a 0 (endAfterPage s .a (s.history, [.created]) .partialRead) (.segment .a 0 oneRecord))
    ∧ (let s := lastOne (lastSegment false) false
       endsDialog s .a 0 (endAfterPage s .a (s.history, [.created]) .complete) (.segment .a 0 oneRecord)) := by
  refine ⟨?_, ?_, ?_, ?_, ?_, ?_⟩ <;>
    refine ⟨rfl, heard_always (by decide), by decide, by decide, by decide, by decide, by decide, _, romProfiles[0], rfl,
      by decide, ?_⟩
  · exact .inl ⟨by unfold segmentMisfits; decide, by decide, .inr (by decide)⟩
  · exact .inr (.inl ⟨by unfold segmentMisfits; decide, by decide⟩)
  · exact .inr (.inr (.inl ⟨by unfold endsPage; decide, by decide, .inr (by decide)⟩))
  · exact .inr (.inr (.inr ⟨by unfold completesPage endsPage; decide, .inl (by decide)⟩))
  · exact .inr (.inr (.inr ⟨by unfold completesPage endsPage; decide, .inr (.inl (by decide))⟩))
  · exact .inr (.inr (.inr
      ⟨by unfold completesPage endsPage; decide, .inr (.inr ⟨by decide, by unfold eraseDueAfter; decide, by decide⟩)⟩))

/-- Line S sending the frame of a dialog's step. -/
def sendingStep (x : Slot) (request : TxRequest) : State :=
  (during .s x).withLine
    { transmitter := .sending, driving := some ⟨request, .line 15 .r9600, none, true⟩, driveRate := some .r9600,
      detector := .suppressed, release := none }

theorem awaited_step {x : Slot} {q : TxRequest}
    (h : (q = .askId ∧ x.state = .identifying) ∨ (q = .askPage x.page ∧ x.state = .reading ∧ x.sub = .asked)
      ∨ ((∃ k, q = .draw k) ∧ x.state = .reading ∧ x.sub = .drawing) ∨ (q = .erase ∧ x.state = .erasing)) :
    awaitedRequest (sendingStep x q) := ⟨rfl, _, rfl, rfl, h⟩

theorem test_met_endsDialog_frameAbandoned :
    (let s := sendingStep { identifying with response := none, idAttempt := 2 } .askId
     Settled s ∧ otherWork s .s ∧ endsDialog s .s 2 (endOf s .s .noAnswer) .lineFrameAbandoned)
    ∧ (let s := sendingStep { asked with response := none, attempt := 2 } (.askPage 0)
       endsDialog s .s 2 (endOf s .s .partialRead) .lineFrameAbandoned)
    ∧ (let s := sendingStep { drawing with response := none, attempt := 2 } (.draw 4)
       endsDialog s .s 2 (endOf s .s .partialRead) .lineFrameAbandoned)
    ∧ (let s := sendingStep { awaitsErase with response := none } .erase
       endsDialog s .s 2 (endOf s .s .eraseDenied) .lineFrameAbandoned) :=
  ⟨⟨settled_of_quiet (by decide), ⟨.a, .inl (by decide)⟩, rfl, awaited_step (.inl ⟨rfl, rfl⟩), by decide,
      by decide, .inr (.inl (by decide))⟩,
    ⟨rfl, awaited_step (.inr (.inl ⟨rfl, rfl, rfl⟩)), by decide, by decide,
      .inr (.inr (.inl ⟨by decide, .inr (by decide)⟩))⟩,
    ⟨rfl, awaited_step (.inr (.inr (.inl ⟨⟨4, rfl⟩, rfl, rfl⟩))), by decide, by decide,
      .inr (.inr (.inl ⟨by decide, .inr (by decide)⟩))⟩,
    rfl, awaited_step (.inr (.inr (.inr ⟨rfl, rfl⟩))), by decide, by decide, .inr (.inr (.inr (by decide)))⟩

/-- An exchange unit that ends under a halt on an OPEN channel, another dialog being under way. -/
theorem test_met_DialogsEndWithTheirOutcome :
    let s := halted .a .b { asked with attempt := 1 }
    Settled s ∧ (s.slot .a).module = some 0 ∧ s.shareState .a = .opened ∧ otherWork s .a
      ∧ endsDialog s .a 0 (endOf s .a .aborted) (.pageHead .a 1 0 0 0 0) := by
  refine ⟨settled_of_quiet (by decide), by decide, by decide, ⟨.b, .inr (by decide)⟩, rfl, heard_always (by decide),
    by decide, by decide, romProfiles[0], by decide, .inl ⟨by unfold headMalformed; decide, .inl (by decide)⟩⟩

theorem test_met_WaitsAreExtendedAndExpire :
    (let s := during .a { identifying with holdOns := 7 }
     Settled s ∧ heard s .a (s.entry 0) ∧ (s.slot .a).response = some { left := 150 } ∧ (s.slot .a).holdOns < 8)
    ∧ (let s := during .b { identifying with idAttempt := 1 }
       Settled s ∧ s.shareState .b = .opened ∧ (s.slot .b).idAttempt < 1 + (s.entry 1).retries)
    ∧ (let s := during .b { identifying with idAttempt := 2 }
       Settled s ∧ 1 + (s.entry 1).retries ≤ (s.slot .b).idAttempt ∧ (s.slot .b).identified = false ∧ otherWork s .b)
    ∧ (let s := during .s awaitsErase
       Settled s ∧ (s.slot .s).response ≠ none ∧ (s.slot .s).state = .erasing ∧ otherWork s .s) :=
  ⟨⟨settled_of_quiet (by decide), heard_always (by decide), by decide⟩, ⟨settled_of_quiet (by decide), by decide⟩,
    ⟨settled_of_quiet (by decide), by decide, by decide, .a, .inl (by decide)⟩,
    settled_of_quiet (by decide), by decide, by decide, .a, .inl (by decide)⟩

/-! #### Parking, resuming, attention -/

/-- The dialog `during c x` on a channel whose yield waits for it, its trigger present while the release hold runs. -/
def yielding (c : Channel) (x : Slot) (hold : Option Nat := some 100) : State :=
  (during c x).withShareOf c { state := .yieldPending, hold }

/-- The check of `parksAfter`. -/
theorem parks_of {s : State} {c : Channel} {i : ModuleIndex}
    (h : quiet s && s.shareState c == .yieldPending && s.yieldTrigger c && (s.slot c).module == some i
      && s.sweep.state != .halting) : parksAfter s c i := by
  simp only [Bool.and_eq_true, beq_iff_eq, bne_iff_ne] at h
  exact ⟨settled_of_quiet h.1.1.1.1, h.1.1.1.2, h.1.1.2, h.1.2, h.2⟩

theorem test_met_SlotsParkWithTheirIdentity :
    (let s : State := { yielding .a identifying with store := stocked.store }
     parksAfter s .a 0 ∧ heard s .a (s.entry 0) ∧ awaitsFirstReply s .a ∧ tagServed s 0 0x1001 (.rom 0)
       ∧ tagUnknown s 0 0x7000 ∧ noneWaits s .a)
    ∧ (let s := (yielding .a (again .page)).withEntry 0 { moduleA with resolution := .resolved (.rom 0) 0x1001 }
       parksAfter s .a 0 ∧ awaitsResumedReply s .a ∧ (s.slot .a).resume = .page ∧ (s.slot .a).tag = some 0x1001)
    ∧ (let s := yielding .s (again .erase)
       let u : State := { s with sweep := { s.sweep with options := { eraseAfter := true } } }
       parksAfter u .s 2 ∧ heard u .s (u.entry 2) ∧ awaitsResumedReply u .s ∧ u.slotProfile .s = some romProfiles[0]
         ∧ eraseStillDue u .s romProfiles[0] 0x1001 1)
    ∧ (let s : State := { yielding .b (again .refer) with store := stocked.store }
       parksAfter s .b 1 ∧ awaitsResumedReply s .b ∧ s.store.lookup 0x1001 = some (.profile (.rom 0))
         ∧ (s.slot .b).tag ≠ some 0x2000 ∧ tagServed s 1 0x2000 (.loaded 3) ∧ tagUnknown s 1 0x7000)
    ∧ (let s := yielding .b { again .refer with tag := some 0x7000 }
       parksAfter s .b 1 ∧ s.store.lookup 0x7000 = none)
    ∧ (let s := yielding .a (again .page)
       parksAfter s .a 0 ∧ (s.slot .a).response ≠ none ∧ (s.slot .a).idAttempt < 1 + (s.entry 0).retries)
    ∧ (let s := yielding .b { state := .waking, boot := some 20 }
       parksAfter s .b 1 ∧ (s.slot .b).boot ≠ none) := by
  have served : ∀ {s : State} {i : ModuleIndex} {tag : Word16} {ref : ProfileRef},
      (s.entry i).resolution = .unresolved ∧ s.store.lookup tag = some (.profile ref) → tagServed s i tag ref :=
    fun h => .inr ⟨fun r => h.1 ▸ unresolved_ne r, by simp [h.1], h.2⟩
  have unknown : ∀ {s : State} {i : ModuleIndex} {tag : Word16},
      (s.entry i).resolution = .unresolved ∧ s.store.lookup tag = none → tagUnknown s i tag :=
    fun h => ⟨fun r => h.1 ▸ unresolved_ne r, by simp [h.1], h.2⟩
  refine ⟨⟨parks_of (by decide), heard_always (by decide), ⟨.inl (by decide), by decide⟩, served (by decide),
      unknown (by decide), by unfold noneWaits; decide⟩,
    ⟨parks_of (by decide), ⟨.inl (by decide), by decide⟩, by decide⟩,
    ⟨parks_of (by decide), heard_always (by decide), ⟨.inl (by decide), by decide⟩, by decide, by unfold eraseStillDue; decide⟩,
    ⟨parks_of (by decide), ⟨.inl (by decide), by decide⟩, by decide, by decide, served (by decide), unknown (by decide)⟩,
    ⟨parks_of (by decide), by decide⟩, ⟨parks_of (by decide), by decide⟩, parks_of (by decide), by decide⟩

theorem test_met_SlotsParkWithTheirPage :
    (let s := yielding .s asked
     parksAfter s .s 2 ∧ heard s .s (s.entry 2) ∧ (s.slot .s).response ≠ none ∧ (s.slot .s).attempt = 1
       ∧ s.slotProfile .s = some romProfiles[0] ∧ ¬ headMalformed romProfiles[0] (s.slot .s) 0 1 4
       ∧ headMalformed romProfiles[0] (s.slot .s) 0 1 5 ∧ ¬ headMalformed romProfiles[0] (s.slot .s) 0 0 0
       ∧ (s.slot .s).page < 31 ∧ noneWaits s .s)
    ∧ (let s := yielding .a { asked with eraseCapable := true }
       let u : State := { s with sweep := { s.sweep with options := { eraseAfter := true } } }
       parksAfter u .a 0 ∧ u.slotProfile .a = some romProfiles[0] ∧ eraseDueAfter u .a romProfiles[0] (u.slot .a).refused)
    ∧ (let s := yielding .b { drawing with outstanding := 1, received := 1 }
       let h : PageHead := { count := 6, length := 24, more := false, sum := 0 }
       parksAfter s .b 1 ∧ ¬ segmentMisfits .b (s.slot .b) h 1 (List.replicate 7 1)
         ∧ (s.slot .b).received + 1 ≠ (s.slot .b).expected ∧ segmentMisfits .b (s.slot .b) h 2 (List.replicate 7 1))
    ∧ (let s := yielding .a (lastSegment true)
       parksAfter s .a 0 ∧ endsPage s .a (onePage true) 0 [0x0A, 0x0B, 0x01, 0x04]
         ∧ sum16 ((s.slot .a).staging ++ [0x0A, 0x0B, 0x01, 0x04]) ≠ (onePage true).sum
         ∧ completesPage s .a (onePage true) 0 oneRecord ∧ (s.slot .a).page < 31)
    ∧ (let s := yielding .a (lastSegment false)
       let u : State := { s with sweep := { s.sweep with options := { eraseAfter := true } } }
       parksAfter u .a 0 ∧ completesPage u .a (onePage false) 0 oneRecord ∧ eraseDueAfter u .a romProfiles[0] 0) := by
  refine ⟨⟨parks_of (by decide), heard_always (by decide), by decide, by decide, by decide, ?_, ?_, ?_, by decide,
      by unfold noneWaits; decide⟩, ⟨parks_of (by decide), by decide, by unfold eraseDueAfter; decide⟩,
    ⟨parks_of (by decide), ?_, by decide, ?_⟩,
    ⟨parks_of (by decide), by unfold endsPage; decide, by decide, by unfold completesPage endsPage; decide, by decide⟩,
    parks_of (by decide), by unfold completesPage endsPage; decide, by unfold eraseDueAfter; decide⟩
  · unfold headMalformed
    decide
  · unfold headMalformed
    decide
  · unfold headMalformed
    decide
  · unfold segmentMisfits
    decide
  · unfold segmentMisfits
    decide

theorem test_met_AbandonedFramesParkTheirSlot :
    [(sendingStep { identifying with response := none } .askId, SlotState.identifying),
      (sendingStep { asked with response := none } (.askPage 0), .reading)].all (fun p =>
        let s := p.1.withShareOf .s { state := .yieldPending, hold := some 100 }
        quiet s && s.shareState .s == .yieldPending && s.yieldTrigger .s && (s.slot .s).module == some 2
          && s.sweep.state != .halting && s.line.echoMismatches < 2 && (s.slot .s).state == p.2
          && (s.slot .s).idAttempt < 1 + (s.entry 2).retries && (s.slot .s).attempt == 1) = true
    ∧ awaitedRequest (sendingStep { asked with response := none } (.askPage 0)) :=
  ⟨by decide, awaited_step (.inr (.inl ⟨rfl, rfl, rfl⟩))⟩

theorem test_met_DialogsEndOnAYieldingChannel :
    let s := yielding .b awaitsErase
    Settled s ∧ s.shareState .b = .yieldPending ∧ s.yieldTrigger .b = true ∧ (s.slot .b).module = some 1
      ∧ endsDialog s .b 1 (endOf s .b .erased) (.eraseDone .b) ∧ otherWork s .b :=
  ⟨settled_of_quiet (by decide), by decide, by decide, by decide, ⟨rfl, heard_always (by decide), by decide, rfl⟩, .a,
    .inl (by decide)⟩

theorem test_met_YieldWithoutTriggerPassesThrough :
    let s := yielding .b { state := .waking, boot := some 20 } none
    Settled s ∧ s.shareState .b = .yieldPending ∧ s.yieldTrigger .b = false ∧ (s.slot .b).module = some 1
      ∧ s.sweep.state ≠ .halting ∧ (s.slot .b).boot ≠ none ∧ (s.slot .b).state = .waking ∧ s.link.noticesHeld < 11
      ∧ nothingWaits s .b :=
  ⟨settled_of_quiet (by decide), by unfold nothingWaits; decide⟩

theorem test_met_ResumedDialogsGoOn :
    -- PAGE, with its tag and with another; REFER, where the lookup finds a profile, a decline and nothing
    [ResumePoint.page, .refer].all (fun r =>
      let s := knowing .a (again r) (.resolved (.rom 0) 0x1001)
      quiet s && (s.slot .a).resume == r && (s.slot .a).tag == some 0x1001 && (s.slot .a).tag != some 0x2000
        && s.store.lookup 0x1001 == some (.profile (.rom 0)) && s.shareState .a == .opened
        && s.sweep.state != .halting) = true
    ∧ (let s := knowing .a { again .refer with tag := some 0x2001 } .unresolved
       Settled s ∧ awaitsResumedReply s .a ∧ heard s .a (s.entry 0) ∧ otherWork s .a
         ∧ s.store.lookup 0x2001 = some .decline)
    ∧ (let s := knowing .a { again .refer with tag := some 0x7000 } .unresolved
       s.store.lookup 0x7000 = none ∧ s.store.lookup 0x7001 = none ∧ (s.slot .a).tag ≠ some 0x7001
         ∧ (∀ q, (s.entry 0).resolution ≠ .resolved q 0x7001) ∧ (s.entry 0).resolution ≠ .declined 0x7001)
    -- ERASE, due and not
    ∧ (let s := during .s (again .erase)
       let t : State := { s with sweep := { s.sweep with options := { eraseAfter := true } } }
       Settled t ∧ awaitsResumedReply t .s ∧ heard t .s (t.entry 2) ∧ (t.slot .s).resume = .erase
         ∧ t.slotProfile .s = some romProfiles[0] ∧ romProfiles[0].eraseAllowed = true ∧ (1 : Byte).getLsbD 0 = true
         ∧ (t.slot .s).refused = 0 ∧ t.sweep.haltTaken = false ∧ s.sweep.options.eraseAfter = false ∧ otherWork t .s)
    -- an identity that fails
    ∧ (let s := during .b { again .page with idAttempt := 2 }
       Settled s ∧ awaitsResumedReply s .b ∧ (s.slot .b).response ≠ none ∧ heard s .b (s.entry 1) ∧ otherWork s .b
         ∧ 1 + (s.entry 1).retries ≤ (s.slot .b).idAttempt) :=
  ⟨by decide, ⟨settled_of_quiet (by decide), ⟨.inl (by decide), by decide⟩, heard_always (by decide), ⟨.b, .inl (by decide)⟩,
      by decide⟩, ⟨by decide, by decide, by decide, fun q => unresolved_ne q, by decide⟩,
    ⟨settled_of_quiet (by decide), ⟨.inl (by decide), by decide⟩, heard_always (by decide), by decide, by decide, by decide,
      by decide, by decide, by decide, by decide, .a, .inl (by decide)⟩,
    settled_of_quiet (by decide), ⟨.inl (by decide), by decide⟩, by decide, heard_always (by decide),
    ⟨.a, .inl (by decide)⟩, by decide⟩

/-- A resumed REFER whose reply names another tag: one the entry holds as resolved, one a binding serves, one declined. -/
theorem test_met_ResumedDialogsGoOn_with_another_tag :
    let s := knowing .a (again .refer) (.resolved (.rom 0) 0x3000)
    Settled s ∧ awaitsResumedReply s .a ∧ heard s .a (s.entry 0) ∧ otherWork s .a ∧ s.shareState .a = .opened
      ∧ s.sweep.state ≠ .halting ∧ (s.slot .a).resume = .refer
      ∧ ((s.slot .a).tag ≠ some 0x3000 ∧ tagServed s 0 0x3000 (.rom 0))
      ∧ ((s.slot .a).tag ≠ some 0x2000 ∧ tagServed s 0 0x2000 (.loaded 3))
      ∧ ((s.slot .a).tag ≠ some 0x2001 ∧ tagDeclined s 0 0x2001) := by
  have other : ∀ r : ProfileRef, ∀ tag : Word16, tag ≠ 0x3000 →
      (Resolution.resolved (.rom 0) 0x3000 : Resolution) ≠ .resolved r tag := by
    intro r tag h e
    cases e
    exact h rfl
  exact ⟨settled_of_quiet (by decide), ⟨.inl (by decide), by decide⟩, heard_always (by decide), ⟨.b, .inl (by decide)⟩,
    by decide, by decide, by decide, ⟨by decide, .inl (by decide)⟩,
    ⟨by decide, .inr ⟨fun r => other r _ (by decide), by decide, by decide⟩⟩,
    by decide, .inr ⟨fun r => other r _ (by decide), by decide⟩⟩

/-- A part with AUTO_ATTENTION on and settled, in which a pulse for the module on line S ends. -/
def pulsing (s : State) : State :=
  let s := s.withSetting .autoAttention 1
  { s with
    key := { s.key with settled := true },
    line := { s.line with level := .low, detector := .capture, release := none, stuckTimer := some 150 } }

theorem pulse_20 {s : State} (h : s.line.detector = .capture ∧ s.line.level = .low ∧ s.setting .attentionPolarity = 0)
    (ht : s.table = fitted.table) : pulseOf s 20 2 := by
  refine ⟨h.1, by rw [h.2.2]; exact h.2.1, 0, by decide, by decide, by decide, ?_, ?_, ?_, ?_⟩ <;>
    (unfold State.entry; rw [ht]; decide)

/-- The module on channel A flagged. -/
def flagged (s : State) : State := s.withEntry 0 { s.entry 0 with attention := true }

theorem test_met_AttentionCheckStartsASweep :
    (let s := pulsing fitted
     Settled s ∧ attentionOn s ∧ s.sweep.state = .idle ∧ pulseOf s 20 2
       ∧ pulsed (s.withEntry 2 { s.entry 2 with attention := true }) 2
       ∧ ¬ skippedByDefault (s.withEntry 2 { s.entry 2 with attention := true }) 2 ∧ s.link.noticesHeld < 12)
    ∧ (let s := flagged (pulsing (lastOne awaitsErase false))
       let t := s.withSlot .a {}
       let u := t.withSlot .s { awaitsErase with module := some 2 }
       Settled u ∧ attentionOn u ∧ u.sweep.state = .running ∧ u.sweep.haltTaken = false
         ∧ (u.slot .s).module = some 2 ∧ endsDialog u .s 2 (endOf u .s .erased) (.eraseDone .s)
         ∧ (u.entry 2).attention = false ∧ pulsed u 0 ∧ ¬ skippedByDefault u 0)
    ∧ (let s := flagged (pulsing fitted)
       let t : State := { s with key := { s.key with settle := some 1, settled := false } }
       Settled t ∧ t.key.settle = some 1 ∧ t.setting .autoAttention = 1 ∧ t.setting .autoKeyOn = 0
         ∧ t.straps.ksw = false ∧ t.sweep.state = .idle ∧ pulsed t 0 ∧ ¬ skippedByDefault t 0)
    ∧ (let s := (flagged (pulsing fitted)).withSetting .autoAttention 0
       Ready s ∧ Settled s ∧ s.key.on = true ∧ s.key.settled = true ∧ s.setting .autoAttention = 0
         ∧ s.sweep.state = .idle ∧ s.setting .requestBaseA ≠ s.setting .responseBaseA ∧ pulsed s 0
         ∧ ¬ skippedByDefault s 0) := by
  refine ⟨⟨settled_of_quiet (by decide), by unfold attentionOn; decide, by decide, pulse_20 (by decide) rfl, ?_⟩,
    ⟨settled_of_quiet (by decide), by unfold attentionOn; decide, by decide, by decide, by decide,
      ⟨rfl, trivial, by decide, rfl⟩, by decide, ?_⟩, ⟨settled_of_quiet (by decide), ?_⟩,
    ⟨by decide, settled_of_quiet (by decide), ?_⟩⟩ <;> (unfold pulsed skippedByDefault; decide)

theorem test_met_PulsesAppendReachedModules :
    (let s := pulsing (during .a asked)
     let t := s.withSweep { s.sweep with reached := s.sweep.reached.set 2 true, lists := ⟨[], [1], []⟩ }
     Settled t ∧ t.sweep.state ≠ .idle ∧ pulseOf t 20 2 ∧ appendsNow t 2 ∧ pulseOf s 20 2 ∧ ¬ appendsNow s 2)
    ∧ (let s := flagged (during .a awaitsErase)
       Settled s ∧ endsDialog s .a 0 (endOf s .a .erased) (.eraseDone .a) ∧ otherWork s .a ∧ (s.entry 0).attention = true
         ∧ (∀ d, d ≠ Channel.a → (s.slot d).module ≠ some 0)
         ∧ appendsNow ((s.withSlot .a {}).withSweep { s.sweep with reached := s.sweep.reached.set 0 true }) 0) := by
  refine ⟨⟨settled_of_quiet (by decide), by decide, pulse_20 (by decide) rfl, ?_, pulse_20 (by decide) rfl, ?_⟩,
    settled_of_quiet (by decide), ⟨rfl, heard_always (by decide), by decide, rfl⟩, ⟨.b, .inl (by decide)⟩, by decide, ?_, ?_⟩
  · unfold appendsNow
    decide
  · unfold appendsNow
    decide
  · intro d hd
    cases d
    · exact absurd rfl hd
    · decide
    · decide
  · unfold appendsNow
    decide

theorem test_met_BootAndKeepAwakeExpiries :
    (let s := during .b { state := .waking, boot := some 20 }
     Settled s ∧ (s.slot .b).module = some 1 ∧ (s.slot .b).state = .waking ∧ (s.slot .b).boot ≠ none
       ∧ s.shareState .b = .opened ∧ s.sweep.state ≠ .halting ∧ s.holdingEmpty .b = true ∧ s.waitingFrames .b = [])
    ∧ ((referring.slot .a).module = some 0 ∧ (referring.slot .a).keepAwake = some ⟨2000, 2000⟩
        ∧ referring.shareState .a = .opened ∧ referring.holdingEmpty .a = true ∧ referring.waitingFrames .a = [])
    ∧ (let s := silencedBy referring .a {}
       (s.slot .a).keepAwake = some ⟨2000, 2000⟩ ∧ s.shareState .a ≠ .opened) :=
  ⟨⟨settled_of_quiet (by decide), by decide⟩, by decide, by decide⟩

theorem test_met_WhatCannotHappenChangesNothing :
    Settled State.reset ∧ (State.reset.slot .a).state = .free ∧ (State.reset.slot .s).response = none
      ∧ (Settled (during .s { state := .waking }) ∧ ((during .s { state := .waking }).slot .s).state = .waking)
      ∧ (let s := during .a drawing
         Settled s ∧ ¬ ((s.slot .a).state = .reading ∧ (s.slot .a).sub = .asked))
      ∧ (let s := during .a { asked with holdOns := 8 }
         Settled s ∧ 8 ≤ (s.slot .a).holdOns)
      ∧ State.reset.line.transmitter ≠ .turnaround ∧ State.reset.line.stuckTimer = none
      ∧ State.reset.line.stuckClear = none ∧ (State.reset.canCtl .b).gap = none
      ∧ (Settled asleep ∧ asleep.key.settle = none) :=
  ⟨settled_of_quiet (by decide), by decide, by decide, ⟨settled_of_quiet (by decide), by decide⟩,
    ⟨settled_of_quiet (by decide), by decide⟩, ⟨settled_of_quiet (by decide), by decide⟩, by decide, by decide, by decide,
    by decide, settled_of_quiet (by decide), by decide⟩

/-- The module of a slot is not heard: its controller OFF, the boundary OFF_IDLE, or its answers held back for a tester. -/
theorem test_met_IgnoredServicesChangeNothing_not_heard :
    [ErrorState.off, .offIdle].all (fun e =>
      let s := (during .a asked).withCan .a { (during .a asked).can.a with errorState := e }
      quiet s && (s.slot .a).module == some 0) = true
    ∧ (∀ e ∈ [ErrorState.off, .offIdle],
        let s := (during .a asked).withCan .a { (during .a asked).can.a with errorState := e }
        ¬ heard s .a (s.entry 0))
    ∧ (let s := (during .b asked).withCan .b { (during .b asked).can.b with testerHold := some 31 }
       Settled s ∧ (s.slot .b).module = some 1 ∧ ¬ heard s .b (s.entry 1) ∧ s.can.b.errorState = .active) := by
  refine ⟨by decide, ?_, settled_of_quiet (by decide), by decide, fun h => h.2 31 rfl (by decide), by decide⟩
  intro e he
  simp only [List.mem_cons, List.not_mem_nil, or_false] at he
  rcases he with rfl | rfl <;> exact fun h => h.1.elim (by decide) (by decide)

/-! #### The CAN channels -/

/-- A frame of slot A. -/
def askA : TxFrame := { request := .askId, dest := .can 0x6A5 }

/-- A dialog on A whose controller holds this. -/
def holdingA (x : Slot) (h : Holding) : State :=
  (during .a x).withCan .a { (during .a x).can.a with holding := h }

theorem test_met_CanAttemptsAndErrors :
    (let s := holdingA identifying (.waiting askA)
     (s.canCtl .a).holding = .waiting askA ∧ (s.canCtl .a).gap = none ∧ s.shareState .a = .opened ∧ onBus (s.canCtl .a)
       ∧ (s.canCtl .a).orphan = false)
    ∧ (let s := (holdingA identifying (.waiting askA)).withCan .a { holding := .waiting askA, gap := some 1 }
       (s.canCtl .a).holding = .waiting askA ∧ (s.canCtl .a).gap ≠ none)
    ∧ (let s := holdingA identifying (.inProgress askA false)
       (s.canCtl .a).holding = .inProgress askA false ∧ s.shareState .a = .opened)
    ∧ (let s := (holdingA identifying (.inProgress askA true)).withCan .a
          { holding := .inProgress askA true, transmitErrors := 247 }
       (s.canCtl .a).holding = .inProgress askA true ∧ (s.canCtl .a).transmitErrors + 8 ≤ 255)
    ∧ ((busOffA none).canCtl .a).errorState ≠ .off
    ∧ (let s := fitted.withCan .b { errorState := .off, idleSequences := 127 }
       (s.canCtl .b).errorState = .off ∧ ¬ onBus (s.canCtl .b)) := by
  unfold onBus
  decide

theorem test_met_CanFrameSentStartsTheGap :
    (let s := holdingA { identifying with response := none } (.inProgress askA true)
     Settled s ∧ onBus (s.canCtl .a) ∧ (s.canCtl .a).holding = .inProgress askA true ∧ (s.canCtl .a).orphan = false
       ∧ (s.slot .a).module = some 0 ∧ s.waitingFrames .a = [] ∧ askA.own = true ∧ (s.slot .a).state = .identifying)
    ∧ (let s := (during .b { state := .waking }).withCan .b { holding := .inProgress askA true }
       Settled s ∧ (s.slot .b).state = .waking ∧ bootMs (s.entry 1) ≠ 0)
    ∧ (let s := fitted.withCan .a { fitted.can.a with orphan := true }
       Settled s ∧ onBus (s.canCtl .a) ∧ (s.canCtl .a).orphan = true) := by
  refine ⟨⟨settled_of_quiet (by decide), ?_⟩, ⟨settled_of_quiet (by decide), by decide⟩,
    settled_of_quiet (by decide), ?_⟩ <;> (unfold onBus; decide)

theorem test_met_BusOffSilencesTheChannel :
    (let s := (holdingA identifying (.inProgress askA true)).withCan .a
        { holding := .inProgress askA true, transmitErrors := 248 }
     Settled s ∧ s.setting .autoAttention = 0 ∧ onBus (s.canCtl .a) ∧ 255 < (s.canCtl .a).transmitErrors + 8
       ∧ (s.canCtl .a).holding = .inProgress askA true ∧ s.shareState .a = .opened)
    ∧ (Settled asleep ∧ onBus (asleep.canCtl .b) ∧ asleep.shareState .b = .standby)
    ∧ (let s := silencedBy fitted .a { tester := true }
       Settled s ∧ onBus (s.canCtl .a) ∧ s.setting .autoAttention = 0 ∧ s.shareState .a = .silenced
         ∧ (s.shareOf .a).causes.busOff = false) := by
  refine ⟨⟨settled_of_quiet (by decide), ?_⟩, ⟨settled_of_quiet (by decide), ?_⟩, settled_of_quiet (by decide), ?_⟩ <;>
    (unfold onBus; decide)

theorem test_met_PaceAndVerdictChangeBetweenFrames :
    ((fitted.withCan .a { gap := some 3, pacePending := some 7 }).canCtl .a).gap = some 3
      ∧ (fitted.canCtl .b).window = some 100
      ∧ (Ready fitted ∧ Settled fitted ∧ (250 : Word16).toNat ≤ 250 ∧ (1 : Word16).toNat ≠ fitted.setting .paceGapA
          ∧ (250 : Word16).toNat ≠ fitted.setting .paceGapB
          ∧ fitted.setting .requestBaseA ≠ fitted.setting .responseBaseA
          ∧ fitted.setting .requestBaseB ≠ fitted.setting .responseBaseB) :=
  ⟨by decide, by decide, by decide, settled_of_quiet (by decide), by decide⟩

theorem test_met_CanFramesAreClassified :
    (let f : CanFrame := { ident := 0x6BF, data := [] }
     f.wellFormed = true ∧ (fitted.canCtl .a).requestBase ≤ f.ident ∧ f.ident ≤ (fitted.canCtl .a).requestBase + 31)
    ∧ (let f : CanFrame := { ident := 0x6C5, data := [0x25] }
       let s := during .a awaitsErase
       f.wellFormed = true ∧ (s.slot .a).module = some 0 ∧ f.ident = (s.canCtl .a).responseBase + (s.entry 0).address
         ∧ onBus (s.canCtl .a) ∧ ¬ ((s.canCtl .a).requestBase ≤ f.ident ∧ f.ident ≤ (s.canCtl .a).requestBase + 31))
    ∧ (let f : CanFrame := { extended := true, ident := 2 ^ 29 - 1, data := List.replicate 8 0 }
       f.wellFormed = true ∧ ¬ (f.extended = false ∧ f.remote = false))
    ∧ ¬ onBus ((fitted.withCan .b { errorState := .offIdle }).canCtl .b)
    ∧ ((during .a asked).slot .a).module ≠ none
    ∧ (spellsNothing .a [] ∧ spellsNothing .a [0x20] ∧ spellsNothing .a [0x25, 0] ∧ spellsNothing .a [0x30]
        ∧ spellsNothing .s (0x37 :: List.replicate 17 0) ∧ ¬ spellsNothing .b [0x23, 1])
    ∧ (let f : CanFrame := { ident := 0x6C5, data := [0x25] }
       (fitted.slot .a).state = .free ∧ onBus (fitted.canCtl .a)
         ∧ ¬ ((fitted.canCtl .a).requestBase ≤ f.ident ∧ f.ident ≤ (fitted.canCtl .a).requestBase + 31)) := by
  refine ⟨?_, ?_, ?_, ?_, ?_, ?_, ?_⟩ <;> (first | decide | (unfold onBus; decide) | simp [spellsNothing])

/-- The wake ASK_ID of a module whose boot wait is 0 in progress on A. -/
theorem test_met_CanFrameSentStartsTheGap_at_boot_wait_0 :
    let s := holdingA { state := .waking } (.inProgress askA true)
    Settled s ∧ onBus (s.canCtl .a) ∧ (s.canCtl .a).holding = .inProgress askA true ∧ (s.canCtl .a).orphan = false
      ∧ (s.slot .a).module = some 0 ∧ s.waitingFrames .a = [] ∧ askA.own = true ∧ (s.slot .a).state = .waking
      ∧ bootMs (s.entry 0) = 0 := by
  refine ⟨settled_of_quiet (by decide), ?_⟩
  unfold onBus
  decide

/-! #### The single-wire line -/

/-- A frame of slot S. -/
def askS : TxFrame := { request := .askPage 0, dest := .line 15 .r9600 }

/-- A BYE of a dialog that has ended. -/
def byeS : TxFrame := { request := .bye, dest := .line 15 .r9600, own := false }

theorem test_met_LineSendsOneFrameAtATime :
    (let s := (during .s asked).withLine { holding := some askS, receiver := .hunt, idleTime := 320 }
     s.line.holding = some askS ∧ askS.dest = .line 15 .r9600 ∧ askS.request ≠ .wake ∧ s.line.transmitter = .idle
       ∧ s.shareState .s = .opened ∧ s.line.level = .high ∧ 10 * (16 * LineRate.r9600.samplePeriod) ≤ s.line.idleTime)
    ∧ (fitted.withLine { transmitter := .turnaround, turnaround := some 10 }).line.transmitter = .turnaround
    ∧ (let f : TxFrame := { request := .wake, dest := .line 15 .r9600 }
       let s := (during .s { state := .waking }).withLine
         { transmitter := .drivingWake, driving := some f, wakeLeft := some 25 }
       let t := s.withEntry 2 { moduleS with sleepy := true, bootWait := 1 }
       Settled t ∧ t.line.driving = some f ∧ f.own = true ∧ f.request = .wake ∧ (t.slot .s).state = .waking
         ∧ (t.slot .s).module = some 2 ∧ bootMs (t.entry 2) ≠ 0 ∧ t.toHand.s = []
         ∧ (s.slot .s).state = .waking ∧ (s.slot .s).module = some 2 ∧ bootMs (s.entry 2) = 0 ∧ s.toHand.s = []) :=
  ⟨by decide, by decide, settled_of_quiet (by decide), by decide⟩

/-- Line S sending a frame, after some echo mismatches, with a dialog under way there. -/
def sendingS (f : TxFrame) (mismatches : Nat) : State :=
  (during .s { asked with response := none }).withLine
    { transmitter := .sending, driving := some f, driveRate := some .r9600, echoMismatches := mismatches,
      detector := .suppressed, release := none }

theorem test_met_LineFramesAreReadBack :
    (let s := sendingS askS 2
     Settled s ∧ s.line.transmitter = .sending ∧ s.line.driving = some askS ∧ s.toHand.s = [] ∧ s.line.holding = none
       ∧ s.shareState .s = .opened ∧ (s.slot .s).module = some 2 ∧ (s.slot .s).state ≠ .waking)
    ∧ (let s := sendingS byeS 1
       Settled s ∧ byeS.own = false ∧ s.line.echoMismatches < 2)
    ∧ (let s := sendingS byeS 2
       2 ≤ s.line.echoMismatches ∧ s.setting .echoSilence = 1 ∧ s.setting .autoAttention = 0)
    ∧ (let s := (sendingS askS 2).withSetting .echoSilence 0
       ¬ s.line.echoMismatches < 2 ∧ s.setting .echoSilence = 0 ∧ s.shareState .s = .opened ∧ s.toHand.s = [])
    ∧ (let s := sendingS askS 1
       Settled s ∧ askS.own = true ∧ askS.request = .askPage (s.slot .s).page ∧ (s.slot .s).state = .reading
         ∧ (s.slot .s).sub = .asked ∧ (s.slot .s).attempt = 1 ∧ s.sweep.state ≠ .halting
         ∧ s.line.echoMismatches < 2) :=
  ⟨⟨settled_of_quiet (by decide), by decide⟩, ⟨settled_of_quiet (by decide), by decide⟩, by decide, by decide,
    settled_of_quiet (by decide), by decide⟩

theorem test_met_LineFramesAreReadBack_steps :
    [(drawing, TxRequest.draw 4, SlotState.reading), ({ drawing with attempt := 2 }, .draw 4, .reading),
        ({ asked with attempt := 2 }, .askPage 0, .reading), (identifying, .askId, .identifying),
        ({ identifying with idAttempt := 2 }, .askId, .identifying), (awaitsErase, .erase, .erasing)].all (fun p =>
      let s := sendingStep { p.1 with response := none } p.2.1
      quiet s && s.line.transmitter == .sending && s.line.driving == some { askS with request := p.2.1 } && s.toHand.s == []
        && s.line.holding == none && s.shareState .s == .opened && (s.slot .s).module == some 2
        && (s.slot .s).state == p.2.2 && s.sweep.state != .halting && s.line.echoMismatches < 2) = true
    ∧ otherWork (sendingStep awaitsErase .erase) .s := ⟨by decide, .a, .inl (by decide)⟩

/-- A STAY of the dialog in slot S. -/
def stayS : TxFrame := { request := .stay, dest := .line 15 .r9600 }

/-- A STAY and a BYE mismatched for the third time, on an OPEN line S and on one whose yield waits for a DRAW; and a STAY of a
slot that has parked on a YIELDED line. -/
theorem test_met_ThirdMismatchOnAStayOrByeSilences :
    [stayS, byeS].all (fun f => [({} : ShareChannel), { state := .yieldPending, hold := some 100 }].all (fun share =>
      let s := (sendingS f 2).withShareOf .s share
      quiet s && s.line.transmitter == .sending && s.line.driving == some f && (f.own == false || f.request == .stay)
        && s.line.echoMismatches == 2 && s.setting .echoSilence == 1 && s.setting .autoAttention == 0
        && s.shareState .s == share.state)) = true
    ∧ (let s := (during .s { state := .parked, resume := .refer }).withShareOf .s { state := .yielded, hold := some 100 }
       let s := s.withLine (sendingS stayS 2).line
       let t : State := { s with share := { s.share with pneed := true } }
       Settled t ∧ t.line.transmitter = .sending ∧ t.line.driving = some stayS ∧ t.shareState .s = .yielded) :=
  ⟨by decide, settled_of_quiet (by decide), by decide⟩

/-- The request that its slot awaits, mismatched for the third time: on an OPEN line S, and on one whose yield waits for it. -/
def thirdMismatch (x : Slot) (q : TxRequest) (share : ShareChannel := {}) : State :=
  let s := sendingStep { x with response := none } q
  (s.withLine { s.line with echoMismatches := 2 }).withShareOf .s share

theorem test_met_ThirdMismatchOnARequestSilences :
    [({} : ShareChannel), { state := .yieldPending, hold := some 100 }, { state := .yieldPending }].all (fun share =>
      let s := thirdMismatch identifying .askId share
      quiet s && s.toHand.s == [] && s.line.holding == none && (s.slot .s).module == some 2
        && s.setting .echoSilence == 1 && s.setting .autoAttention == 0 && s.sweep.state != .halting
        && (s.slot .s).idAttempt < 1 + (s.entry 2).retries && s.workList .s == [] && s.link.noticesHeld + 2 < 11) = true
    ∧ (let s := thirdMismatch asked (.askPage 0)
       awaitedRequest s ∧ (s.slot .s).state = .reading ∧ (s.slot .s).attempt = 1 ∧ otherWork s .s)
    ∧ (let s := thirdMismatch awaitsErase .erase
       waitEnds s .s 2 (endOf s .s .eraseDenied) ∧ (s.entry 2).attention = false ∧ 2 ∉ s.workList .s) :=
  ⟨by decide, ⟨⟨rfl, _, rfl, rfl, .inr (.inl ⟨rfl, rfl, rfl⟩)⟩, by decide, by decide, .a, .inl (by decide)⟩,
    .inr (.inr (.inr ⟨by decide, rfl⟩)), by decide⟩

/-- The third mismatch parks the slot of a yielding line S, and YIELDED is announced, before the line is SILENCED (R156; log
entry 30). -/
theorem test_yielded_before_silenced :
    (match exec .lineFrameAbandoned (thirdMismatch identifying .askId { state := .yieldPending, hold := some 100 }) with
      | .next t => t.link.outbound
      | _ => []) =
      [.notice (.channelEvent .s .yielded none), .notice (.moduleEnd 2 .aborted 0 0),
        .notice (.channelEvent .s .silenced (some .echoFault))] := by decide

/-- One change of the TPRES debounce yields A at a boundary, B FREE and S in that order (log entry 51). -/
theorem test_yielded_in_the_order_of_channels :
    (match exec (.tpresChange true) ((during .a { asked with response := none }).withSetting .socketChannels 7) with
      | .next t => t.link.outbound
      | _ => []) =
      [.notice (.channelEvent .a .yielded none), .notice (.channelEvent .b .yielded none),
        .notice (.channelEvent .s .yielded none)] := by decide

/-- A frame at 9600 bit/s waits for ten idle bit times, 320 sample periods of 19 200 bit/s (R142). -/
theorem test_start_waits_for_ten_idle_bit_times :
    [319, 320].map (fun idle =>
      match exec .lineTransmitStart ((during .s asked).withLine { holding := some askS, receiver := .hunt, idleTime := idle }) with
      | .next t => t.line.transmitter
      | _ => .turnaround) = [.idle, .sending] := by decide

/-- A part that drives the line leaves no idle time behind it, and a millisecond on an idle line counts 307 (R142; log entry
55). -/
theorem test_idle_time_of_a_millisecond :
    [Transmitter.idle, .sending].map (fun x =>
      match step ((during .s asked).withLine { transmitter := x, driving := some askS, idleTime := 10 }) with
      | .next t => t.line.idleTime
      | _ => 1) = [317, 0] := by decide +kernel

/-- The receiver hunts on while a frame is sent (R152; log entry 24). -/
theorem test_receiver_hunts_while_sending :
    (match exec .lineTransmitStart ((during .s asked).withLine { holding := some askS, receiver := .hunt, idleTime := 320 }) with
      | .next t => (t.line.transmitter, t.line.receiver)
      | _ => (.idle, .off)) = (.sending, .hunt) := by decide

/-- A locked frame of ERASE_DONE from address 15: sum 15 + 1 + 0x25 + 0xCB = 256. -/
theorem test_met_LineReceiverLocksAndDelivers :
    (let l : Line := { receiver := .sync }
     l.receiver = .sync ∧ (List.replicate 9 16).length = 9 ∧ (∀ n ∈ List.replicate 9 16, 12 ≤ n ∧ n ≤ 20)
       ∧ 136 ≤ (List.replicate 9 16).sum ∧ (List.replicate 9 16).sum ≤ 152)
    ∧ (let s := (during .s awaitsErase).withLine { receiver := .locked }
       s.line.receiver = .locked ∧ (s.slot .s).module = some 2
         ∧ (15 : Byte) + byte [(0x25 : Byte)].length + sum8 [0x25] + 0xCB = 0 ∧ (15 : Byte).toNat = (s.entry 2).address
         ∧ (14 : Byte).toNat ≠ (s.entry 2).address)
    ∧ (let l : Line := { receiver := .hunt, filterRun := 3, mustRest := true, idleTime := 14 }
       let s := fitted.withLine l
       l.level = .high ∧ l.receiver = .hunt ∧ l.detector = .release ∧ l.filterRun + 1 = 4
         ∧ ¬ 16 * s.samplePeriod ≤ idleAfter s 1)
    ∧ (let l : Line := { receiver := .hunt, detector := .ready, mustRest := true, idleTime := 12 }
       let s := fitted.withLine l
       l.level = .high ∧ l.filterRun + 4 = 4 ∧ 16 * s.samplePeriod ≤ idleAfter s 4)
    ∧ ((fitted.withLine { receiver := .locked }).slot .s).state = .free
    ∧ (19 = (19 : Byte).toNat ∧ 18 < (19 : Byte).toNat ∧ (0 : Byte).toNat = 0)
    ∧ State.reset.line.receiver ≠ .locked ∧ State.reset.line.receiver ≠ .sync := by decide

theorem test_met_LineReceiverLocksAndDelivers_body : spellsNothing .s [0x25, 0] ∧ 1 ≤ [(0x25 : Byte), 0].length := by
  simp [spellsNothing]

theorem test_met_AttentionPulsesAreMapped :
    (let s := fitted.withLine { detector := .ready, release := none }
     Settled s ∧ s.setting .attentionPolarity = 0 ∧ s.line.level = .high ∧ s.line.detector = .ready
       ∧ s.line.receiver ≠ .hunt)
    ∧ (let s := fitted.withLine { level := .low, detector := .capture, release := none, stuckTimer := some 150 }
       Settled s ∧ s.line.level = .low ∧ s.line.detector = .capture ∧ (s.entry 2).inUse = true
         ∧ (s.entry 2).channel = .s ∧ (s.entry 2).attentionSlot = some 0
         ∧ (∀ j, (s.entry j).inUse = true → (s.entry j).channel = .s → (s.entry j).attentionSlot = some 0 → j = 2)
         ∧ s.sweep.state = .idle ∧ s.setting .autoAttention = 0)
    ∧ (running.sweep.state = .running ∧ running.listed 2 = true)
    ∧ (∀ n, n < 16 → ¬ (20 + 16 * n ≤ 19 ∧ 19 ≤ 28 + 16 * n)) ∧ (∀ n, n < 16 → ¬ (20 + 16 * n ≤ 35 ∧ 35 ≤ 28 + 16 * n))
    ∧ (20 + 16 * 0 ≤ 20 ∧ 28 ≤ 28 + 16 * 0 ∧ 268 ≤ 28 + 16 * 15)
    ∧ (State.reset.line.detector = .release ∧ State.reset.line.release = some 10 ∧ State.reset.line.level = .high)
    -- polarity HIGH: a mark on a LOW line, a capture on an idle one; and a slot that no entry has
    ∧ (let s := (fitted.withSetting .attentionPolarity 1).withLine { level := .low, detector := .mark, filterRun := 3, release := none }
       Settled s ∧ s.setting .attentionPolarity = 1 ∧ s.line.level = .low ∧ s.line.detector = .mark
         ∧ s.line.filterRun + 1 = 4)
    ∧ (let s := (fitted.withSetting .attentionPolarity 1).withLine { detector := .capture, release := none }
       Settled s ∧ s.line.level ≠ .low ∧ s.line.detector = .capture
         ∧ ∀ j, (s.entry j).inUse = true → (s.entry j).channel = .s → (s.entry j).attentionSlot ≠ some 1) :=
  ⟨⟨settled_of_quiet (by decide), by decide⟩, ⟨settled_of_quiet (by decide), by decide⟩, by decide, by omega, by omega,
    by decide, by decide, ⟨settled_of_quiet (by decide), by decide⟩, settled_of_quiet (by decide), by decide⟩

theorem test_met_StuckLineSilencesChannelS :
    (let s := running.withLine { level := .low, stuckTimer := some 1 }
     Settled s ∧ s.setting .autoAttention = 0 ∧ s.line.stuckTimer = some 1 ∧ s.shareState .s = .opened)
    ∧ (let s := asleep.withLine { level := .low, stuckTimer := some 1 }
       Settled s ∧ s.shareState .s = .standby ∧ s.line.stuckTimer = some 1)
    ∧ (fitted.withLine { stuck := true, stuckClear := some 1 }).line.stuckClear = some 1
    ∧ (let s := (silencedBy fitted .s { echoFault := true }).withLine { level := .low, stuckTimer := some 1 }
       Settled s ∧ s.shareState .s = .silenced ∧ (s.shareOf .s).causes.lineStuck = false) :=
  ⟨⟨settled_of_quiet (by decide), by decide⟩, ⟨settled_of_quiet (by decide), by decide⟩, by decide,
    settled_of_quiet (by decide), by decide⟩

/-! #### Sharing and the key -/

/-- Channel A YIELDED with a parked dialog, its release hold about to expire. -/
def yieldedA : State :=
  let s := during .a { state := .parked }
  let s := s.withShareOf .a { state := .yielded, hold := some 1 }
  { s with share := { s.share with tgnt := true, pneed := true } }

theorem test_met_TesterRequestsYieldOrSilence :
    (Settled running ∧ onBus (running.canCtl .a) ∧ yieldsNow running .a ∧ (running.slot .a).state = .free
        ∧ running.isSocket .a = true)
      ∧ (let s := during .b asked
         Settled s ∧ onBus (s.canCtl .b) ∧ yieldsNow s .b ∧ (s.slot .b).module = some 1 ∧ (s.slot .b).state = .reading
           ∧ (s.slot .b).response ≠ none ∧ (s.entry 1).address = (31 : BitVec 5).toNat)
      ∧ (let s := running.withSetting .testerActionA 1
         Settled s ∧ s.shareState .a = .opened ∧ s.setting (testerActionSetting .a) = 1
           ∧ s.setting .autoAttention = 0)
      ∧ (Settled asleep ∧ onBus (asleep.canCtl .a) ∧ asleep.shareState .a = .standby
          ∧ (asleep.slot .a).state = .free)
      -- a channel SILENCED already, with the cause and without it, and one whose yield is pending or done
      ∧ (let s := (silencedBy running .b { busOff := true }).withSetting .testerActionB 1
         Settled s ∧ onBus (s.canCtl .b) ∧ s.shareState .b = .silenced ∧ (s.slot .b).state = .free
           ∧ s.setting (testerActionSetting .b) = 1 ∧ (s.shareOf .b).causes.tester = false)
      ∧ (let s := yielding .b asked
         Settled s ∧ onBus (s.canCtl .b) ∧ s.shareState .b = .yieldPending ∧ s.setting (testerActionSetting .b) = 0
           ∧ (s.slot .b).module = some 1 ∧ (s.slot .b).state ≠ .free ∧ (s.slot .b).state ≠ .parked)
      ∧ (Settled yieldedA ∧ onBus (yieldedA.canCtl .a) ∧ yieldedA.shareState .a = .yielded
          ∧ yieldedA.setting (testerActionSetting .a) = 0 ∧ (yieldedA.slot .a).state = .parked) := by
  refine ⟨⟨settled_of_quiet (by decide), ?_⟩, ⟨settled_of_quiet (by decide), ?_⟩, ⟨settled_of_quiet (by decide), ?_⟩,
    ⟨settled_of_quiet (by decide), ?_⟩, ⟨settled_of_quiet (by decide), ?_⟩, ⟨settled_of_quiet (by decide), ?_⟩,
    settled_of_quiet (by decide), ?_⟩ <;> (try unfold onBus yieldsNow) <;> (try unfold onBus) <;> decide

/-- A tester request finds a slot whose boot wait runs, one with its request unsent, one in REFERRED. -/
theorem test_met_TesterRequestsYieldOrSilence_slots :
    (let s := during .b { state := .waking, boot := some 20 }
     Settled s ∧ onBus (s.canCtl .b) ∧ yieldsNow s .b ∧ (s.slot .b).module = some 1 ∧ (s.slot .b).state = .waking
       ∧ inExchangeUnit s .b)
    ∧ (let s := during .a { asked with response := none }
       Settled s ∧ onBus (s.canCtl .a) ∧ yieldsNow s .a ∧ (s.slot .a).module = some 0 ∧ (s.slot .a).state = .reading
         ∧ ¬ inExchangeUnit s .a)
    ∧ (let s := during .b { state := .waking }
       Settled s ∧ onBus (s.canCtl .b) ∧ yieldsNow s .b ∧ (s.slot .b).module = some 1 ∧ (s.slot .b).state = .waking
         ∧ ¬ inExchangeUnit s .b)
    ∧ (Settled referring ∧ onBus (referring.canCtl .a) ∧ yieldsNow referring .a ∧ (referring.slot .a).module = some 0
        ∧ (referring.slot .a).state = .referred ∧ ¬ inExchangeUnit referring .a) := by
  refine ⟨⟨settled_of_quiet (by decide), ?_, by unfold yieldsNow; decide, by decide, by decide, .inr (.inl (by decide))⟩,
    ⟨settled_of_quiet (by decide), ?_, by unfold yieldsNow; decide, by decide, by decide,
      not_in_unit (by decide) (by decide) (by decide)⟩,
    ⟨settled_of_quiet (by decide), ?_, by unfold yieldsNow; decide, by decide, by decide,
      not_in_unit (by decide) (by decide) (by decide)⟩,
    settled_of_quiet (by decide), ?_, by unfold yieldsNow; decide, by decide, by decide,
      not_in_unit (by decide) (by decide) (by decide)⟩ <;>
    (unfold onBus; decide)

/-- A slot that waits on a referral parks at once on a yield, its referral timer running on (R46, R156). -/
theorem test_referred_slot_parks_at_once :
    (match exec (.foreignTesterRequest .a 5) referring with
      | .next t => ((t.slot .a).state, (t.slot .a).resume, (t.slot .a).referral, t.shareState .a, t.link.outbound)
      | _ => (.free, .identify, none, .opened, [])) =
      (.parked, .refer, some 10000, .yielded, [.notice (.channelEvent .a .yielded none)]) := by decide

theorem test_met_SocketChannelIsYieldedAndReturned :
    (Settled running ∧ running.share.tpresActive ≠ true ∧ running.setting .socketChannels = 1
        ∧ running.isSocket .a = true ∧ running.isSocket .b = false ∧ running.isSocket .s = false
        ∧ running.setting .testerActionA = 0 ∧ (running.slot .a).state = .free ∧ running.shareState .a = .opened
        ∧ running.shareState .b ≠ .yielded ∧ running.shareState .s ≠ .yielded)
      ∧ (let s := running.withSetting .socketChannels 7
         Settled s ∧ (∀ c ∈ [Channel.a, .b, .s], s.isSocket c = true ∧ s.setting (testerActionSetting c) = 0
           ∧ (s.slot c).state = .free ∧ s.shareState c = .opened) ∧ s.link.noticesHeld + 3 ≤ 12)
      ∧ (Settled yieldedA ∧ (yieldedA.shareOf .a).hold = some 1 ∧ yieldedA.shareState .a = .yielded
          ∧ yieldedA.share.tpresActive = false ∧ (yieldedA.slot .a).state = .parked
          ∧ (yieldedA.slot .a).module = some 0 ∧ yieldedA.holdingEmpty .a = true ∧ yieldedA.waitingFrames .a = []) :=
  ⟨⟨settled_of_quiet (by decide), by decide⟩, ⟨settled_of_quiet (by decide), by decide⟩, settled_of_quiet (by decide),
    by decide⟩

/-- All three channels in the socket: A at a boundary, B with a wait running, S FREE. -/
def socketMix : State :=
  let s := (during .a { asked with response := none }).withSetting .socketChannels 7
  s.withSlot .b { asked with module := some 1 }

theorem test_met_SocketChannelIsYieldedAndReturned_slots :
    (Settled socketMix ∧ socketMix.share.tpresActive ≠ true
        ∧ (∀ c ∈ [Channel.a, .b, .s], socketMix.isSocket c = true ∧ socketMix.setting (testerActionSetting c) = 0
          ∧ socketMix.shareState c = .opened)
        ∧ ((socketMix.slot .a).state = .reading ∧ (socketMix.slot .a).module = some 0 ∧ ¬ inExchangeUnit socketMix .a)
        ∧ ((socketMix.slot .b).state = .reading ∧ (socketMix.slot .b).module = some 1 ∧ inExchangeUnit socketMix .b)
        ∧ (socketMix.slot .s).state = .free)
      -- a socket channel that is SILENCED, and the holds that only stop
      ∧ (let s := silencedBy fitted .a { busOff := true }
         Settled s ∧ s.isSocket .a = true ∧ s.shareState .a ≠ .opened ∧ s.share.tpresActive ≠ true)
      ∧ (let s := yielding .b asked (some 1)
         Settled s ∧ (s.shareOf .b).hold = some 1 ∧ s.shareState .b ≠ .yielded)
      ∧ (let s : State := { yieldedA with share := { yieldedA.share with tpresActive := true } }
         Settled s ∧ (s.shareOf .a).hold = some 1 ∧ s.share.tpresActive = true ∧ s.isSocket .a = true) :=
  ⟨⟨settled_of_quiet (by decide), by decide, by decide,
      ⟨by decide, by decide, not_in_unit (by decide) (by decide) (by decide)⟩, ⟨by decide, by decide, .inl (by decide)⟩,
      by decide⟩,
    ⟨settled_of_quiet (by decide), by decide⟩, ⟨settled_of_quiet (by decide), by decide⟩, settled_of_quiet (by decide),
    by decide⟩

/-- The part with TPRES ACTIVE and channel A in the socket, its tester actions given. -/
def plugged (s : State) (action : Word16) : State :=
  let s := (s.withSetting .testerActionA action).withSetting .testerActionB action
  { s with share := { s.share with tpresActive := true } }

/-- The socket channel reached with action SILENCE: OPEN with a dialog, with a yield pending, SILENCED already without the
cause and with it, and in STANDBY. -/
theorem test_met_TpresReachesTheSocketChannels_silence :
    ([during .a asked, yielding .a asked, yieldedA, silencedBy fitted .a { busOff := true },
        silencedBy fitted .a { tester := true }, fitted, asleep].all (fun s =>
      let s := s.withSetting .testerActionA 1
      quiet s && s.isSocket .a && !s.isSocket .b && !s.isSocket .s && s.setting (testerActionSetting .a) == 1
        && !s.share.tpresActive && s.setting .autoAttention == 0 && s.shareState .b != .yielded
        && s.shareState .s != .yielded) = true)
    ∧ ((during .a asked).shareState .a = .opened ∧ (yielding .a asked).shareState .a = .yieldPending
        ∧ yieldedA.shareState .a = .yielded ∧ asleep.shareState .a = .standby)
    ∧ (fitted.shareState .a = .opened ∧ fitted.sweep.state = .idle)
    ∧ [({ busOff := true } : Causes), { tester := true }].all (fun x =>
        let s := silencedBy fitted .a x
        s.shareState .a == .silenced && (s.slot .a).state == .free) = true := by decide

/-- SOCKET_CHANNELS changed from A to B while TPRES is ACTIVE, with action YIELD and with action SILENCE, and while it is
INACTIVE. -/
theorem test_met_SocketChannelsAreAddedAndTakenOut :
    ([plugged fitted 0, plugged running 0, plugged fitted 1, plugged (silencedBy fitted .a { busOff := true }) 1, running].all
      (fun s => quiet s && (2 : Word16).toNat != s.setting .socketChannels && s.setting .autoAttention == 0) = true)
    ∧ (∀ s ∈ [plugged fitted 0, plugged running 0, plugged fitted 1, plugged (silencedBy fitted .a { busOff := true }) 1, running],
        Ready s ∧ ¬ pairsRefused s [(.socketChannels, 2)])
    ∧ mayYield (plugged running 0) (fun c => c == .a || c == .b)
    ∧ (∀ c ∈ [Channel.a, .b], (plugged fitted 1).setting (testerActionSetting c) = 1) := by
  refine ⟨by decide, ?_, ?_, by decide⟩
  · intro s hs
    simp only [List.mem_cons, List.not_mem_nil, or_false] at hs
    rcases hs with rfl | rfl | rfl | rfl | rfl <;>
      exact ⟨by decide, one_pair_not_refused (by simp [codeAccepted, SettingId.range]) (by decide) (by decide)⟩
  · intro c hc
    cases c
    · exact ⟨by decide, fun _ h => absurd (by decide) h⟩
    · exact ⟨by decide, fun _ h => absurd (by decide) h⟩
    · exact absurd hc (by decide)

/-- A taken out of the socket and B put into it while the tester is there: both yield, the reply first (R154, R156). -/
theorem test_socket_channels_put_under_a_tester :
    (match exec (.settingsPut (pairsPayload [(.socketChannels, 2)])) (plugged running 0) with
      | .next t => (t.shareState .a, t.shareState .b, t.shareState .s, t.share.tgnt, t.link.outbound.length,
          t.link.outbound.drop 1)
      | _ => (.opened, .opened, .opened, false, 0, [])) =
      (.yielded, .yielded, .opened, true, 3,
        [.notice (.channelEvent .a .yielded none), .notice (.channelEvent .b .yielded none)]) := by decide

theorem rests_running {s : State} (h : s.sweep.state = .running) : SweepRests s := by simp [SweepRests, h]

theorem test_met_KeyOffPutsThePartInStandby :
    (SweepRests asleep ∧ asleep.key.on = false)
      ∧ (SweepRests (during .a asked) ∧ (during .a asked).key.on = true ∧ (during .a asked).inSlot 0 = true
          ∧ (during .a asked).listed 1 = true ∧ (during .a asked).inSlot 3 = false
          ∧ (during .a asked).listed 3 = false ∧ (during .a asked).sweep.state ≠ .idle
          ∧ (during .a asked).link.noticesHeld + (keyOffEnds (during .a asked)).length < 12)
      ∧ (SweepRests fitted ∧ fitted.key.on = true ∧ fitted.sweep.state = .idle) :=
  ⟨⟨rests_of_free (by decide) rfl, rfl⟩, ⟨rests_running rfl, by decide⟩, rests_of_free (by decide) rfl, by decide⟩

/-- The settle timer expires while a sweep runs, and while one halts, the key switch latched. -/
theorem test_met_SettleExpiryInASweep :
    (running.key.settle = some 3000 ∧ Settled running ∧ running.sweep.state ≠ .idle)
      ∧ (let s := halted .a .b asked
         SweepRests s ∧ Settled s ∧ s.key.settle = some 3000 ∧ s.sweep.state = .halting) :=
  ⟨⟨by decide, settled_of_quiet (by decide), by decide⟩, ⟨fun h => absurd h (by decide), fun _ c => by cases c <;> decide⟩,
    settled_of_quiet (by decide), by decide⟩

theorem test_met_KeyOnAndSettleExpiry :
    asleep.key.on = false
      ∧ (Settled fitted ∧ SweepRests fitted ∧ fitted.key.settle = some 3000 ∧ fitted.sweep.state = .idle
          ∧ fitted.setting .autoKeyOn = 0 ∧ fitted.straps.ksw = false ∧ fitted.setting .autoAttention = 0)
      ∧ (let s := (fitted.withSetting .autoKeyOn 1).withSetting .defaultOptions 0
         s.setting .autoKeyOn = 1 ∧ (s.entry 0).inUse = true ∧ s.shareState (s.entry 0).channel ≠ .silenced
           ∧ (s.entry 0).sleepy = false ∧ (s.entry 1).inUse = true ∧ skippedByDefault s 1 ∧ ¬ skippedByDefault s 0)
      ∧ (let s := (asleep.withCan .b { errorState := .off }).withLine { stuck := true }
         s.key.on = false ∧ (awakened s .a).2.1 = none ∧ (awakened s .b).2.1 = some .silenced
           ∧ (awakened s .s).2.1 = some .silenced ∧ onBus (s.canCtl .a)) := by
  refine ⟨rfl, ⟨settled_of_quiet (by decide), rests_of_free (by decide) rfl, by decide⟩, ?_, ?_⟩
  · unfold skippedByDefault
    decide
  · unfold onBus
    decide

/-! #### Ticks and samples -/

theorem notDue_of {t : Option Nat} (h : t.all (fun n => decide (2 ≤ n)) = true) : notDue t := by
  rintro n rfl
  simpa using h

/-- The reset state with a dialog that waits, frames held, a capture under way and the gap timer of the host link running. -/
def ticking : State :=
  let s := during .a { identifying with boot := some 2, keepAwake := some ⟨2, 2⟩, referral := some 2 }
  let s := s.withCan .a { holding := .waiting { askA with earliest := some 1 }, gap := some 2, window := some 100 }
  { s with
    line := { level := .low, detector := .capture, width := 264, release := none, stuckTimer := some 2,
              wakeLeft := some 2, driveRate := some .r2400, turnaround := some 13 },
    link := { s.link with assembler := { state := .kind, gap := some 2 } },
    share := { s.share with channels := { s.share.channels with b := { hold := some 2 } }, debounce := 0 } }

theorem quietTick_of {s : State} (hp : s.pending = [] ∧ s.link.requests = []) (hq : quiet s = true)
    (hs : [Channel.a, .b, .s].all (fun c =>
      ((s.slot c).response.map ResponseTimer.left).all (fun n => decide (2 ≤ n))
        && (s.slot c).boot.all (fun n => decide (2 ≤ n))
        && ((s.slot c).keepAwake.map AutoTimer.left).all (fun n => decide (2 ≤ n))
        && (s.slot c).referral.all (fun n => decide (2 ≤ n)) && (s.shareOf c).hold.all (fun n => decide (2 ≤ n))) = true)
    (hc : [CanChannel.a, .b].all (fun k =>
      (s.canCtl k).gap.all (fun n => decide (2 ≤ n)) && (s.canCtl k).window.all (fun n => decide (2 ≤ n))) = true)
    (hl : [s.line.stuckTimer, s.line.stuckClear, s.line.release, s.link.assembler.gap, s.line.wakeLeft, s.key.settle].all
      (fun t => t.all (fun n => decide (2 ≤ n))) = true)
    (ht : s.line.turnaround.all (fun n => decide (turnaroundFifths s.line < n)) = true)
    (hr : s.line.filterRun = 0 ∧ (s.line.detector = .capture → s.line.width + 4 ≤ 268)
      ∧ (s.pins.key = s.key.on ∨ s.key.run + 1 < 50)
      ∧ (s.share.tpresActive = (!s.pins.tpres) ∨ s.share.debounce + 1 < 10) ∧ (s.key.on = true → s.clock.ms + 1 < 1000)) :
    QuietTick s := by
  refine ⟨⟨hp.1, .inl hp.2⟩, settled_of_quiet hq, fun c => ?_, fun k => ?_, ?_⟩
  · have := List.all_eq_true.mp hs c (by cases c <;> decide)
    simp only [Bool.and_eq_true] at this
    obtain ⟨⟨⟨⟨h1, h2⟩, h3⟩, h4⟩, h5⟩ := this
    exact ⟨notDue_of h1, notDue_of h2, notDue_of h3, notDue_of h4, notDue_of h5⟩
  · have := List.all_eq_true.mp hc k (by cases k <;> decide)
    simp only [Bool.and_eq_true] at this
    exact ⟨notDue_of this.1, notDue_of this.2⟩
  · simp only [List.all_cons, List.all_nil, Bool.and_true, Bool.and_eq_true] at hl
    obtain ⟨h1, h2, h3, h4, h5, h6⟩ := hl
    exact ⟨notDue_of h1, notDue_of h2, notDue_of h3, notDue_of h4, notDue_of h5, fun n hn => by simpa [hn] using ht,
      notDue_of h6, hr⟩

theorem test_met_TicksCountTheTimers : QuietTick State.reset ∧ QuietTick ticking ∧ State.reset.line.level = .high :=
  ⟨quietTick_of (by decide) (by decide) (by decide) (by decide) (by decide) (by decide) (by decide),
    quietTick_of (by decide) (by decide) (by decide) (by decide) (by decide) (by decide) (by decide), rfl⟩

/-- The wake pattern of the dialog in slot S, with so many of its 25 ms left. -/
def waking (left : Nat) : State :=
  let s := (during .s { state := .waking }).withEntry 2 { moduleS with sleepy := true, bootWait := 1 }
  s.withLine
    { transmitter := .drivingWake, driving := some { request := .wake, dest := .line 15 .r9600 },
      driveRate := some .r9600, wakeLeft := some left, detector := .suppressed, release := none }

/-- A tick takes a millisecond off a wake pattern, and ends it with its last one (R147, R179). -/
theorem test_wake_pattern_ends_at_its_last_tick :
    (match step (waking 25), step (waking 1) with
      | .next t, .next u =>
        t.line.transmitter == .drivingWake && t.line.wakeLeft == some 24 && (t.slot .s).boot == none
          && u.line.transmitter == .turnaround && u.line.wakeLeft == none && u.line.turnaround == some 10
          && (u.slot .s).boot == some 10
      | _, _ => false) = true := by decide +kernel

/-- 15 bit times at 2400 bit/s are 6.25 ms, so they end with the seventh tick; one at 19 200 ends with the first (R144). -/
theorem test_turnaround_of_15_bits_at_2400 :
    (let l : Line := { transmitter := .turnaround, driveRate := some .r2400, turnaround := some 75 }
     l.tick.tick.tick.tick.tick.tick.turnaround = some 3 ∧ l.tick.tick.tick.tick.tick.tick.tick.turnaround = some 0)
    ∧ (match step (fitted.withLine
          { transmitter := .turnaround, driveRate := some .r19200, turnaround := some 5, detector := .suppressed,
            release := none }) with
        | .next t => t.line.transmitter == .idle && t.line.turnaround == none && t.line.detector == .release
        | _ => false) = true := by decide +kernel

/-- The two filters, one tick before their end and at it. -/
theorem test_met_TicksRunTheFilters :
    leftToItself State.reset ∧ State.reset.pins.key = State.reset.key.on
      ∧ (asleep.pins.key = asleep.key.on)
      ∧ (let s : State := { fitted with pins := { key := false, tpres := false } }
         s.pins.key ≠ s.key.on ∧ s.key.run + 1 < 50 ∧ s.share.tpresActive ≠ (!s.pins.tpres) ∧ s.share.debounce + 1 < 10)
      ∧ (50 ≤ 49 + 1 ∧ 10 ≤ 9 + 1 ∧ ¬ 999 + 1 < 1000 ∧ 998 + 1 < 1000) :=
  ⟨⟨by decide, .inl (by decide)⟩, by decide, by decide, by decide, by decide⟩

theorem test_met_SamplesMoveTheFilteredLevel :
    (let l := State.reset.line
     Settled State.reset ∧ l.filterRun + 3 < 4 ∧ l.filterRun + 4 = 4 ∧ l.filterRun < 4)
    ∧ (let l : Line := { level := .low, filterRun := 2, idleTime := 1280 }
       Settled (fitted.withLine l) ∧ l.filterRun + 1 < 4 ∧ l.filterRun + 2 = 4) :=
  ⟨⟨settled_of_quiet (by decide), by decide⟩, settled_of_quiet (by decide), by decide⟩

/-! #### What every step keeps -/

theorem test_met_invariants :
    State.reset.link.bounded ∧ State.reset.history.wf ∧ State.reset.legalSettings ∧ StoreSound State.reset.store
      ∧ AtRest State.reset ∧ ∃ t, step State.reset = .next t := by
  refine ⟨by decide, by decide, by decide, ⟨by decide, by decide, ?_⟩,
    ⟨settled_of_quiet (by decide), fun h => ?_, rests_of_free (by decide) rfl⟩, _, rfl⟩
  · intro b hb
    exact absurd hb (List.not_mem_nil)
  · exact absurd h (by decide)

end Sys2Proof.Tests
end

section
/-! The start of a sweep (R4, R5), said once: what dealing with the entries in scope does to the state it starts from. -/

namespace Sys2Proof.Machine

/-- The entry of a module that the start of a sweep gives SKIPPED (R5, R8). -/
def State.skippedEntry (s : State) (i : ModuleIndex) : Entry :=
  { s.entry i with attention := false, lastOutcome := some .skipped, lastSweep := s.sweep.number }

/-- The modules of a list that are placed on the work list of a channel (R5). -/
def State.placedOn (s : State) (c : Channel) (is : List ModuleIndex) : List ModuleIndex :=
  is.filter (fun i => !s.skips i && (s.entry i).channel == c)

/-- The notices of the modules of a list that are given SKIPPED (R8). -/
def State.skipNotices (s : State) (is : List ModuleIndex) : List Notice :=
  (is.filter s.skips).map (fun i => .moduleEnd i .skipped 0 0)

/-- `t` is `s` with the modules of a list dealt with, in order, as R5 says. -/
structure State.Enlisted (s : State) (is : List ModuleIndex) (t : State) : Prop where
  rest : t = { s with table := t.table, sweep := t.sweep, link := t.link }
  sweep : t.sweep =
    { s.sweep with lists := t.sweep.lists, reached := t.sweep.reached, counts := t.sweep.counts }
  entry : ∀ i, t.entry i = if i ∈ is ∧ s.skips i = true then s.skippedEntry i else s.entry i
  workList : ∀ c, t.workList c = s.workList c ++ s.placedOn c is
  reached : ∀ i : ModuleIndex, t.sweep.reached[i] = (s.sweep.reached[i] || (decide (i ∈ is) && s.skips i))
  counts : t.sweep.counts =
    s.sweep.counts.set 9 ((satSucc 255)^[(is.filter s.skips).length] s.sweep.counts[9])
  link : t.link = (s.skipNotices is).foldl Link.notify s.link

/-- What `skips` reads of the state (R5). -/
theorem State.skips_congr {s t : State} {i : ModuleIndex} (he : (t.entry i).configured = (s.entry i).configured)
    (hs : t.share = s.share) (ho : t.sweep.options = s.sweep.options) : t.skips i = s.skips i := by
  simp only [Entry.configured, Prod.mk.injEq] at he
  obtain ⟨-, hc, -, hsl, -⟩ := he
  simp only [State.skips, State.shareState, State.shareOf, hs, ho, hc, hsl]

theorem State.enlist_of_skips {s : State} {i : ModuleIndex} (h : s.skips i = true) :
    s.enlist i =
      { s with
        table := s.table.set i (s.skippedEntry i)
        sweep := { s.sweep with
          reached := s.sweep.reached.set i true
          counts := s.sweep.counts.set 9 (satSucc 255 s.sweep.counts[9]) }
        link := s.link.notify (.moduleEnd i .skipped 0 0) } := by
  rw [State.enlist, if_pos h]
  simp [State.recordOutcome, State.skippedEntry, State.entry, State.notify, State.withLink, State.withSweep,
    State.withEntry, SweepOutcome.index]

theorem State.enlist_of_places {s : State} {i : ModuleIndex} (h : s.skips i = false) :
    s.enlist i = s.withWorkList (s.entry i).channel (s.workList (s.entry i).channel ++ [i]) := by
  simp [State.enlist, h]

/-- One entry dealt with (R5). -/
theorem State.Enlisted.single (s : State) (i : ModuleIndex) : s.Enlisted [i] (s.enlist i) := by
  cases h : s.skips i
  · rw [State.enlist_of_places h]
    refine ⟨rfl, rfl, fun j => ?_, fun c => ?_, fun j => ?_, ?_, ?_⟩
    · have hj : ¬ (j ∈ [i] ∧ s.skips j = true) := by
        rintro ⟨hm, hs⟩
        rw [List.mem_singleton.mp hm, h] at hs
        exact Bool.noConfusion hs
      rw [if_neg hj]
      rfl
    · by_cases hc : (s.entry i).channel = c
      · subst hc
        simp [State.placedOn, h]
      · simp only [State.placedOn, State.workList, State.withWorkList, State.withSweep]
        rw [PerChannel.get_set_other _ (Ne.symm hc)]
        simp [hc]
    · by_cases hj : j = i <;> simp [State.withWorkList, State.withSweep, hj, h]
    · simp [State.withWorkList, State.withSweep, h]
    · simp [State.withWorkList, State.withSweep, State.skipNotices, h]
  · rw [State.enlist_of_skips h]
    refine ⟨rfl, rfl, fun j => ?_, fun c => ?_, fun j => ?_, ?_, ?_⟩
    · by_cases hj : j = i
      · subst hj
        simp [State.entry, h]
      · simp [State.entry, hj, Fin.val_ne_of_ne (Ne.symm hj)]
    · simp [State.placedOn, h, State.workList]
    · by_cases hj : j = i
      · subst hj
        simp [h]
      · simp [hj, Fin.val_ne_of_ne (Ne.symm hj)]
    · simp [h]
    · simp [State.skipNotices, h]

/-- The channel and the other configured fields stay, and so does what decides a skip. -/
theorem State.Enlisted.keeps {s t : State} {is : List ModuleIndex} (h : s.Enlisted is t) (i : ModuleIndex) :
    (t.entry i).channel = (s.entry i).channel ∧ t.skips i = s.skips i ∧
      t.skippedEntry i = s.skippedEntry i := by
  have he : (t.entry i).configured = (s.entry i).configured := by
    rw [h.entry i]
    split <;> rfl
  have hn : t.sweep.number = s.sweep.number := by rw [h.sweep]
  refine ⟨congrArg (·.2.1) he, State.skips_congr he (by rw [h.rest]) (by rw [h.sweep]), ?_⟩
  simp only [State.skippedEntry, hn]
  rw [h.entry i]
  split <;> rfl

theorem State.Enlisted.append {s t u : State} {is js : List ModuleIndex} (h : s.Enlisted is t) (k : t.Enlisted js u) :
    s.Enlisted (is ++ js) u := by
  have hs : t.skips = s.skips := funext (fun i => (h.keeps i).2.1)
  refine ⟨?_, ?_, fun i => ?_, fun c => ?_, fun i => ?_, ?_, ?_⟩
  · rw [k.rest, h.rest]
  · rw [k.sweep, h.sweep]
  · rw [k.entry i, h.entry i, (h.keeps i).2.2, hs]
    by_cases hi : i ∈ js <;> by_cases hsk : s.skips i = true <;> simp [hi, hsk]
  · have hp : t.placedOn c js = s.placedOn c js := by
      unfold State.placedOn
      congr 1
      funext i
      rw [(h.keeps i).1, (h.keeps i).2.1]
    rw [k.workList c, h.workList c, hp]
    simp [State.placedOn]
  · rw [k.reached i, h.reached i, hs]
    cases s.sweep.reached[i] <;> cases s.skips i <;> simp
  · rw [k.counts, h.counts, hs]
    simp [← Function.iterate_add_apply, Nat.add_comm]
  · rw [k.link, h.link]
    simp [State.skipNotices, hs]

/-- The entries of a list dealt with in order (R5). -/
theorem State.enlisted_foldl (is : List ModuleIndex) : ∀ s : State, s.Enlisted is (is.foldl State.enlist s) := by
  induction is with
  | nil =>
    intro s
    refine ⟨rfl, rfl, fun i => ?_, fun c => ?_, fun i => ?_, ?_, ?_⟩ <;> simp [State.placedOn, State.skipNotices]
  | cons i is ih => exact fun s => (State.Enlisted.single s i).append (ih (s.enlist i))

/-- The entries a sweep started over a scope deals with, in ascending index (R5). -/
def State.scopeList (s : State) (scope : Scope) : List ModuleIndex := allModules.filter (s.inScope scope)

/-- A sweep started (R4, R5): the controller as it begins, then the entries in scope dealt with. -/
theorem State.startSweep_enlisted (s : State) (k : SweepKind) (o : SweepOptions) (x : Scope) :
    (s.withSweep (s.sweep.begin k o)).Enlisted (s.scopeList x) (s.startSweep k o x) := State.enlisted_foldl _ _

theorem State.mem_scopeList {s : State} {x : Scope} {i : ModuleIndex} : i ∈ s.scopeList x ↔ s.inScope x i = true := by
  simp [State.scopeList, allModules]

theorem State.scopeList_ascending (s : State) (x : Scope) : (s.scopeList x).Pairwise (· < ·) :=
  (List.pairwise_lt_finRange 48).filter _

theorem State.scopeList_length_le (s : State) (x : Scope) : (s.scopeList x).length ≤ 48 := by
  have h := List.length_filter_le (s.inScope x) allModules
  simpa [State.scopeList, allModules] using h

/-- So many events counted in a count of one byte. -/
theorem iterate_satSucc {m : Nat} (h : m ≤ 255) (n : Nat) : (satSucc 255)^[n] m = min 255 (m + n) := by
  induction n generalizing m with
  | zero => simpa using h
  | succ n ih =>
    rw [Function.iterate_succ_apply, ih (by unfold satSucc; split <;> omega)]
    unfold satSucc
    split <;> omega

/-! ### What the start of a sweep leaves -/

section
variable (s : State) (k : SweepKind) (o : SweepOptions) (x : Scope)

/-- The controller after the start of a sweep, but for its lists, marks and counts (R4). -/
theorem State.startSweep_sweep :
    (s.startSweep k o x).sweep =
      { s.sweep.begin k o with
        lists := (s.startSweep k o x).sweep.lists, reached := (s.startSweep k o x).sweep.reached,
        counts := (s.startSweep k o x).sweep.counts } := (s.startSweep_enlisted k o x).sweep

@[simp] theorem State.startSweep_state : (s.startSweep k o x).sweep.state = .running := by
  rw [State.startSweep_sweep]; rfl

/-- Beside the table, the sweep controller and the notices, the start of a sweep changes nothing (R4, R5). -/
theorem State.startSweep_rest :
    s.startSweep k o x =
      { s with
        table := (s.startSweep k o x).table, sweep := (s.startSweep k o x).sweep,
        link := (s.startSweep k o x).link } := (s.startSweep_enlisted k o x).rest

@[simp] theorem State.startSweep_slots : (s.startSweep k o x).slots = s.slots := by rw [State.startSweep_rest]
@[simp] theorem State.startSweep_share : (s.startSweep k o x).share = s.share := by rw [State.startSweep_rest]
@[simp] theorem State.startSweep_settings : (s.startSweep k o x).settings = s.settings := by rw [State.startSweep_rest]
@[simp] theorem State.startSweep_key : (s.startSweep k o x).key = s.key := by rw [State.startSweep_rest]

/-- Whether the start of a sweep with these options gives a module SKIPPED (R5). -/
def State.skipsUnder (i : ModuleIndex) : Bool :=
  s.shareState (s.entry i).channel == .silenced || ((s.entry i).sleepy && !o.includeSleepers)

theorem State.startSweep_entry (i : ModuleIndex) :
    (s.startSweep k o x).entry i =
      if s.inScope x i = true ∧ s.skipsUnder o i = true then
        { s.entry i with attention := false, lastOutcome := some .skipped, lastSweep := s.sweep.number + 1 }
      else s.entry i := by
  have h := (s.startSweep_enlisted k o x).entry i
  simp only [State.mem_scopeList] at h
  exact h

theorem State.startSweep_workList (c : Channel) :
    (s.startSweep k o x).workList c =
      (s.scopeList x).filter (fun i => !s.skipsUnder o i && (s.entry i).channel == c) := by
  refine ((s.startSweep_enlisted k o x).workList c).trans ?_
  cases c <;> rfl

theorem State.mem_workList_startSweep {c : Channel} {i : ModuleIndex} :
    i ∈ (s.startSweep k o x).workList c ↔
      s.inScope x i = true ∧ s.skipsUnder o i = false ∧ (s.entry i).channel = c := by
  simp [State.startSweep_workList, State.mem_scopeList]

theorem State.workList_startSweep_ascending (c : Channel) :
    ((s.startSweep k o x).workList c).Pairwise (· < ·) := by
  rw [State.startSweep_workList]
  exact (s.scopeList_ascending x).filter _

theorem State.startSweep_reached (i : ModuleIndex) :
    (s.startSweep k o x).sweep.reached[i] = (s.inScope x i && s.skipsUnder o i) := by
  rw [(s.startSweep_enlisted k o x).reached i]
  have h0 : (s.withSweep (s.sweep.begin k o)).sweep.reached[i] = false := by
    simp [Sweep.begin]
  rw [h0, Bool.false_or]
  have hm : decide (i ∈ s.scopeList x) = s.inScope x i := by
    rw [Bool.eq_iff_iff, decide_eq_true_iff, State.mem_scopeList]
  rw [hm]
  rfl

theorem State.startSweep_counts :
    (s.startSweep k o x).sweep.counts =
      (Vector.replicate 11 0).set 9 ((s.scopeList x).filter (s.skipsUnder o)).length := by
  rw [(s.startSweep_enlisted k o x).counts]
  have hl : ((s.scopeList x).filter (s.skipsUnder o)).length ≤ 48 :=
    (List.length_filter_le _ _).trans (s.scopeList_length_le x)
  have hs : (s.withSweep (s.sweep.begin k o)).skips = s.skipsUnder o := rfl
  have h0 : (s.withSweep (s.sweep.begin k o)).sweep.counts = Vector.replicate 11 0 := rfl
  rw [hs, h0, iterate_satSucc (by simp)]
  congr 1
  simp
  omega

theorem State.startSweep_link :
    (s.startSweep k o x).link =
      (((s.scopeList x).filter (s.skipsUnder o)).map (fun i => Notice.moduleEnd i .skipped 0 0)).foldl Link.notify
        s.link := (s.startSweep_enlisted k o x).link

end

end Sys2Proof.Machine
end

section
/-! The end of a step (R12, R19, R156, R160), said once: what a yield that has reached its boundary changes, what the end of
a sweep changes, and that afterwards nothing is left to settle. -/

namespace Sys2Proof.Machine

/-! ### One channel's update read on another channel -/

theorem State.slot_withSlot_other (s : State) {c d : Channel} (h : d ≠ c) (x : Slot) :
    (s.withSlot c x).slot d = s.slot d := PerChannel.get_set_other _ h x

theorem State.waitingFrames_withWaitingFrames_other (s : State) {c d : Channel} (h : d ≠ c) (x : List TxFrame) :
    (s.withWaitingFrames c x).waitingFrames d = s.waitingFrames d := PerChannel.get_set_other _ h x

theorem State.shareOf_withShareOf_other (s : State) {c d : Channel} (h : d ≠ c) (x : ShareChannel) :
    (s.withShareOf c x).shareOf d = s.shareOf d := PerChannel.get_set_other _ h x

theorem State.workList_withWorkList_other (s : State) {c d : Channel} (h : d ≠ c) (x : List ModuleIndex) :
    (s.withWorkList c x).workList d = s.workList d := PerChannel.get_set_other _ h x

theorem State.slot_congr {s t : State} (h : t.slots = s.slots) (c : Channel) : t.slot c = s.slot c := by
  rw [State.slot, State.slot, h]

theorem State.shareOf_congr {s t : State} (h : t.share = s.share) (c : Channel) : t.shareOf c = s.shareOf c := by
  rw [State.shareOf, State.shareOf, h]

theorem State.shareState_congr {s t : State} (h : t.share = s.share) (c : Channel) : t.shareState c = s.shareState c := by
  rw [State.shareState, State.shareState, State.shareOf_congr h]

theorem State.workList_congr {s t : State} (h : t.sweep.lists = s.sweep.lists) (c : Channel) :
    t.workList c = s.workList c := by
  rw [State.workList, State.workList, h]

theorem State.entry_congr {s t : State} (h : t.table = s.table) (i : ModuleIndex) : t.entry i = s.entry i := by
  rw [State.entry, State.entry, h]

/-! ### The sweep controller's own transitions -/

/-- `t` is `s` but for the module table, the sweep controller and the host link. -/
def State.SweepOnly (s t : State) : Prop :=
  ∃ (e : Vector Entry 48) (w : Sweep) (l : Link), t = { s with table := e, sweep := w, link := l }

theorem State.SweepOnly.refl (s : State) : s.SweepOnly s := ⟨_, _, _, rfl⟩

theorem State.SweepOnly.trans {s t u : State} (h : s.SweepOnly t) (k : t.SweepOnly u) : s.SweepOnly u := by
  obtain ⟨_, _, _, rfl⟩ := h
  obtain ⟨_, _, _, rfl⟩ := k
  exact ⟨_, _, _, rfl⟩

section
variable {s t : State} (h : s.SweepOnly t)
include h

theorem State.SweepOnly.slots : t.slots = s.slots := by obtain ⟨_, _, _, rfl⟩ := h; rfl
theorem State.SweepOnly.toHand : t.toHand = s.toHand := by obtain ⟨_, _, _, rfl⟩ := h; rfl
theorem State.SweepOnly.can : t.can = s.can := by obtain ⟨_, _, _, rfl⟩ := h; rfl
theorem State.SweepOnly.line : t.line = s.line := by obtain ⟨_, _, _, rfl⟩ := h; rfl
theorem State.SweepOnly.share : t.share = s.share := by obtain ⟨_, _, _, rfl⟩ := h; rfl
theorem State.SweepOnly.settings : t.settings = s.settings := by obtain ⟨_, _, _, rfl⟩ := h; rfl
theorem State.SweepOnly.history : t.history = s.history := by obtain ⟨_, _, _, rfl⟩ := h; rfl
theorem State.SweepOnly.key : t.key = s.key := by obtain ⟨_, _, _, rfl⟩ := h; rfl

end

theorem State.SweepOnly.startSweep (s : State) (k : SweepKind) (o : SweepOptions) (x : Scope) :
    s.SweepOnly (s.startSweep k o x) := ⟨_, _, _, s.startSweep_rest k o x⟩

theorem State.SweepOnly.endSweep (s : State) (r : EndReason) : s.SweepOnly (s.endSweep r) := ⟨_, _, _, rfl⟩

theorem State.SweepOnly.attentionCheck (s : State) : s.SweepOnly s.attentionCheck := by
  unfold State.attentionCheck
  split
  · exact .startSweep _ _ _ _
  · exact .refl s

theorem State.SweepOnly.settleSweep (n : Nat) : ∀ s : State, s.SweepOnly (State.settleSweep n s) := by
  induction n with
  | zero => exact .refl
  | succ n ih =>
    intro s
    unfold State.settleSweep
    split
    · split
      · exact .endSweep _ _
      · exact ((SweepOnly.endSweep s _).trans (.attentionCheck _)).trans (ih _)
    · exact .refl s

@[simp] theorem State.endSweep_sweep (s : State) (r : EndReason) :
    (s.endSweep r).sweep = { s.sweep with state := .idle, haltTaken := false } := rfl
@[simp] theorem State.endSweep_link (s : State) (r : EndReason) :
    (s.endSweep r).link =
      s.link.notify (.sweepEnd r s.sweep.number s.sweep.kind s.sweep.counts s.sweep.created s.sweep.updated
        s.sweep.refused) := rfl
@[simp] theorem State.endSweep_table (s : State) (r : EndReason) : (s.endSweep r).table = s.table := rfl

/-- The end condition, said of lists and slots (R12). -/
theorem State.sweepDone_iff (s : State) :
    s.sweepDone = true ↔ s.sweep.state ≠ .idle ∧ ∀ c, s.workList c = [] ∧ (s.slot c).state = .free := by
  simp only [State.sweepDone, Bool.and_eq_true, decide_eq_true_iff, allChannels, List.all_cons, List.all_nil,
    List.isEmpty_iff, beq_iff_eq, Bool.and_true]
  refine and_congr_right fun _ => ⟨fun ⟨ha, hb, hs⟩ c => ?_, fun h => ⟨h .a, h .b, h .s⟩⟩
  cases c <;> assumption

theorem State.sweepDone_of_idle {s : State} (h : s.sweep.state = .idle) : s.sweepDone = false := by
  simp [State.sweepDone, h]

theorem State.sweepDone_of_listed {s : State} {c : Channel} (h : s.workList c ≠ []) : s.sweepDone = false := by
  rw [Bool.eq_false_iff, Ne, State.sweepDone_iff]
  exact fun hd => h (hd.2 c).1

theorem State.sweepDone_of_busy {s : State} {c : Channel} (h : (s.slot c).state ≠ .free) : s.sweepDone = false := by
  rw [Bool.eq_false_iff, Ne, State.sweepDone_iff]
  exact fun hd => h (hd.2 c).2

theorem State.settleSweep_of_not_done {s : State} (h : s.sweepDone = false) (n : Nat) : State.settleSweep n s = s := by
  cases n with
  | zero => rfl
  | succ n => simp [State.settleSweep, h]

theorem State.attentionCheck_of_not_due {s : State} (h : s.attentionDue = false) : s.attentionCheck = s := by
  simp [State.attentionCheck, h]

/-- A sweep that ends by a halt (R12, R13). -/
theorem State.settleSweep_halted {s : State} (h : s.sweepDone = true) (ht : s.sweep.haltTaken = true) (n : Nat) :
    State.settleSweep (n + 1) s = s.endSweep .halted := by
  simp [State.settleSweep, h, ht]

/-- A sweep that ends FINISHED (R12); the attention check follows (R19). -/
theorem State.settleSweep_finished {s : State} (h : s.sweepDone = true) (ht : s.sweep.haltTaken = false) (n : Nat) :
    State.settleSweep (n + 1) s = State.settleSweep n (s.endSweep .finished).attentionCheck := by
  simp [State.settleSweep, h, ht]

/-- A sweep that ends with no attention sweep to follow. -/
theorem State.settleSweep_ends {s : State} (h : s.sweepDone = true) (hd : (s.endSweep .finished).attentionDue = false)
    (n : Nat) :
    State.settleSweep (n + 1) s = s.endSweep (if s.sweep.haltTaken then .halted else .finished) := by
  cases ht : s.sweep.haltTaken
  · rw [State.settleSweep_finished h ht, State.attentionCheck_of_not_due hd]
    exact State.settleSweep_of_not_done (State.sweepDone_of_idle rfl) n
  · exact State.settleSweep_halted h ht n

theorem State.attentionDue_of_off {s : State} (h : s.setting .autoAttention = 0) : s.attentionDue = false := by
  simp [State.attentionDue, h]

/-- An attention sweep whose modules are all skipped leaves no entry with attention pending (R5, R6, R19). -/
theorem State.attentionDue_after_skips {s : State} {o : SweepOptions}
    (hd : (s.startSweep .attention o .attention).sweepDone = true) :
    ((s.startSweep .attention o .attention).endSweep .finished).attentionDue = false := by
  set t := s.startSweep .attention o .attention with ht
  have hl : ∀ c, t.workList c = [] := fun c => (((State.sweepDone_iff t).mp hd).2 c).1
  have hnone : ∀ i : ModuleIndex, ((t.entry i).inUse && (t.entry i).attention) = false := by
    intro i
    have he := s.startSweep_entry .attention o .attention i
    have hw : i ∉ t.workList (s.entry i).channel := by simp [hl]
    rw [State.mem_workList_startSweep] at hw
    rw [← ht] at he
    rw [he]
    by_cases hi : s.inScope .attention i = true
    · have hs : s.skipsUnder o i = true := by
        simpa [hi] using hw
      simp [hi, hs]
    · rw [if_neg (fun h => hi h.1)]
      simpa [State.inScope] using hi
  have hany : allModules.any (fun i => (t.entry i).inUse && (t.entry i).attention) = false := by
    simp only [List.any_eq_false, hnone]
    simp
  have he : ∀ i, (t.endSweep .finished).entry i = t.entry i := fun _ => rfl
  simp only [State.attentionDue, he, hany, Bool.and_false]

/-- When the end of a sweep has been acted on, no sweep has met its end condition (R12, R6). -/
theorem State.settleSweep_not_done (s : State) : (State.settleSweep 3 s).sweepDone = false := by
  cases hd : s.sweepDone
  · rw [State.settleSweep_of_not_done hd, hd]
  · cases ht : s.sweep.haltTaken
    · rw [State.settleSweep_finished hd ht]
      cases ha : (s.endSweep .finished).attentionDue
      · rw [State.attentionCheck_of_not_due ha, State.settleSweep_of_not_done (State.sweepDone_of_idle rfl)]
        exact State.sweepDone_of_idle rfl
      · rw [State.attentionCheck, if_pos ha]
        cases hv : ((s.endSweep .finished).startSweep .attention (s.endSweep .finished).defaultOptions
            .attention).sweepDone
        · rw [State.settleSweep_of_not_done hv, hv]
        · rw [State.settleSweep_ends hv (State.attentionDue_after_skips hv)]
          exact State.sweepDone_of_idle rfl
    · rw [State.settleSweep_halted hd ht]
      exact State.sweepDone_of_idle rfl

/-! ### A yield that has reached its boundary (R156, R157) -/

/-- A slot resumed: its own context alone, beside frames (R48). -/
theorem State.resumeSlot_frames (s : State) (c : Channel) :
    ∃ x, (s.withSlot c x).FramesOnly (s.resumeSlot c) ∧ ((s.slot c).state ≠ .parked → x = s.slot c)
      ∧ ((s.slot c).state = .parked → x.state = .identifying) := by
  unfold State.resumeSlot
  split
  · next h => exact ⟨_, (FramesOnly.startListening _ _).trans (.hand _ _ _ _), fun hn => absurd h hn, fun _ => rfl⟩
  · next h =>
    refine ⟨s.slot c, ⟨s.toHand, s.can, s.line, ?_⟩, fun _ => rfl, fun hp => absurd hp h⟩
    obtain ⟨_, ⟨_, _, _⟩, _, _, _, _, _, _, _, _, _, _, _, _, _, _⟩ := s
    cases c <;> rfl

theorem State.resumeSlot_of_not_parked {s : State} {c : Channel} (h : (s.slot c).state ≠ .parked) :
    s.resumeSlot c = s := by
  rw [State.resumeSlot, if_neg h]

theorem State.share_resumeSlot (s : State) (c : Channel) : (s.resumeSlot c).share = s.share := by
  obtain ⟨x, h, _⟩ := s.resumeSlot_frames c
  exact h.share

theorem State.slot_resumeSlot_other (s : State) {c d : Channel} (hd : d ≠ c) : (s.resumeSlot c).slot d = s.slot d := by
  obtain ⟨x, h, _⟩ := s.resumeSlot_frames c
  rw [State.slot_congr h.slots, State.slot_withSlot_other s hd]

theorem State.letGo_frames (s : State) (c : Channel) : s.FramesOnly (s.letGo c) := by
  cases c
  · exact .withCan _ _ _
  · exact .withCan _ _ _
  · exact .refl s

theorem State.shareState_withShareState_other (s : State) {c d : Channel} (h : d ≠ c) (x : ShareState) :
    (s.withShareState c x).shareState d = s.shareState d := by
  simp [State.shareState, State.withShareState, State.shareOf_withShareOf_other s h]

/-- Reopening touches its own channel alone (R157). -/
theorem State.reopenIfClear_other (s : State) {c d : Channel} (hd : d ≠ c) :
    (s.reopenIfClear c).shareState d = s.shareState d ∧ (s.reopenIfClear c).slot d = s.slot d := by
  unfold State.reopenIfClear
  split
  · rw [State.shareState_congr (State.share_resumeSlot _ _), State.slot_resumeSlot_other _ hd]
    exact ⟨s.shareState_withShareState_other hd _, rfl⟩
  · exact ⟨rfl, rfl⟩

theorem State.reopenIfClear_not_pending {s : State} {c : Channel} (h : s.shareState c ≠ .yieldPending) :
    (s.reopenIfClear c).shareState c ≠ .yieldPending := by
  unfold State.reopenIfClear
  split
  · rw [State.shareState_congr (State.share_resumeSlot _ _)]
    have : ((s.withShareState c .opened).notify (.channelEvent c .resumed none)).shareState c = .opened :=
      s.shareState_withShareState c .opened
    rw [this]
    exact fun h => ShareState.noConfusion h
  · exact h

theorem State.enterYielded_other (s : State) {c d : Channel} (hd : d ≠ c) :
    (s.enterYielded c).shareState d = s.shareState d ∧ (s.enterYielded c).slot d = s.slot d := by
  unfold State.enterYielded
  obtain ⟨hs, hx⟩ := State.reopenIfClear_other
    (((s.letGo c).withShareState c .yielded).notify (.channelEvent c .yielded none)) hd
  rw [hs, hx]
  exact ⟨((s.letGo c).shareState_withShareState_other hd _).trans (State.shareState_congr (s.letGo_frames c).share d),
    State.slot_congr (s.letGo_frames c).slots d⟩

theorem State.enterYielded_not_pending (s : State) (c : Channel) : (s.enterYielded c).shareState c ≠ .yieldPending := by
  refine State.reopenIfClear_not_pending ?_
  have : (((s.letGo c).withShareState c .yielded).notify (.channelEvent c .yielded none)).shareState c = .yielded :=
    (s.letGo c).shareState_withShareState c .yielded
  rw [this]
  exact fun h => ShareState.noConfusion h

/-- A channel waits for a yield that its slot has reached already (R156). -/
def State.yieldReached (s : State) (c : Channel) : Prop :=
  s.shareState c = .yieldPending ∧ ((s.slot c).state = .free ∨ (s.slot c).state = .parked)

theorem State.yieldSettle_of_not_reached {s : State} {c : Channel} (h : ¬ s.yieldReached c) : s.yieldSettle c = s :=
  if_neg h

theorem State.yieldSettle_of_reached {s : State} {c : Channel} (h : s.yieldReached c) :
    s.yieldSettle c = s.enterYielded c :=
  if_pos h

theorem State.yieldSettle_other (s : State) {c d : Channel} (hd : d ≠ c) :
    (s.yieldSettle c).shareState d = s.shareState d ∧ (s.yieldSettle c).slot d = s.slot d := by
  unfold State.yieldSettle
  split
  · exact s.enterYielded_other hd
  · exact ⟨rfl, rfl⟩

theorem State.yieldReached_yieldSettle_other (s : State) {c d : Channel} (hd : d ≠ c) :
    (s.yieldSettle c).yieldReached d ↔ s.yieldReached d := by
  obtain ⟨hs, hx⟩ := s.yieldSettle_other hd
  rw [State.yieldReached, hs, hx, State.yieldReached]

theorem State.yieldSettle_not_reached (s : State) (c : Channel) : ¬ (s.yieldSettle c).yieldReached c := by
  by_cases h : s.yieldReached c
  · rw [State.yieldSettle_of_reached h]
    exact fun hr => s.enterYielded_not_pending c hr.1
  · rwa [State.yieldSettle_of_not_reached h]

/-- Every channel's yield settled, none is left at its boundary (R156). -/
theorem State.yieldSettle_all (s : State) (d : Channel) : ¬ (allChannels.foldl State.yieldSettle s).yieldReached d := by
  simp only [allChannels, List.foldl_cons, List.foldl_nil]
  cases d
  · rw [State.yieldReached_yieldSettle_other _ (by decide), State.yieldReached_yieldSettle_other _ (by decide)]
    exact State.yieldSettle_not_reached _ _
  · rw [State.yieldReached_yieldSettle_other _ (by decide)]
    exact State.yieldSettle_not_reached _ _
  · exact State.yieldSettle_not_reached _ _

/-- Where one channel alone may have reached its yield, the end of a step settles that one. -/
theorem State.yieldSettle_only {s : State} {c : Channel} (h : ∀ d, d ≠ c → ¬ s.yieldReached d) :
    allChannels.foldl State.yieldSettle s = s.yieldSettle c := by
  have hk : ∀ {u : State} {d e : Channel}, d ≠ e → ¬ u.yieldReached d → (u.yieldSettle e).yieldSettle d = u.yieldSettle e :=
    fun hde hu => State.yieldSettle_of_not_reached ((State.yieldReached_yieldSettle_other _ hde).not.mpr hu)
  simp only [allChannels, List.foldl_cons, List.foldl_nil]
  cases c
  · rw [hk (by decide) (h .b (by decide)), hk (by decide) (h .s (by decide))]
  · rw [State.yieldSettle_of_not_reached (h .a (by decide)), hk (by decide) (h .s (by decide))]
  · rw [State.yieldSettle_of_not_reached (h .a (by decide)), State.yieldSettle_of_not_reached (h .b (by decide))]

/-! ### The outputs (R160) -/

@[simp] theorem State.sweepDone_recomputeOutputs (s : State) : s.recomputeOutputs.sweepDone = s.sweepDone := rfl
@[simp] theorem State.shareState_recomputeOutputs (s : State) (c : Channel) :
    s.recomputeOutputs.shareState c = s.shareState c := rfl
@[simp] theorem State.slot_recomputeOutputs (s : State) (c : Channel) : s.recomputeOutputs.slot c = s.slot c := rfl
@[simp] theorem State.sweep_recomputeOutputs (s : State) : s.recomputeOutputs.sweep = s.sweep := rfl
@[simp] theorem State.key_recomputeOutputs (s : State) : s.recomputeOutputs.key = s.key := rfl
theorem State.tgnt_recomputeOutputs (s : State) : s.recomputeOutputs.share.tgnt = s.recomputeOutputs.tgntValue := rfl
theorem State.pneed_recomputeOutputs (s : State) : s.recomputeOutputs.share.pneed = s.recomputeOutputs.pneedValue := rfl

end Sys2Proof.Machine

namespace Sys2Proof.Claim

open Sys2Proof.Machine

/-- The end of every step leaves nothing to settle (R12, R156, R160). -/
theorem settled_closeStep (s : State) : Settled s.closeStep := by
  unfold State.closeStep
  have ho := State.SweepOnly.settleSweep 3 (allChannels.foldl State.yieldSettle s)
  refine ⟨fun c hc => ?_, (State.sweepDone_recomputeOutputs _).trans (State.settleSweep_not_done _),
    State.tgnt_recomputeOutputs _, State.pneed_recomputeOutputs _⟩
  rw [State.shareState_recomputeOutputs, State.shareState_congr ho.share] at hc
  rw [State.slot_recomputeOutputs, State.slot_congr ho.slots]
  have := State.yieldSettle_all s c
  rw [State.yieldReached] at this
  tauto

theorem Settled.not_reached {s : State} (h : Settled s) (c : Channel) : ¬ s.yieldReached c := by
  rintro ⟨hp, hx⟩
  have := h.1 c hp
  tauto

end Sys2Proof.Claim
end

section
/-! What the part's work between the two ends of a step leaves at rest (R1, R12, R13): no FREE slot becomes busy, the sweep
controller keeps its state, and lists grow only while a sweep runs. Each lemma has the form "if `s` was reached from `r` by
such work, so is the operation's result"; an operation of a dialog asks that the slot was busy in `r`. -/

namespace Sys2Proof.Machine

/-- `s` is reached from `r` by work that starts no dialog and neither starts nor ends a sweep. -/
structure State.Calm (r s : State) : Prop where
  state : s.sweep.state = r.sweep.state
  haltTaken : s.sweep.haltTaken = r.sweep.haltTaken
  key : s.key = r.key
  free : ∀ c, (r.slot c).state = .free → (s.slot c).state = .free
  lists : r.sweep.state ≠ .running → s.sweep.lists = r.sweep.lists

variable {r s t : State}

namespace State.Calm

@[simp] theorem refl (r : State) : r.Calm r := ⟨rfl, rfl, rfl, fun _ h => h, fun _ => rfl⟩

theorem busy (h : r.Calm s) {c : Channel} (hs : (s.slot c).state ≠ .free) : (r.slot c).state ≠ .free :=
  fun hr => hs (h.free c hr)

theorem of_frames (h : r.Calm s) (k : s.FramesOnly t) : r.Calm t where
  state := by rw [k.sweep, h.state]
  haltTaken := by rw [k.sweep, h.haltTaken]
  key := by rw [k.key, h.key]
  free c hc := by rw [State.slot_congr k.slots, h.free c hc]
  lists hr := by rw [k.sweep, h.lists hr]

theorem withSlot (h : r.Calm s) {c : Channel} {x : Slot} (hx : (r.slot c).state = .free → x.state = .free) :
    r.Calm (s.withSlot c x) :=
  { h with
    free := fun d hd => by
      by_cases hdc : d = c
      · subst hdc
        rw [State.slot_withSlot]
        exact hx hd
      · rw [State.slot_withSlot_other s hdc]
        exact h.free d hd }

/-- A context rewritten in the state it is in. -/
theorem withSlot_same (h : r.Calm s) {c : Channel} {x : Slot} (hx : x.state = (s.slot c).state) :
    r.Calm (s.withSlot c x) := h.withSlot (fun hr => hx.trans (h.free c hr))

@[simp] theorem withSlot_busy (h : r.Calm s) {c : Channel} (hb : (r.slot c).state ≠ .free) (x : Slot) :
    r.Calm (s.withSlot c x) := h.withSlot (fun hr => absurd hr hb)

@[simp] theorem withWaitingFrames (h : r.Calm s) (c : Channel) (x : List TxFrame) : r.Calm (s.withWaitingFrames c x) :=
  { h with }
@[simp] theorem withCan (h : r.Calm s) (k : CanChannel) (x : Can) : r.Calm (s.withCan k x) := { h with }
@[simp] theorem withLine (h : r.Calm s) (x : Line) : r.Calm (s.withLine x) := { h with }
@[simp] theorem withShareOf (h : r.Calm s) (c : Channel) (x : ShareChannel) : r.Calm (s.withShareOf c x) := { h with }
@[simp] theorem withShareState (h : r.Calm s) (c : Channel) (x : ShareState) : r.Calm (s.withShareState c x) := { h with }
@[simp] theorem withEntry (h : r.Calm s) (i : ModuleIndex) (x : Entry) : r.Calm (s.withEntry i x) := { h with }
@[simp] theorem withHistory (h : r.Calm s) (x : History) : r.Calm (s.withHistory x) := { h with }
@[simp] theorem withLink (h : r.Calm s) (x : Link) : r.Calm (s.withLink x) := { h with }
@[simp] theorem withSetting (h : r.Calm s) (i : SettingId) (v : Word16) : r.Calm (s.withSetting i v) := { h with }
@[simp] theorem notify (h : r.Calm s) (n : Notice) : r.Calm (s.notify n) := { h with }
@[simp] theorem reply (h : r.Calm s) (k : Byte) (st : Status) (bs : List Byte) : r.Calm (s.reply k st bs) := { h with }
@[simp] theorem withBindings (h : r.Calm s) (bs : List Binding) : r.Calm (s.withBindings bs) := { h with }
@[simp] theorem liftDecline (h : r.Calm s) (g : Word16) : r.Calm (s.liftDecline g) := { h with }

theorem withSweep (h : r.Calm s) {w : Sweep} (hs : w.state = s.sweep.state) (ht : w.haltTaken = s.sweep.haltTaken)
    (hl : w.lists = s.sweep.lists) : r.Calm (s.withSweep w) :=
  { h with state := hs.trans h.state, haltTaken := ht.trans h.haltTaken, lists := fun hr => hl.trans (h.lists hr) }

theorem withWorkList (h : r.Calm s) (hr : s.sweep.state = .running) (c : Channel) (is : List ModuleIndex) :
    r.Calm (s.withWorkList c is) :=
  { h with lists := fun hn => absurd (h.state.symm.trans hr) hn }

theorem foldl {α : Type} {f : State → α → State} (hf : ∀ {t : State} (a : α), r.Calm t → r.Calm (f t a)) (h : r.Calm s)
    (as : List α) : r.Calm (as.foldl f s) := by
  induction as generalizing s with
  | nil => exact h
  | cons a as ih => exact ih (hf a h)

/-! ### Outcomes and frames -/

@[simp] theorem recordOutcome (h : r.Calm s) (i : ModuleIndex) (o : SweepOutcome) (p n : Nat) :
    r.Calm (s.recordOutcome i o p n) := by
  unfold State.recordOutcome
  refine .notify (.withSweep (h.withEntry i _) ?_ ?_ ?_) _ <;> rfl

@[simp] theorem weighAppend (h : r.Calm s) (i : ModuleIndex) : r.Calm (s.weighAppend i) := by
  unfold State.weighAppend
  split
  · next ha =>
    have hr : s.sweep.state = .running := by
      simp only [State.appends, Bool.and_eq_true, beq_iff_eq] at ha
      exact ha.1.1.1.1.1.1.1
    exact (h.withWorkList hr _ _).withSweep rfl rfl rfl
  · exact h

theorem abortList (h : r.Calm s) (hr : s.sweep.state = .running) (c : Channel) : r.Calm (s.abortList c) :=
  foldl (fun i k => k.recordOutcome i _ _ _) (h.withWorkList hr c []) _

@[simp] theorem hand (h : r.Calm s) (c : Channel) (q : TxRequest) (e : Option Nat) : r.Calm (s.hand c q e) :=
  h.of_frames (.hand s c q e)
@[simp] theorem handNext (h : r.Calm s) (c : Channel) : r.Calm (s.handNext c) := h.of_frames (.handNext s c)
@[simp] theorem withdraw (h : r.Calm s) (c : Channel) : r.Calm (s.withdraw c) := h.of_frames (.withdraw s c)
@[simp] theorem dropRequests (h : r.Calm s) (c : Channel) (p : TxFrame → Bool) : r.Calm (s.dropRequests c p) :=
  h.of_frames (.dropRequests s c p)
@[simp] theorem disown (h : r.Calm s) (c : Channel) : r.Calm (s.disown c) := h.of_frames (.disown s c)
@[simp] theorem cut (h : r.Calm s) (c : Channel) : r.Calm (s.cut c) := h.of_frames (.cut s c)
@[simp] theorem letGo (h : r.Calm s) (c : Channel) : r.Calm (s.letGo c) := h.of_frames (s.letGo_frames c)
@[simp] theorem startListening (h : r.Calm s) (c : Channel) : r.Calm (s.startListening c) :=
  h.of_frames (.startListening s c)
@[simp] theorem takeBases (h : r.Calm s) (k : CanChannel) : r.Calm (s.takeBases k) := h.of_frames (.takeBases s k)
@[simp] theorem freeSlot (h : r.Calm s) (c : Channel) : r.Calm (s.freeSlot c) :=
  (h.withSlot (c := c) (x := {}) (fun _ => rfl)).of_frames (.freeSlot s c)

/-! ### The dialog -/

@[simp] theorem passOutcome (h : r.Calm s) (c : Channel) (o : SweepOutcome) : r.Calm (s.passOutcome c o) := by
  unfold State.passOutcome
  dsimp only
  (repeat' split) <;> simp (maxDischargeDepth := 30) [h]

@[simp] theorem endDialog (h : r.Calm s) (c : Channel) (o : SweepOutcome) : r.Calm (s.endDialog c o) := by
  unfold State.endDialog
  dsimp only
  (repeat' split) <;> simp (maxDischargeDepth := 30) [h]

@[simp] theorem abortSlot (h : r.Calm s) (c : Channel) : r.Calm (s.abortSlot c) := by
  unfold State.abortSlot
  (repeat' split) <;> simp (maxDischargeDepth := 30) [h]

@[simp] theorem loadResponse (h : r.Calm s) (c : Channel) : r.Calm (s.loadResponse c) := h.withSlot_same rfl

@[simp] theorem park (h : r.Calm s) (c : Channel) (hb : (r.slot c).state ≠ .free) (x : ResumePoint) : r.Calm (s.park c x) :=
  (h.withSlot_busy hb _).of_frames (.park s c x)

@[simp] theorem resumeSlot (h : r.Calm s) (c : Channel) : r.Calm (s.resumeSlot c) := by
  unfold State.resumeSlot
  split
  · next hp => simp (maxDischargeDepth := 30) [h, h.busy (c := c) (by rw [hp]; decide)]
  · exact h

@[simp] theorem enterPage (h : r.Calm s) (c : Channel) (hb : (r.slot c).state ≠ .free) (n : Nat) : r.Calm (s.enterPage c n) := by
  unfold State.enterPage
  dsimp only
  (repeat' split) <;> simp (maxDischargeDepth := 30) [h, hb]

@[simp] theorem enterErase (h : r.Calm s) (c : Channel) (hb : (r.slot c).state ≠ .free) : r.Calm (s.enterErase c) := by
  unfold State.enterErase
  dsimp only
  (repeat' split) <;> simp (maxDischargeDepth := 30) [h, hb]

@[simp] theorem afterCompleteRead (h : r.Calm s) (c : Channel) (hb : (r.slot c).state ≠ .free) : r.Calm (s.afterCompleteRead c) := by
  unfold State.afterCompleteRead
  (repeat' split) <;> simp (maxDischargeDepth := 30) [h, hb]

@[simp] theorem resolve (h : r.Calm s) (c : Channel) (x : Resolution) : r.Calm (s.resolve c x) := by
  unfold State.resolve
  split <;> simp (maxDischargeDepth := 30) [h]

@[simp] theorem settleFound (h : r.Calm s) (c : Channel) (hb : (r.slot c).state ≠ .free) (x : ProfileRef) : r.Calm (s.settleFound c x) := by
  unfold State.settleFound
  simp (maxDischargeDepth := 30) [h, hb]

@[simp] theorem enterReferred (h : r.Calm s) (c : Channel) (hb : (r.slot c).state ≠ .free) (x : Slot) : r.Calm (s.enterReferred c x) := by
  unfold State.enterReferred
  simp (maxDischargeDepth := 30) [h, hb]

@[simp] theorem refer (h : r.Calm s) (c : Channel) (hb : (r.slot c).state ≠ .free) (g : Word16) : r.Calm (s.refer c g) := by
  unfold State.refer
  dsimp only
  (repeat' split) <;> simp (maxDischargeDepth := 30) [h, hb]

@[simp] theorem settleLookup (h : r.Calm s) (c : Channel) (hb : (r.slot c).state ≠ .free) (g : Word16) : r.Calm (s.settleLookup c g) := by
  unfold State.settleLookup
  (repeat' split) <;> simp (maxDischargeDepth := 30) [h, hb]

@[simp] theorem settleProfile (h : r.Calm s) (c : Channel) (hb : (r.slot c).state ≠ .free) (g : Word16) : r.Calm (s.settleProfile c g) := by
  unfold State.settleProfile
  (repeat' split) <;> simp (maxDischargeDepth := 30) [h, hb]

@[simp] theorem resumeRefer (h : r.Calm s) (c : Channel) (hb : (r.slot c).state ≠ .free) (g : Word16) : r.Calm (s.resumeRefer c g) := by
  unfold State.resumeRefer
  dsimp only
  (repeat' split) <;> simp (maxDischargeDepth := 30) [h, hb]

@[simp] theorem settleResumed (h : r.Calm s) (c : Channel) (hb : (r.slot c).state ≠ .free) (g : Word16) (b : Bool) : r.Calm (s.settleResumed c g b) := by
  unfold State.settleResumed
  dsimp only
  (repeat' split) <;> simp (maxDischargeDepth := 30) [h, hb]

theorem busy_of_waits {x : Slot} (h : x.waitsOnReferral = true) : x.state ≠ .free := by
  intro hf
  simp [Slot.waitsOnReferral, hf] at h

@[simp] theorem wakeSlot (h : r.Calm s) (c : Channel) (g : Word16) : r.Calm (s.wakeSlot c g) := by
  unfold State.wakeSlot
  dsimp only
  split
  · next hw =>
    have hb := h.busy (busy_of_waits (Bool.and_eq_true _ _ ▸ hw).1)
    (repeat' split) <;> simp (maxDischargeDepth := 30) [h, hb]
  · exact h

@[simp] theorem wakeWaiting (h : r.Calm s) (g : Word16) : r.Calm (s.wakeWaiting g) :=
  foldl (fun c k => k.wakeSlot c g) h _

@[simp] theorem nextIdentityAttempt (h : r.Calm s) (c : Channel) (hb : (r.slot c).state ≠ .free) : r.Calm (s.nextIdentityAttempt c) := by
  unfold State.nextIdentityAttempt
  dsimp only
  (repeat' split) <;> simp (maxDischargeDepth := 30) [h, hb]

@[simp] theorem identityExpired (h : r.Calm s) (c : Channel) (hb : (r.slot c).state ≠ .free) : r.Calm (s.identityExpired c) := by
  unfold State.identityExpired
  dsimp only
  (repeat' split) <;> simp (maxDischargeDepth := 30) [h, hb]

@[simp] theorem bootExpired (h : r.Calm s) (c : Channel) : r.Calm (s.bootExpired c) := by
  have h0 : r.Calm (s.withSlot c { s.slot c with boot := none }) := h.withSlot_same rfl
  unfold State.bootExpired
  dsimp only
  split
  · exact h0
  · next hw =>
    have hb : (r.slot c).state ≠ .free := h0.busy (c := c) (fun hf => hw (by rw [hf]; decide))
    (repeat' split) <;> simp (maxDischargeDepth := 30) [h0, hb]

@[simp] theorem loadBoot (h : r.Calm s) (c : Channel) : r.Calm (s.loadBoot c) := by
  unfold State.loadBoot
  dsimp only
  split
  · exact h.bootExpired c
  · exact h.withSlot_same rfl

@[simp] theorem acceptIdentity (h : r.Calm s) (c : Channel) (hb : (r.slot c).state ≠ .free) (g : Word16) (k : ClockBytes) (f : Byte) : r.Calm (s.acceptIdentity c g k f) := by
  unfold State.acceptIdentity
  dsimp only
  (repeat' split) <;> simp (maxDischargeDepth := 30) [h, hb]

@[simp] theorem onIdReply (h : r.Calm s) (c : Channel) (g : Word16) (k : ClockBytes) (f : Byte) :
    r.Calm (s.onIdReply c g k f) := by
  unfold State.onIdReply
  split
  · next ht =>
    refine h.acceptIdentity c (h.busy fun hf => ?_) g k f
    simp [Slot.takesIdentity, hf] at ht
  · exact h

@[simp] theorem failAttempt (h : r.Calm s) (c : Channel) (hb : (r.slot c).state ≠ .free) : r.Calm (s.failAttempt c) := by
  unfold State.failAttempt
  dsimp only
  (repeat' split) <;> simp (maxDischargeDepth := 30) [h, hb]

@[simp] theorem countMerge (h : r.Calm s) (c : Channel) (m : MergeReport) : r.Calm (s.countMerge c m) := by
  cases m
  · exact h.withSweep rfl rfl rfl
  · exact h.withSweep rfl rfl rfl
  · exact h
  · refine .withSlot_same (.withSweep h ?_ ?_ ?_) ?_ <;> rfl

@[simp] theorem mergePage (h : r.Calm s) (c : Channel) (p : Profile) (i : ModuleIndex) : r.Calm (s.mergePage c p i) :=
  (foldl (fun _ k => (k.withHistory _).countMerge c _) h _).withSlot_same rfl

@[simp] theorem markGone (h : r.Calm s) (i : ModuleIndex) : r.Calm (s.markGone i) :=
  (h.withHistory _).withSweep rfl rfl rfl

@[simp] theorem afterCommit (h : r.Calm s) (c : Channel) (hb : (r.slot c).state ≠ .free) (i : ModuleIndex) (m : Bool) : r.Calm (s.afterCommit c i m) := by
  unfold State.afterCommit
  dsimp only
  (repeat' split) <;> simp (maxDischargeDepth := 30) [h, hb]

@[simp] theorem checkSum (h : r.Calm s) (c : Channel) (hb : (r.slot c).state ≠ .free) : r.Calm (s.checkSum c) := by
  unfold State.checkSum
  dsimp only
  (repeat' split) <;> simp (maxDischargeDepth := 30) [h, hb]

@[simp] theorem startBurst (h : r.Calm s) (c : Channel) (hb : (r.slot c).state ≠ .free) : r.Calm (s.startBurst c) := by
  unfold State.startBurst
  dsimp only
  simp (maxDischargeDepth := 30) [h, hb]

@[simp] theorem nextBurst (h : r.Calm s) (c : Channel) (hb : (r.slot c).state ≠ .free) : r.Calm (s.nextBurst c) := by
  unfold State.nextBurst
  (repeat' split) <;> simp (maxDischargeDepth := 30) [h, hb]

@[simp] theorem onPageHead (h : r.Calm s) (c : Channel) (n k l : Nat) (m : Bool) (w : Word16) :
    r.Calm (s.onPageHead c n k l m w) := by
  unfold State.onPageHead
  dsimp only
  split
  · next hr =>
    have hb := h.busy (c := c) (by rw [hr.1]; decide)
    (repeat' split) <;> simp (maxDischargeDepth := 30) [h, hb]
  · exact h

@[simp] theorem onSegment (h : r.Calm s) (c : Channel) (i : BitVec 3) (bs : List Byte) : r.Calm (s.onSegment c i bs) := by
  unfold State.onSegment
  dsimp only
  split
  · next hr =>
    have hb := h.busy (c := c) (by rw [hr.1]; decide)
    (repeat' split) <;> simp (maxDischargeDepth := 30) [h, hb]
  · exact h

@[simp] theorem onHoldOn (h : r.Calm s) (c : Channel) (n : Nat) : r.Calm (s.onHoldOn c n) := by
  unfold State.onHoldOn
  dsimp only
  split
  · exact h
  · split
    · exact h.withSlot_same rfl
    · exact h

@[simp] theorem onDeny (h : r.Calm s) (c : Channel) : r.Calm (s.onDeny c) := by
  unfold State.onDeny
  dsimp only
  (repeat' split) <;> simp (maxDischargeDepth := 30) [h]

@[simp] theorem onEraseDone (h : r.Calm s) (c : Channel) : r.Calm (s.onEraseDone c) := by
  unfold State.onEraseDone
  (repeat' split) <;> simp (maxDischargeDepth := 30) [h]

@[simp] theorem deliver (h : r.Calm s) (c : Channel) (v : Service) : r.Calm (s.deliver c v) := by
  unfold State.deliver
  (repeat' split) <;> simp (maxDischargeDepth := 30) [h]

@[simp] theorem waitExpired (h : r.Calm s) (c : Channel) : r.Calm (s.waitExpired c) := by
  unfold State.waitExpired
  split
  · next hs => exact h.identityExpired c (h.busy (by rw [hs]; decide))
  · next hs => exact h.failAttempt c (h.busy (by rw [hs]; decide))
  · exact h.endDialog c _
  · exact h.withSlot_same rfl

@[simp] theorem responseExpired (h : r.Calm s) (c : Channel) : r.Calm (s.responseExpired c) := by
  unfold State.responseExpired
  (repeat' split) <;> simp (maxDischargeDepth := 30) [h]

@[simp] theorem bootTimerExpired (h : r.Calm s) (c : Channel) : r.Calm (s.bootTimerExpired c) := by
  unfold State.bootTimerExpired
  (repeat' split) <;> simp (maxDischargeDepth := 30) [h]

@[simp] theorem keepAwakeExpired (h : r.Calm s) (c : Channel) : r.Calm (s.keepAwakeExpired c) := by
  unfold State.keepAwakeExpired
  dsimp only
  split
  · exact h
  · split
    · refine .hand (.withSlot_same h ?_) _ _ _
      rfl
    · refine .withSlot_same h ?_
      rfl

@[simp] theorem referralExpired (h : r.Calm s) (c : Channel) : r.Calm (s.referralExpired c) := by
  unfold State.referralExpired
  (repeat' split) <;> simp (maxDischargeDepth := 30) [h]

@[simp] theorem slotFrameSent (h : r.Calm s) (c : Channel) (f : TxFrame) : r.Calm (s.slotFrameSent c f) := by
  have hk : r.Calm (s.withSlot c ((s.slot c).restartKeepAwake (s.setting .keepAwakePeriod))) := h.withSlot_same rfl
  unfold State.slotFrameSent
  dsimp only
  (repeat' split) <;> simp (maxDischargeDepth := 30) [h, hk]

@[simp] theorem slotFrameAbandoned (h : r.Calm s) (f : TxFrame) : r.Calm (s.slotFrameAbandoned f) := by
  unfold State.slotFrameAbandoned
  split <;> simp (maxDischargeDepth := 30) [h]

@[simp] theorem haltSlot (h : r.Calm s) (c : Channel) : r.Calm (s.haltSlot c) := by
  unfold State.haltSlot
  dsimp only
  (repeat' split) <;> simp (maxDischargeDepth := 30) [h]

/-! ### The share unit -/

@[simp] theorem reopenIfClear (h : r.Calm s) (c : Channel) : r.Calm (s.reopenIfClear c) := by
  unfold State.reopenIfClear
  (repeat' split) <;> simp (maxDischargeDepth := 30) [h]

@[simp] theorem enterYielded (h : r.Calm s) (c : Channel) : r.Calm (s.enterYielded c) := by
  unfold State.enterYielded
  simp (maxDischargeDepth := 30) [h]

@[simp] theorem startYield (h : r.Calm s) (c : Channel) : r.Calm (s.startYield c) := by
  unfold State.startYield
  dsimp only
  split
  · simp (maxDischargeDepth := 30) [h]
  · next hf =>
    have hb := (h.withdraw c).busy hf
    split <;> simp (maxDischargeDepth := 30) [h, hb]

@[simp] theorem yieldSettle (h : r.Calm s) (c : Channel) : r.Calm (s.yieldSettle c) := by
  unfold State.yieldSettle
  (repeat' split) <;> simp (maxDischargeDepth := 30) [h]

@[simp] theorem enterSilence (h : r.Calm s) (c : Channel) (x : Cause) : r.Calm (s.enterSilence c x) := by
  unfold State.enterSilence
  dsimp only
  split
  · next hr => exact (abortList (by simp (maxDischargeDepth := 30) [h]) hr c).notify _
  · simp (maxDischargeDepth := 30) [h]

@[simp] theorem silence (h : r.Calm s) (c : Channel) (x : Cause) : r.Calm (s.silence c x) := by
  unfold State.silence
  (repeat' split) <;> simp (maxDischargeDepth := 30) [h]

@[simp] theorem loadHold (h : r.Calm s) (c : Channel) : r.Calm (s.loadHold c) := by
  unfold State.loadHold
  simp (maxDischargeDepth := 30) [h]

@[simp] theorem triggerOccurs (h : r.Calm s) (c : Channel) : r.Calm (s.triggerOccurs c) := by
  unfold State.triggerOccurs
  dsimp only
  (repeat' split) <;> simp (maxDischargeDepth := 30) [h]

@[simp] theorem tpresReaches (h : r.Calm s) (c : Channel) : r.Calm (s.tpresReaches c) := by
  unfold State.tpresReaches
  split <;> simp (maxDischargeDepth := 30) [h]

@[simp] theorem countAbandoned (h : r.Calm s) : r.Calm s.countAbandoned := by
  unfold State.countAbandoned
  dsimp only
  (repeat' split) <;> simp (maxDischargeDepth := 30) [h]

end State.Calm

end Sys2Proof.Machine
end

section
/-! Key-off (R15, R138, R162, R177): the modules given ABORTED and how they are counted, the frames withdrawn, and the part in
standby. -/

namespace Sys2Proof.Machine

/-! ### Notices that find room (R168) -/

theorem Link.notify_room {l : Link} (h : l.noticesHeld < 12) (n : Notice) :
    l.notify n = { l with outbound := l.outbound ++ [.notice n] } := if_pos h

theorem Link.foldl_notify_room (ns : List Notice) : ∀ {l : Link}, l.noticesHeld + ns.length ≤ 12 →
    ns.foldl Link.notify l = { l with outbound := l.outbound ++ ns.map OutFrame.notice } := by
  induction ns with
  | nil => intro l _; simp
  | cons n ns ih =>
    intro l h
    simp only [List.length_cons] at h
    have hn : (l.notify n).noticesHeld = l.noticesHeld + 1 := by
      rw [Link.notify_room (by omega)]
      simp only [Link.noticesHeld, List.filter_append, List.length_append]
      rfl
    rw [List.foldl_cons, ih (by omega), Link.notify_room (by omega)]
    simp

/-! ### Modules given ABORTED (R8) -/

/-- The end of a module's turn in an ABORTED: the module, its pages read and its sightings refused. -/
abbrev Abort : Type := ModuleIndex × Nat × Nat

/-- The notice of an ABORTED (R8). -/
def Abort.notice (e : Abort) : Notice := .moduleEnd e.1 .aborted e.2.1 e.2.2

/-- In the table, the notices and the sweep controller but for its lists, `t` is `s` with these modules given ABORTED in
order (R8). -/
structure State.Recorded (s : State) (es : List Abort) (t : State) : Prop where
  sweep : t.sweep = { s.sweep with lists := t.sweep.lists, reached := t.sweep.reached, counts := t.sweep.counts }
  entry : ∀ i, t.entry i =
    if i ∈ es.map Prod.fst then { s.entry i with lastOutcome := some .aborted, lastSweep := s.sweep.number }
    else s.entry i
  reached : ∀ i : ModuleIndex, t.sweep.reached[i] = (s.sweep.reached[i] || decide (i ∈ es.map Prod.fst))
  counts : t.sweep.counts = s.sweep.counts.set 10 ((satSucc 255)^[es.length] s.sweep.counts[10])
  link : t.link = (es.map Abort.notice).foldl Link.notify s.link

/-- A state whose table, notices and controller, lists excepted, are those of another. -/
theorem State.Recorded.of_same {s t : State} (hw : t.sweep = { s.sweep with lists := t.sweep.lists })
    (he : t.table = s.table) (hl : t.link = s.link) : s.Recorded [] t := by
  refine ⟨?_, fun i => ?_, fun i => ?_, ?_, hl⟩
  · rw [hw]
  · simpa using State.entry_congr he i
  · rw [hw]; simp
  · rw [hw]; simp

theorem State.Recorded.append {s t u : State} {es fs : List Abort} (h : s.Recorded es t) (k : t.Recorded fs u) :
    s.Recorded (es ++ fs) u := by
  have hn : t.sweep.number = s.sweep.number := by rw [h.sweep]
  refine ⟨?_, fun i => ?_, fun i => ?_, ?_, ?_⟩
  · rw [k.sweep, h.sweep]
  · rw [k.entry i, h.entry i, hn]
    by_cases hi : i ∈ fs.map Prod.fst <;> by_cases hj : i ∈ es.map Prod.fst <;> simp only [hi, hj, List.map_append,
      List.mem_append, or_true, or_false, if_true, if_false]
  · rw [k.reached i, h.reached i, List.map_append]
    simp only [List.mem_append, Bool.decide_or, Bool.or_assoc]
  · rw [k.counts, h.counts]
    simp [← Function.iterate_add_apply, Nat.add_comm]
  · rw [k.link, h.link, List.map_append, List.foldl_append]

theorem State.Recorded.recordOutcome (s : State) (i : ModuleIndex) (p n : Nat) :
    s.Recorded [(i, p, n)] (s.recordOutcome i .aborted p n) := by
  refine ⟨rfl, fun j => ?_, fun j => ?_, ?_, rfl⟩
  · by_cases hj : j = i
    · subst hj
      simp [State.recordOutcome, State.entry, State.withEntry, State.withSweep, State.notify, State.withLink]
    · simp [State.recordOutcome, State.entry, State.withEntry, State.withSweep, State.notify, State.withLink, hj,
        Fin.val_ne_of_ne (Ne.symm hj)]
  · by_cases hj : j = i
    · subst hj
      simp [State.recordOutcome]
    · simp [State.recordOutcome, hj, Fin.val_ne_of_ne (Ne.symm hj)]
  · simp [State.recordOutcome, SweepOutcome.index]

/-- What follows an outcome and leaves table, notices and controller alone. -/
theorem State.Recorded.then_same {s t u : State} {es : List Abort} (h : s.Recorded es t)
    (hw : u.sweep = { t.sweep with lists := u.sweep.lists }) (he : u.table = t.table) (hl : u.link = t.link) :
    s.Recorded es u := by
  simpa using h.append (.of_same hw he hl)

/-! ### A busy slot aborted (R50) -/

/-- The ABORTED of the dialog in a channel's slot, if the slot is busy with a module. -/
def State.slotAbort (s : State) (c : Channel) : List Abort :=
  if (s.slot c).state = .free then []
  else ((s.slot c).module.map (fun i => (i, (s.slot c).pagesRead, (s.slot c).refused))).toList

theorem State.weighAppend_of_standby {s : State} (h : ∀ c, s.shareState c = .standby) (i : ModuleIndex) :
    s.weighAppend i = s := by
  simp [State.weighAppend, State.appends, h]

theorem State.share_freeSlot (s : State) (c : Channel) : (s.freeSlot c).share = s.share := (FramesOnly.freeSlot s c).share
theorem State.sweep_freeSlot (s : State) (c : Channel) : (s.freeSlot c).sweep = s.sweep := (FramesOnly.freeSlot s c).sweep
theorem State.table_freeSlot (s : State) (c : Channel) : (s.freeSlot c).table = s.table := (FramesOnly.freeSlot s c).table
theorem State.link_freeSlot (s : State) (c : Channel) : (s.freeSlot c).link = s.link := (FramesOnly.freeSlot s c).link

theorem State.slot_freeSlot (s : State) (c : Channel) : (s.freeSlot c).slot c = {} := by
  rw [State.slot_congr (FramesOnly.freeSlot s c).slots, State.slot_withSlot]

theorem State.slot_freeSlot_other (s : State) {c d : Channel} (hd : d ≠ c) : (s.freeSlot c).slot d = s.slot d := by
  rw [State.slot_congr (FramesOnly.freeSlot s c).slots, State.slot_withSlot_other s hd]

/-- The outcome of a dialog passed while every channel stands by: recorded, and the slot FREE (R8, R44). -/
theorem State.passOutcome_of_standby {s : State} (h : ∀ c, s.shareState c = .standby) (c : Channel) (o : SweepOutcome) :
    s.passOutcome c o =
      match (s.slot c).module with
      | none => s.freeSlot c
      | some i => (s.recordOutcome i o (s.slot c).pagesRead (s.slot c).refused).freeSlot c := by
  unfold State.passOutcome
  dsimp only
  cases (s.slot c).module with
  | none => rfl
  | some i =>
    dsimp only
    have hst : ∀ d, ((s.recordOutcome i o (s.slot c).pagesRead (s.slot c).refused).freeSlot c).shareState d = .standby :=
      fun d => (State.shareState_congr (State.share_freeSlot _ c) d).trans (h d)
    rw [State.weighAppend_of_standby hst]
    exact ite_self _

/-- The slot of a channel aborted while every channel stands by (R50). -/
theorem State.abortSlot_of_standby {s : State} (h : ∀ c, s.shareState c = .standby) (c : Channel) :
    s.Recorded (s.slotAbort c) (s.abortSlot c) ∧ (s.abortSlot c).share = s.share
      ∧ (s.abortSlot c).sweep.lists = s.sweep.lists
      ∧ ((s.abortSlot c).slot c).state = .free ∧ ((s.slot c).state ≠ .free → (s.abortSlot c).slot c = {})
      ∧ ∀ d, d ≠ c → (s.abortSlot c).slot d = s.slot d := by
  have hf := (FramesOnly.withdraw s c).trans (.disown _ c)
  set u := (s.withdraw c).disown c with hu
  have hus : u.slot c = s.slot c := State.slot_congr hf.slots c
  have hstand : ∀ d, u.shareState d = .standby := fun d => (State.shareState_congr hf.share d).trans (h d)
  have hrec : s.Recorded [] u := .of_same (by rw [hf.sweep]) hf.table hf.link
  by_cases hfree : (s.slot c).state = .free
  · rw [State.abortSlot, if_pos hfree]
    refine ⟨?_, rfl, rfl, hfree, fun hn => absurd hfree hn, fun _ _ => rfl⟩
    rw [State.slotAbort, if_pos hfree]
    exact .of_same rfl rfl rfl
  · rw [State.abortSlot, if_neg hfree, ← hu, State.passOutcome_of_standby hstand, hus, State.slotAbort, if_neg hfree]
    cases hm : (s.slot c).module with
    | none =>
      refine ⟨hrec.then_same (by rw [State.sweep_freeSlot]) (State.table_freeSlot _ _) (State.link_freeSlot _ _),
        by rw [State.share_freeSlot, hf.share], by rw [State.sweep_freeSlot, hf.sweep], by rw [State.slot_freeSlot],
        fun _ => State.slot_freeSlot _ _, fun d hd => ?_⟩
      rw [State.slot_freeSlot_other _ hd, State.slot_congr hf.slots]
    | some i =>
      refine ⟨(hrec.append (.recordOutcome u i _ _)).then_same (by rw [State.sweep_freeSlot]) (State.table_freeSlot _ _)
          (State.link_freeSlot _ _),
        by rw [State.share_freeSlot]; exact hf.share, by rw [State.sweep_freeSlot]; show u.sweep.lists = _; rw [hf.sweep],
        by rw [State.slot_freeSlot], fun _ => State.slot_freeSlot _ _, fun d hd => ?_⟩
      rw [State.slot_freeSlot_other _ hd]
      exact State.slot_congr hf.slots d

/-! ### A work list aborted (R10, R15) -/

/-- The ABORTEDs of the modules on a work list. -/
def State.listAbort (s : State) (c : Channel) : List Abort := (s.workList c).map (fun i => (i, 0, 0))

theorem State.Recorded.foldl (is : List ModuleIndex) : ∀ s : State,
    s.Recorded (is.map (fun i => (i, 0, 0))) (is.foldl (fun s i => s.recordOutcome i .aborted 0 0) s) := by
  induction is with
  | nil => exact fun s => .of_same rfl rfl rfl
  | cons i is ih => exact fun s => (Recorded.recordOutcome s i 0 0).append (ih _)

/-- Outcomes recorded leave all but the table, the notices and the controller's marks and counts. -/
theorem State.recordOutcomes_keep (is : List ModuleIndex) : ∀ s : State,
    s.SweepOnly (is.foldl (fun s i => s.recordOutcome i .aborted 0 0) s)
      ∧ (is.foldl (fun s i => s.recordOutcome i .aborted 0 0) s).sweep.lists = s.sweep.lists := by
  induction is with
  | nil => exact fun s => ⟨.refl s, rfl⟩
  | cons i is ih => exact fun s => ⟨(show s.SweepOnly _ from ⟨_, _, _, rfl⟩).trans (ih _).1, (ih _).2⟩

theorem State.abortList_recorded (s : State) (c : Channel) :
    s.Recorded (s.listAbort c) (s.abortList c) ∧ s.SweepOnly (s.abortList c)
      ∧ (s.abortList c).sweep.lists = s.sweep.lists.set c [] := by
  have hk := State.recordOutcomes_keep (s.workList c) (s.withWorkList c [])
  refine ⟨?_, (show s.SweepOnly _ from ⟨_, _, _, rfl⟩).trans hk.1, hk.2⟩
  exact (State.Recorded.of_same (s := s) (t := s.withWorkList c []) rfl rfl rfl).append (.foldl (s.workList c) _)

/-! ### No frame of the part (R23, R131) -/

/-- No frame of the part waits or is to be handed on any channel, and none is in progress on CAN. -/
structure State.NoFrames (s : State) : Prop where
  waiting : ∀ c, s.waitingFrames c = []
  can : ∀ k, (s.canCtl k).holding = .empty
  line : s.line.holding = none

theorem State.NoFrames.of_same {s t : State} (h : s.NoFrames) (hw : t.toHand = s.toHand) (hk : t.can = s.can)
    (hl : t.line = s.line) : t.NoFrames :=
  ⟨fun c => by rw [State.waitingFrames, hw]; exact h.waiting c, fun k => by rw [State.canCtl, hk]; exact h.can k,
    by rw [hl]; exact h.line⟩

theorem State.NoFrames.of_sweepOnly {s t : State} (h : s.NoFrames) (k : s.SweepOnly t) : t.NoFrames :=
  h.of_same k.toHand k.can k.line

/-- `t` is `s` but for the frames and the controller of one channel. -/
structure State.FramesOf (c : Channel) (s t : State) : Prop where
  only : s.FramesOnly t
  waiting : ∀ d, d ≠ c → t.waitingFrames d = s.waitingFrames d
  can : ∀ k : CanChannel, k.toChannel ≠ c → t.canCtl k = s.canCtl k
  line : c ≠ .s → t.line = s.line

namespace State.FramesOf

variable {c : Channel} {s t u : State}

theorem refl (s : State) : State.FramesOf c s s := ⟨.refl s, fun _ _ => rfl, fun _ _ => rfl, fun _ => rfl⟩

theorem trans (h : State.FramesOf c s t) (k : State.FramesOf c t u) : State.FramesOf c s u :=
  ⟨h.only.trans k.only, fun d hd => (k.waiting d hd).trans (h.waiting d hd),
    fun x hx => (k.can x hx).trans (h.can x hx), fun hc => (k.line hc).trans (h.line hc)⟩

theorem withWaitingFrames (s : State) (c : Channel) (fs : List TxFrame) :
    State.FramesOf c s (s.withWaitingFrames c fs) :=
  ⟨.withWaitingFrames _ _ _, fun _ hd => s.waitingFrames_withWaitingFrames_other hd fs, fun _ _ => rfl, fun _ => rfl⟩

theorem withCan (s : State) {k : CanChannel} (hk : canOf c = some k) (x : Can) : State.FramesOf c s (s.withCan k x) := by
  refine ⟨.withCan _ _ _, fun _ _ => rfl, fun j hj => PerCan.get_set_other _ (fun hjk => hj ?_) x, fun _ => rfl⟩
  subst hjk
  cases c <;> cases hk <;> rfl

theorem withLine (s : State) (x : Line) : State.FramesOf .s s (s.withLine x) :=
  ⟨.withLine _ _, fun _ _ => rfl, fun _ _ => rfl, fun hc => absurd rfl hc⟩

theorem putHolding (s : State) (c : Channel) (f : TxFrame) : State.FramesOf c s (s.putHolding c f) := by
  cases c
  · exact withCan s rfl _
  · exact withCan s rfl _
  · exact withLine s _

theorem handNext (s : State) (c : Channel) : State.FramesOf c s (s.handNext c) := by
  unfold State.handNext
  split
  · exact refl s
  · split
    · exact (withWaitingFrames s c _).trans (putHolding _ c _)
    · exact refl s

theorem hand (s : State) (c : Channel) (r : TxRequest) (e : Option Nat) : State.FramesOf c s (s.hand c r e) :=
  (withWaitingFrames s c _).trans (handNext _ c)

theorem emptyHolding (s : State) (c : Channel) : State.FramesOf c s (s.emptyHolding c) := by
  cases c <;> simp only [State.emptyHolding, canOf]
  · split
    · exact withCan s rfl _
    · exact refl s
  · split
    · exact withCan s rfl _
    · exact refl s
  · exact withLine s _

theorem withdraw (s : State) (c : Channel) : State.FramesOf c s (s.withdraw c) :=
  (withWaitingFrames s c _).trans (emptyHolding _ c)

theorem dropRequests (s : State) (c : Channel) (p : TxFrame → Bool) : State.FramesOf c s (s.dropRequests c p) := by
  unfold State.dropRequests
  dsimp only
  refine (withWaitingFrames s c ((s.waitingFrames c).filter (fun f => !f.isOwnRequest))).trans ?_
  split
  · split
    · exact emptyHolding _ c
    · exact refl _
  · exact refl _

theorem disown (s : State) (c : Channel) : State.FramesOf c s (s.disown c) := by
  refine (withWaitingFrames s c ((s.waitingFrames c).map TxFrame.disown)).trans ?_
  cases c
  · exact withCan _ rfl _
  · exact withCan _ rfl _
  · exact withLine _ _

theorem standDown (s : State) (c : Channel) : State.FramesOf c s (s.standDown c) := by
  cases c
  · exact withCan _ rfl _
  · exact withCan _ rfl _
  · exact withLine _ _

theorem stopListening (s : State) (c : Channel) : State.FramesOf c s (s.stopListening c) := by
  cases c
  · exact withCan _ rfl _
  · exact withCan _ rfl _
  · exact withLine _ _

theorem letGo (s : State) (c : Channel) : State.FramesOf c s (s.letGo c) := by
  cases c
  · exact withCan _ rfl _
  · exact withCan _ rfl _
  · exact refl s

theorem startListening (s : State) (c : Channel) : State.FramesOf c s (s.startListening c) := by
  cases c
  · exact refl s
  · exact refl s
  · simp only [State.startListening]
    split
    · exact withLine s _
    · exact refl s

theorem freeSlot (s : State) (c : Channel) : State.FramesOf c (s.withSlot c {}) (s.freeSlot c) := by
  cases c
  · exact (stopListening _ _).trans (withCan _ rfl _)
  · exact (stopListening _ _).trans (withCan _ rfl _)
  · exact stopListening _ _

end State.FramesOf

/-- A holding whose unstarted frame is withdrawn (R23). -/
def Holding.withdrawn : Holding → Holding
  | .waiting _ => .empty
  | h => h

theorem State.canCtl_withdraw (s : State) (k : CanChannel) :
    (s.withdraw k.toChannel).canCtl k = { s.canCtl k with holding := (s.canCtl k).holding.withdrawn } := by
  have hc : ∀ fs, (s.withWaitingFrames k.toChannel fs).canCtl k = s.canCtl k := fun _ => rfl
  have ho : canOf k.toChannel = some k := by cases k <;> rfl
  simp only [State.withdraw, State.emptyHolding, ho, hc]
  split
  · next h => simp [h, Holding.withdrawn]
  · next h =>
    have hw : (s.canCtl k).holding.withdrawn = (s.canCtl k).holding := by
      cases hh : (s.canCtl k).holding with
      | waiting f => exact absurd hh (h f)
      | empty => rfl
      | inProgress f b => rfl
    rw [hw, hc]

theorem State.canCtl_standDown (s : State) (k : CanChannel) : (s.standDown k.toChannel).canCtl k = (s.canCtl k).cut := by
  cases k <;> rfl

theorem Line.holding_standDown (l : Line) (bits : Nat) : (l.standDown bits).holding = l.holding := by
  unfold Line.standDown Line.cut
  cases l.transmitter <;> rfl

/-- No frame of the part waits on this channel, and none is in progress on CAN. -/
def State.bare (s : State) (c : Channel) : Prop :=
  s.waitingFrames c = [] ∧ (∀ k : CanChannel, k.toChannel = c → (s.canCtl k).holding = .empty)
    ∧ (c = .s → s.line.holding = none)

theorem State.bare_of_framesOf {s t : State} {c d : Channel} (h : State.FramesOf c s t) (hd : d ≠ c) (hb : s.bare d) :
    t.bare d := by
  refine ⟨(h.waiting d hd).trans hb.1, fun k hk => ?_, fun hs => ?_⟩
  · rw [h.can k (hk ▸ hd)]
    exact hb.2.1 k hk
  · rw [h.line (fun hc => hd (hs.trans hc.symm))]
    exact hb.2.2 hs

theorem State.waitingFrames_withdraw (s : State) (c : Channel) : (s.withdraw c).waitingFrames c = [] :=
  (State.waitingFrames_emptyHolding _ c).trans (State.waitingFrames_withWaitingFrames s c [])

theorem State.waitingFrames_standDown (s : State) (c : Channel) : (s.standDown c).waitingFrames c = s.waitingFrames c := by
  cases c <;> rfl

theorem Can.holding_cut (k : Can) (h : ∀ f, k.holding ≠ .waiting f) : k.cut.holding = .empty := by
  unfold Can.cut
  cases hk : k.holding with
  | empty => exact hk
  | waiting f => exact absurd hk (h f)
  | inProgress f b => rfl

theorem State.bare_standDown (s : State) (c : Channel) : ((s.withdraw c).standDown c).bare c := by
  refine ⟨?_, fun k hk => ?_, fun hs => ?_⟩
  · rw [State.waitingFrames_standDown, State.waitingFrames_withdraw]
  · subst hk
    rw [State.canCtl_standDown, State.canCtl_withdraw]
    refine Can.holding_cut _ (fun f => ?_)
    cases (s.canCtl k).holding <;> exact fun h => Holding.noConfusion h
  · subst hs
    exact Line.holding_standDown _ _

theorem State.noFrames_of_bare {s : State} (h : ∀ c, s.bare c) : s.NoFrames :=
  ⟨fun c => (h c).1, fun k => (h k.toChannel).2.1 k rfl, (h .s).2.2 rfl⟩

theorem State.NoFrames.bare {s : State} (h : s.NoFrames) (c : Channel) : s.bare c :=
  ⟨h.waiting c, fun k _ => h.can k, fun _ => h.line⟩

/-- Each channel's frames withdrawn and what it drives ended, none is left (R131, R138, R142). -/
theorem State.noFrames_standDown (s : State) :
    (allChannels.foldl (fun s c => (s.withdraw c).standDown c) s).NoFrames := by
  have hf : ∀ (u : State) (c : Channel), State.FramesOf c u ((u.withdraw c).standDown c) :=
    fun u c => (FramesOf.withdraw u c).trans (.standDown _ c)
  refine State.noFrames_of_bare (fun c => ?_)
  simp only [allChannels, List.foldl_cons, List.foldl_nil]
  cases c
  · exact State.bare_of_framesOf (hf _ .s) (by decide) (State.bare_of_framesOf (hf _ .b) (by decide)
      (State.bare_standDown _ _))
  · exact State.bare_of_framesOf (hf _ .s) (by decide) (State.bare_standDown _ _)
  · exact State.bare_standDown _ _

/-- An aborted slot hands nothing (R50). -/
theorem State.NoFrames.abortSlot {s : State} (h : s.NoFrames) (hs : ∀ c, s.shareState c = .standby) (c : Channel) :
    (s.abortSlot c).NoFrames := by
  have hfree : ∀ u : State, u.NoFrames → (u.freeSlot c).NoFrames := by
    intro u hu
    have hw : (u.withSlot c {}).NoFrames := hu.of_same rfl rfl rfl
    refine State.noFrames_of_bare (fun d => ?_)
    by_cases hd : d = c
    · subst hd
      obtain ⟨h1, h2, h3⟩ := hu.bare d
      cases d
      · exact ⟨h1, fun k hk => by cases k <;> [exact h2 .a rfl; cases hk], nofun⟩
      · exact ⟨h1, fun k hk => by cases k <;> [cases hk; exact h2 .b rfl], nofun⟩
      · exact ⟨h1, fun k hk => (by cases k <;> cases hk), fun _ => h3 rfl⟩
    · exact State.bare_of_framesOf (.freeSlot u c) hd (hw.bare d)
  have hdis : ((s.withdraw c).disown c).NoFrames := by
    refine State.noFrames_of_bare (fun d => ?_)
    by_cases hd : d = c
    · subst hd
      have hw : (s.withdraw d).waitingFrames d = [] := State.waitingFrames_withdraw s d
      have hk : ∀ k : CanChannel, k.toChannel = d → ((s.withdraw d).canCtl k).holding = .empty := by
        intro k hk
        subst hk
        rw [State.canCtl_withdraw]
        simp [h.can k, Holding.withdrawn]
      cases d
      · exact ⟨congrArg (List.map TxFrame.disown) hw,
          fun k hk' => by cases k <;> [exact congrArg Holding.disown (hk .a rfl); cases hk'], nofun⟩
      · exact ⟨congrArg (List.map TxFrame.disown) hw,
          fun k hk' => by cases k <;> [cases hk'; exact congrArg Holding.disown (hk .b rfl)], nofun⟩
      · exact ⟨congrArg (List.map TxFrame.disown) hw, fun k hk' => (by cases k <;> cases hk'), fun _ => rfl⟩
    · exact State.bare_of_framesOf ((FramesOf.withdraw s c).trans (.disown _ c)) hd (h.bare d)
  unfold State.abortSlot
  split
  · exact h
  · rw [State.passOutcome_of_standby (fun d => (State.shareState_congr
      ((FramesOnly.withdraw s c).trans (.disown _ c)).share d).trans (hs d))]
    split
    · exact hfree _ hdis
    · exact hfree _ (hdis.of_same rfl rfl rfl)

end Sys2Proof.Machine
end

section
/-! Key-off as one whole (R15, R138, R162, R177). -/

namespace Sys2Proof.Machine

/-! ### The steps of standby -/

/-- Every busy slot aborted while every channel stands by, in the order A, B, S (R50, R162). -/
theorem State.abortSlots_of_standby {s : State} (h : ∀ c, s.shareState c = .standby) :
    s.Recorded (s.slotAbort .a ++ s.slotAbort .b ++ s.slotAbort .s) (allChannels.foldl State.abortSlot s)
      ∧ (allChannels.foldl State.abortSlot s).share = s.share
      ∧ (allChannels.foldl State.abortSlot s).sweep.lists = s.sweep.lists
      ∧ (∀ c, ((allChannels.foldl State.abortSlot s).slot c).state = .free)
      ∧ (∀ c, (s.slot c).state ≠ .free → (allChannels.foldl State.abortSlot s).slot c = {})
      ∧ (s.NoFrames → (allChannels.foldl State.abortSlot s).NoFrames) := by
  simp only [allChannels, List.foldl_cons, List.foldl_nil]
  obtain ⟨ra, sa, la, fa, ea, oa⟩ := State.abortSlot_of_standby h .a
  have ha : ∀ c, (s.abortSlot .a).shareState c = .standby := fun c => (State.shareState_congr sa c).trans (h c)
  obtain ⟨rb, sb, lb, fb, eb, ob⟩ := State.abortSlot_of_standby ha .b
  have hb : ∀ c, ((s.abortSlot .a).abortSlot .b).shareState c = .standby :=
    fun c => (State.shareState_congr sb c).trans (ha c)
  obtain ⟨rs, ss, ls, fs, es, os⟩ := State.abortSlot_of_standby hb .s
  have xb : (s.abortSlot .a).slot .b = s.slot .b := oa .b (by decide)
  have xs : ((s.abortSlot .a).abortSlot .b).slot .s = s.slot .s := (ob .s (by decide)).trans (oa .s (by decide))
  have ta : (((s.abortSlot .a).abortSlot .b).abortSlot .s).slot .a = (s.abortSlot .a).slot .a :=
    (os .a (by decide)).trans (ob .a (by decide))
  have tb : (((s.abortSlot .a).abortSlot .b).abortSlot .s).slot .b = ((s.abortSlot .a).abortSlot .b).slot .b :=
    os .b (by decide)
  refine ⟨?_, ss.trans (sb.trans sa), ls.trans (lb.trans la), fun c => ?_, fun c hc => ?_,
    fun hn => ((hn.abortSlot h _).abortSlot ha _).abortSlot hb _⟩
  · have hrb : (s.abortSlot .a).slotAbort .b = s.slotAbort .b := by simp only [State.slotAbort, xb]
    have hrs : ((s.abortSlot .a).abortSlot .b).slotAbort .s = s.slotAbort .s := by simp only [State.slotAbort, xs]
    exact hrs ▸ hrb ▸ (ra.append rb).append rs
  · cases c
    · rw [ta]; exact fa
    · rw [tb]; exact fb
    · exact fs
  · cases c
    · rw [ta]; exact ea hc
    · rw [tb]; exact eb (by rwa [xb])
    · exact es (by rwa [xs])

/-- Every work list aborted, in the order A, B, S (R15). -/
theorem State.abortLists (s : State) :
    s.Recorded (s.listAbort .a ++ s.listAbort .b ++ s.listAbort .s) (allChannels.foldl State.abortList s)
      ∧ s.SweepOnly (allChannels.foldl State.abortList s)
      ∧ ∀ c, (allChannels.foldl State.abortList s).workList c = [] := by
  simp only [allChannels, List.foldl_cons, List.foldl_nil]
  obtain ⟨ra, oa, la⟩ := s.abortList_recorded .a
  obtain ⟨rb, ob, lb⟩ := (s.abortList .a).abortList_recorded .b
  obtain ⟨rs, os, ls⟩ := ((s.abortList .a).abortList .b).abortList_recorded .s
  have hlb : (s.abortList .a).listAbort .b = s.listAbort .b := by
    simp only [State.listAbort, State.workList, la]; rfl
  have hls : ((s.abortList .a).abortList .b).listAbort .s = s.listAbort .s := by
    simp only [State.listAbort, State.workList, lb, la]; rfl
  refine ⟨hls ▸ hlb ▸ (ra.append rb).append rs, (oa.trans ob).trans os, fun c => ?_⟩
  simp only [State.workList, ls, lb, la]
  cases c <;> rfl

/-- Every channel in STANDBY, and nothing else changed (R162). -/
theorem State.allStandby_eq (s : State) : ∃ h : Share, s.allStandby = { s with share := h }
    ∧ h.tpresActive = s.share.tpresActive ∧ h.debounce = s.share.debounce
    ∧ ∀ c, h.channels.get c = { s.shareOf c with state := .standby, causes := {} } := by
  refine ⟨_, rfl, rfl, rfl, fun c => ?_⟩
  cases c <;> rfl

theorem State.FramesOnly.foldl_standDown (cs : List Channel) : ∀ s : State,
    s.FramesOnly (cs.foldl (fun s c => (s.withdraw c).standDown c) s) := by
  induction cs with
  | nil => exact .refl
  | cons c cs ih => exact fun s => ((FramesOnly.withdraw s c).trans (.standDown _ c)).trans (ih _)

/-- The CAN controllers put into standby (R138). -/
theorem State.foldl_canStandby (s : State) :
    s.FramesOnly (allCanChannels.foldl State.canStandby s)
      ∧ (allCanChannels.foldl State.canStandby s).toHand = s.toHand
      ∧ (allCanChannels.foldl State.canStandby s).line = s.line
      ∧ ∀ k, ∃ b b', (allCanChannels.foldl State.canStandby s).canCtl k =
          { (s.canCtl k).atKeyOff (s.setting (paceSetting k)) with requestBase := b, responseBase := b' } := by
  refine ⟨⟨_, _, _, rfl⟩, rfl, rfl, fun k => ?_⟩
  cases k <;> exact ⟨_, _, rfl⟩

end Sys2Proof.Machine

namespace Sys2Proof.Claim

open Sys2Proof.Machine

/-- The ABORTEDs of a key-off, in their order (R15, R50, R162). -/
def keyOffAborts (s : State) : List Abort :=
  (s.slotAbort .a ++ s.slotAbort .b ++ s.slotAbort .s) ++ (s.listAbort .a ++ s.listAbort .b ++ s.listAbort .s)

theorem keyOffEnds_eq (s : State) : keyOffEnds s = ((keyOffAborts s).map Abort.notice).map OutFrame.notice := by
  have hslot : ∀ c, ((s.slotAbort c).map Abort.notice).map OutFrame.notice =
      (if (s.slot c).state = .free then none
      else (s.slot c).module.map (fun i =>
        OutFrame.notice (.moduleEnd i .aborted (s.slot c).pagesRead (s.slot c).refused))).toList := by
    intro c
    unfold State.slotAbort
    split
    · rfl
    · cases (s.slot c).module <;> rfl
  have hlist : ∀ c, ((s.listAbort c).map Abort.notice).map OutFrame.notice =
      (s.workList c).map (fun i => OutFrame.notice (.moduleEnd i .aborted 0 0)) := by
    intro c
    simp [State.listAbort, Abort.notice, Function.comp_def]
  simp only [keyOffEnds, keyOffAborts, List.map_append, hslot, hlist, List.filterMap_eq_flatMap_toList,
    List.flatMap_cons, List.flatMap_nil, List.append_nil, List.append_assoc]

theorem mem_keyOffAborts (s : State) (i : ModuleIndex) :
    i ∈ (keyOffAborts s).map Prod.fst ↔ s.inSlot i = true ∨ s.listed i = true := by
  have hslot : ∀ c, i ∈ (s.slotAbort c).map Prod.fst ↔ (s.slot c).state ≠ .free ∧ (s.slot c).module = some i := by
    intro c
    unfold State.slotAbort
    split
    · next h => simp [h]
    · next h => cases hm : (s.slot c).module <;> simp [h, eq_comm]
  have hlist : ∀ c, i ∈ (s.listAbort c).map Prod.fst ↔ i ∈ s.workList c := by
    intro c
    simp [State.listAbort, Function.comp_def]
  simp only [keyOffAborts, List.map_append, List.mem_append, hslot, hlist, State.inSlot, State.listed, allChannels,
    List.any_cons, List.any_nil, Bool.or_eq_true, Bool.and_eq_true, decide_eq_true_iff, beq_iff_eq,
    List.contains_iff_mem, Bool.or_false, or_assoc]

theorem State.history_weighAppend (s : State) (i : ModuleIndex) : (s.weighAppend i).history = s.history := by
  unfold State.weighAppend
  split <;> rfl

/-- An outcome passed leaves the history (R44). -/
theorem State.history_passOutcome (s : State) (c : Channel) (o : SweepOutcome) : (s.passOutcome c o).history = s.history := by
  have hf : ∀ u : State, (u.freeSlot c).history = u.history := fun u => (State.FramesOnly.freeSlot u c).history
  unfold State.passOutcome
  dsimp only
  split
  · exact hf s
  · split
    · rw [State.history_weighAppend, hf]; rfl
    · rw [hf]; rfl

theorem State.history_abortSlot (s : State) (c : Channel) : (s.abortSlot c).history = s.history := by
  unfold State.abortSlot
  split
  · rfl
  · rw [State.history_passOutcome, (State.FramesOnly.disown _ c).history, (State.FramesOnly.withdraw s c).history]

/-- What standby leaves of the sweep controller, the table and the notices: a sweep has ended with KEY_OFF after its
ABORTEDs, and an idle controller is not reached (R15). -/
def sweepStoodDown (s t : State) : Prop :=
  if s.sweep.state = .idle then t.sweep = s.sweep ∧ t.table = s.table ∧ t.link = s.link
  else ∃ u, s.Recorded (keyOffAborts s) u ∧ (∀ c, u.workList c = []) ∧ t.table = u.table
    ∧ t.sweep = { u.sweep with state := .idle, haltTaken := false }
    ∧ t.link = u.link.notify (.sweepEnd .keyOff u.sweep.number u.sweep.kind u.sweep.counts u.sweep.created
        u.sweep.updated u.sweep.refused)

/-- The part in standby (R15, R138, R139, R162). -/
structure StandsBy (s t : State) : Prop where
  share : ∀ c, t.shareOf c = { s.shareOf c with state := .standby, causes := {} }
  tgnt : t.share.tgnt = false
  pneed : t.share.pneed = false
  free : ∀ c, (t.slot c).state = .free
  cleared : ∀ c, (s.slot c).state ≠ .free → t.slot c = {}
  frames : t.NoFrames
  can : ∀ k, ∃ (x : Can) (p b b' : Nat), t.canCtl k = { x.atKeyOff p with requestBase := b, responseBase := b' }
  line : ∃ l : Line, t.line = l.atKeyOff
  sweep : sweepStoodDown s t
  history : t.history = s.history
  key : t.key = s.key

/-- The notices and the controller of a standby, from the slots aborted and the lists aborted after them (R15). -/
theorem sweepStoodDown_keyOffSweep {s u : State} (hr : SweepRests s)
    (hu : s.Recorded (s.slotAbort .a ++ s.slotAbort .b ++ s.slotAbort .s) u) (hl : u.sweep.lists = s.sweep.lists) :
    sweepStoodDown s u.keyOffSweep ∧ u.SweepOnly u.keyOffSweep := by
  have hstate : u.sweep.state = s.sweep.state := by rw [hu.sweep]
  unfold sweepStoodDown State.keyOffSweep
  rw [hstate]
  by_cases hi : s.sweep.state = .idle
  · rw [if_pos hi, if_pos hi]
    obtain ⟨_, hfree⟩ := hr.1 hi
    have hno : s.slotAbort .a ++ s.slotAbort .b ++ s.slotAbort .s = [] := by
      simp [State.slotAbort, (hfree _).2]
    rw [hno] at hu
    refine ⟨⟨?_, ?_, hu.link⟩, .refl u⟩
    · rw [hu.sweep, hl]
      have hreach : u.sweep.reached = s.sweep.reached :=
        Vector.ext (fun i hi => by simpa using hu.reached ⟨i, hi⟩)
      rw [hreach, hu.counts]
      simp
    · exact Vector.ext (fun i hi => by simpa [State.entry] using hu.entry ⟨i, hi⟩)
  · rw [if_neg hi, if_neg hi]
    obtain ⟨hrec, honly, hempty⟩ := u.abortLists
    have hlist : ∀ c, u.listAbort c = s.listAbort c := by
      intro c
      rw [State.listAbort, State.listAbort, State.workList_congr hl]
    rw [hlist, hlist, hlist] at hrec
    exact ⟨⟨_, hu.append hrec, hempty, rfl, rfl, rfl⟩, honly.trans (.endSweep _ _)⟩

/-- The last of standby: the line controller's and the outputs (R139, R160). -/
theorem standsBy_of_channels {s u : State} (hshare : ∀ c, u.shareOf c = { s.shareOf c with state := .standby, causes := {} })
    (hfree : ∀ c, (u.slot c).state = .free) (hclear : ∀ c, (s.slot c).state ≠ .free → u.slot c = {})
    (hframes : u.NoFrames)
    (hcan : ∀ k, ∃ (x : Can) (p b b' : Nat), u.canCtl k = { x.atKeyOff p with requestBase := b, responseBase := b' })
    (hsweep : sweepStoodDown s u) (hhistory : u.history = s.history) (hkey : u.key = s.key) :
    StandsBy s (u.withLine u.line.atKeyOff).recomputeOutputs := by
  have hstate : ∀ c, (u.withLine u.line.atKeyOff).shareState c = .standby := fun c =>
    congrArg ShareChannel.state (hshare c)
  refine ⟨hshare, ?_, ?_, hfree, hclear, ⟨hframes.waiting, hframes.can, hframes.line⟩, hcan, ⟨u.line, rfl⟩, hsweep,
    hhistory, hkey⟩
  · show (u.withLine u.line.atKeyOff).tgntValue = false
    simp [State.tgntValue, hstate, allChannels]
  · show (u.withLine u.line.atKeyOff).pneedValue = false
    simp [State.pneedValue, hstate, allChannels]

/-- What standby has done before the CAN controllers are reached: the frames and the dialogs ended, and the sweep (R15,
R162). -/
theorem standby_sweep {s : State} (hr : SweepRests s) :
    ∃ u : State, s.standby = ((allCanChannels.foldl State.canStandby u).withLine
        (allCanChannels.foldl State.canStandby u).line.atKeyOff).recomputeOutputs
      ∧ (∀ c, u.shareOf c = { s.shareOf c with state := .standby, causes := {} })
      ∧ (∀ c, (u.slot c).state = .free) ∧ (∀ c, (s.slot c).state ≠ .free → u.slot c = {}) ∧ u.NoFrames
      ∧ sweepStoodDown s u ∧ u.history = s.history ∧ u.key = s.key := by
  obtain ⟨h1, e1, -, -, hch⟩ := s.allStandby_eq
  have f2 := State.FramesOnly.foldl_standDown allChannels s.allStandby
  have n2 := State.noFrames_standDown s.allStandby
  have hdef : s.standby = ((allCanChannels.foldl State.canStandby
      (allChannels.foldl State.abortSlot
        (allChannels.foldl (fun s c => (s.withdraw c).standDown c) s.allStandby)).keyOffSweep).withLine
      (allCanChannels.foldl State.canStandby
      (allChannels.foldl State.abortSlot
        (allChannels.foldl (fun s c => (s.withdraw c).standDown c) s.allStandby)).keyOffSweep).line.atKeyOff).recomputeOutputs := rfl
  generalize allChannels.foldl (fun s c => (s.withdraw c).standDown c) s.allStandby = s2 at f2 n2 hdef
  rw [e1] at f2
  have hslot2 : ∀ c, s2.slot c = s.slot c := State.slot_congr f2.slots
  have hshare2 : ∀ c, s2.shareOf c = { s.shareOf c with state := .standby, causes := {} } := fun c =>
    (State.shareOf_congr f2.share c).trans (hch c)
  obtain ⟨r3, sh3, l3, free3, clear3, n3⟩ :=
    State.abortSlots_of_standby (fun c => congrArg ShareChannel.state (hshare2 c))
  have hist3 : (allChannels.foldl State.abortSlot s2).history = s2.history := by
    simp only [allChannels, List.foldl_cons, List.foldl_nil, State.history_abortSlot]
  have key3 : (allChannels.foldl State.abortSlot s2).key = s2.key :=
    (State.Works.foldl (fun c h => h.abortSlot c) (.refl s2) allChannels).key
  have habort : ∀ c, s2.slotAbort c = s.slotAbort c := fun c => by simp only [State.slotAbort, hslot2]
  rw [habort, habort, habort] at r3
  have h12 : s.Recorded [] s2 := .of_same (by rw [f2.sweep]) f2.table f2.link
  obtain ⟨sw4, o4⟩ := sweepStoodDown_keyOffSweep hr (h12.append r3) (by rw [l3, f2.sweep])
  refine ⟨_, hdef, fun c => ?_, fun c => ?_, fun c hc => ?_, (n3 n2).of_sweepOnly o4, sw4, ?_, ?_⟩
  · rw [State.shareOf_congr o4.share, State.shareOf_congr sh3, hshare2]
  · rw [State.slot_congr o4.slots, free3]
  · rw [State.slot_congr o4.slots, clear3 c (by rwa [hslot2])]
  · rw [o4.history, hist3, f2.history]
  · rw [o4.key, key3, f2.key]

/-- Standby, from a controller at rest (R15, R138, R139, R162). -/
theorem standsBy_standby {s : State} (hr : SweepRests s) : StandsBy s s.standby := by
  obtain ⟨u, hu, hshare, hfree, hclear, hframes, hsweep, hhistory, hkey⟩ := standby_sweep hr
  obtain ⟨f, hhand, hline, hcan⟩ := u.foldl_canStandby
  rw [hu]
  refine standsBy_of_channels (fun c => ?_) (fun c => ?_) (fun c hc => ?_) ⟨fun c => ?_, fun k => ?_, ?_⟩ (fun k => ?_) ?_
    (f.history.trans hhistory) (f.key.trans hkey)
  · rw [State.shareOf_congr f.share, hshare]
  · rw [State.slot_congr f.slots, hfree]
  · rw [State.slot_congr f.slots, hclear c hc]
  · rw [State.waitingFrames, hhand]
    exact hframes.waiting c
  · obtain ⟨b, b', hk⟩ := hcan k
    rw [hk]
    exact hframes.can k
  · rw [hline]
    exact hframes.line
  · obtain ⟨b, b', hk⟩ := hcan k
    exact ⟨_, _, b, b', hk⟩
  · unfold sweepStoodDown at hsweep ⊢
    rw [f.sweep, f.table, f.link]
    exact hsweep

end Sys2Proof.Claim
end

section
/-! KEY_OFF (R15, R138, R162, R177), settled. -/

namespace Sys2Proof.Claim

open Sys2Proof.Machine

/-- The state that a key-off hands to standby: the key off, its timer and settle expired cleared (R177). -/
def keyTakenOff (s : State) : State :=
  { s with
    key := { on := false, run := 0, settle := none, settled := false }, pins := { s.pins with key := false } }

theorem keyOff_of_on {s : State} (h : s.key.on = true) : s.keyOff = (keyTakenOff s).standby := by
  rw [State.keyOff, if_pos h]
  rfl

theorem keyOff_of_off {s : State} (h : s.key.on = false) : s.keyOff = s := by
  simp [State.keyOff, h]

/-- With the controller idle and at rest a key-off has no module to abort. -/
theorem keyOffAborts_of_idle {s : State} (hr : SweepRests s) (hi : s.sweep.state = .idle) : keyOffAborts s = [] := by
  obtain ⟨_, hc⟩ := hr.1 hi
  simp [keyOffAborts, State.slotAbort, State.listAbort, hc]

/-- What a key-off does to the sweep controller and the table, ended sweep or idle controller alike (R1, R8, R15). -/
theorem sweep_of_stoodDown {s t : State} (hr : SweepRests s) (h : sweepStoodDown s t) :
    (∃ reached counts, t.sweep =
        { s.sweep with
          state := .idle, haltTaken := false, lists := t.sweep.lists, reached, counts })
      ∧ (∀ c, t.workList c = [])
      ∧ (∀ i : ModuleIndex, t.sweep.reached[i] = (s.sweep.reached[i] || s.inSlot i || s.listed i))
      ∧ t.sweep.counts = s.sweep.counts.set 10 ((satSucc 255)^[(keyOffAborts s).length] s.sweep.counts[10])
      ∧ ∀ i, t.entry i =
          if s.inSlot i = true ∨ s.listed i = true then
            { s.entry i with lastOutcome := some .aborted, lastSweep := s.sweep.number }
          else s.entry i := by
  unfold sweepStoodDown at h
  split at h
  · next hi =>
    obtain ⟨hw, ht, -⟩ := h
    obtain ⟨hhalt, hc⟩ := hr.1 hi
    have hno : ∀ i, ¬ (s.inSlot i = true ∨ s.listed i = true) := by
      intro i
      rw [← mem_keyOffAborts, keyOffAborts_of_idle hr hi]
      exact List.not_mem_nil
    refine ⟨⟨s.sweep.reached, s.sweep.counts, ?_⟩, fun c => ?_, fun i => ?_, ?_, fun i => ?_⟩
    · rw [hw, ← hi, ← hhalt]
    · rw [State.workList, hw]
      exact (hc c).1
    · have := hno i
      simp only [not_or, Bool.not_eq_true] at this
      rw [hw, this.1, this.2, Bool.or_false, Bool.or_false]
    · rw [hw, keyOffAborts_of_idle hr hi]
      simp
    · rw [if_neg (hno i), State.entry_congr ht]
  · obtain ⟨u, hu, hempty, ht, hw, -⟩ := h
    refine ⟨⟨u.sweep.reached, u.sweep.counts, ?_⟩, fun c => ?_, fun i => ?_, ?_, fun i => ?_⟩
    · rw [hw, hu.sweep]
    · rw [State.workList, hw]
      exact hempty c
    · have hr := hu.reached i
      rw [Bool.eq_iff_iff] at hr ⊢
      rw [hw]
      simp only [Bool.or_eq_true, decide_eq_true_iff, mem_keyOffAborts] at hr ⊢
      rw [hr, or_assoc]
    · rw [hw]
      exact hu.counts
    · rw [State.entry_congr ht, hu.entry i]
      simp only [mem_keyOffAborts]

/-- The notices of a key-off that ends a sweep (R8, R15). -/
theorem link_of_stoodDown {s t : State} (h : sweepStoodDown s t) (hi : s.sweep.state ≠ .idle)
    (hroom : s.link.noticesHeld + (keyOffEnds s).length < 12) :
    t.link.outbound =
      s.link.outbound ++ keyOffEnds s ++
        [.notice (.sweepEnd .keyOff s.sweep.number s.sweep.kind t.sweep.counts s.sweep.created s.sweep.updated
          s.sweep.refused)] := by
  rw [sweepStoodDown, if_neg hi] at h
  obtain ⟨u, hu, -, -, hw, hl⟩ := h
  have hfields : u.sweep.number = s.sweep.number ∧ u.sweep.kind = s.sweep.kind ∧ u.sweep.created = s.sweep.created
      ∧ u.sweep.updated = s.sweep.updated ∧ u.sweep.refused = s.sweep.refused := by
    rw [hu.sweep]
    exact ⟨rfl, rfl, rfl, rfl, rfl⟩
  obtain ⟨h1, h2, h3, h4, h5⟩ := hfields
  have hnotices : t.link = ((keyOffAborts s).map Abort.notice ++
      [Notice.sweepEnd .keyOff s.sweep.number s.sweep.kind u.sweep.counts s.sweep.created s.sweep.updated
        s.sweep.refused]).foldl Link.notify s.link := by
    rw [hl, hu.link, h1, h2, h3, h4, h5, List.foldl_append]
    rfl
  rw [hnotices, Link.foldl_notify_room, hw, keyOffEnds_eq]
  · simp
  · rw [keyOffEnds_eq] at hroom
    simp only [List.length_append, List.length_map, List.length_cons, List.length_nil] at hroom ⊢
    omega

/-- Settles O52: the part in standby (`standsBy_standby`), with the controller's part of it read from the ABORTEDs that the
slots and the lists give. -/
theorem keyOffPutsThePartInStandby : Obligations.KeyOffPutsThePartInStandby := by
  unfold Obligations.KeyOffPutsThePartInStandby
  refine fun s hr => ⟨fun hoff => congrArg Host.Outcome.next (keyOff_of_off hoff), fun hon => ?_⟩
  have hr' : SweepRests (keyTakenOff s) := hr
  have hs := standsBy_standby hr'
  have hworks : (keyTakenOff s).Works (keyTakenOff s).standby := (State.Works.refl _).standby
  obtain ⟨⟨reached, counts, hsw⟩, hlist, hreach, hcounts, hentry⟩ := sweep_of_stoodDown hr' hs.sweep
  refine ⟨(keyTakenOff s).standby, congrArg Host.Outcome.next (keyOff_of_on hon), hs.key, fun c => ?_, hs.tgnt, hs.pneed,
    fun c => ⟨hs.free c, hs.cleared c, hs.frames.waiting c, hlist c⟩, ?_⟩
  · rw [State.shareState, hs.share c]
    exact ⟨rfl, rfl, rfl⟩
  refine ⟨by rw [hsw], by rw [hsw], by rw [hsw]; rfl, by rw [hsw]; rfl, by rw [hsw]; rfl, by rw [hsw]; rfl, hreach, fun o ho => ?_,
    fun hle => ?_, by rw [hsw]; rfl, by rw [hsw]; rfl, by rw [hsw]; rfl,
    fun hi hroom => link_of_stoodDown (s := keyTakenOff s) hs.sweep hi hroom, fun i hi => ?_, fun i hslot hl => ?_, fun hi => ?_, fun k => ?_, ?_⟩
  · rw [hcounts]
    exact Vector.getElem_set_ne _ _ (fun h => ho (Fin.ext h.symm))
  · rw [hcounts, keyOffEnds_eq, List.length_map, List.length_map]
    exact (Vector.getElem_set_self _).trans (iterate_satSucc hle _)
  · rw [(hentry i).trans (if_pos hi)]
    exact ⟨rfl, rfl⟩
  · have hno : ¬ (s.inSlot i = true ∨ s.listed i = true) := by simp [hslot, hl]
    exact (hentry i).trans (if_neg hno)
  · have h := hs.sweep
    rw [sweepStoodDown, if_pos (show (keyTakenOff s).sweep.state = .idle from hi)] at h
    exact ⟨h.2.2, h.1⟩
  · obtain ⟨x, p, b, b', hk⟩ := hs.can k
    have hh := hs.frames.can k
    rw [hk] at hh ⊢
    exact ⟨rfl, rfl, rfl, hh, rfl, rfl, rfl, rfl⟩
  · obtain ⟨l, hl⟩ := hs.line
    exact ⟨by rw [hl]; rfl, by rw [hl]; rfl, hs.frames.line, hs.history, hworks.store, hworks.settings, hworks.clock⟩

end Sys2Proof.Claim
end

section
/-! Every step comes to rest (R1, R12, R13, R15, R156, R160): what rests through a step's work, what a step's end settles, and
which commands change nothing that rest speaks of. -/

namespace Sys2Proof.Claim

open Sys2Proof.Machine

variable {r s t : State}

/-! ### Rest of the key and of the sweep controller -/

/-- A controller at rest, with the key and without: what the work within a step keeps, and its end too. -/
def Rests (s : State) : Prop := KeyOffRests s ∧ SweepRests s

theorem AtRest.rests (h : AtRest s) : Rests s := h.2

theorem Rests.calm (h : Rests r) (k : r.Calm s) : Rests s := by
  obtain ⟨hkey, hidle, hhalt⟩ := h
  refine ⟨fun hk => ?_, fun hi => ?_, fun hi c => ?_⟩
  · rw [k.key] at hk ⊢
    rw [k.state]
    exact hkey hk
  · rw [k.state] at hi
    obtain ⟨ht, hc⟩ := hidle hi
    refine ⟨k.haltTaken.trans ht, fun c => ⟨?_, k.free c (hc c).2⟩⟩
    rw [State.workList_congr (k.lists (by rw [hi]; decide))]
    exact (hc c).1
  · rw [k.state] at hi
    rw [State.workList_congr (k.lists (by rw [hi]; decide))]
    exact hhalt hi c

/-- A running sweep rests, the key being on. -/
theorem Rests.of_running (hk : s.key.on = true) (hs : s.sweep.state = .running) : Rests s := by
  refine ⟨fun h => ?_, fun h => ?_, fun h => ?_⟩
  · exact absurd (hk.symm.trans h) (by decide)
  · exact absurd (hs.symm.trans h) (by decide)
  · exact absurd (hs.symm.trans h) (by decide)

/-- While a sweep runs or halts the key is on. -/
theorem Rests.key_on (h : Rests s) (hs : s.sweep.state ≠ .idle) : s.key.on = true := by
  cases hk : s.key.on
  · exact absurd (h.1 hk).1 hs
  · rfl

theorem Rests.startSweep (hk : s.key.on = true) (k : SweepKind) (o : SweepOptions) (x : Scope) :
    Rests (s.startSweep k o x) :=
  .of_running (by rw [State.startSweep_key]; exact hk) (s.startSweep_state k o x)

theorem Rests.attentionCheck (h : Rests s) : Rests s.attentionCheck := by
  unfold State.attentionCheck
  split
  · next hd =>
    simp only [State.attentionDue, Bool.and_eq_true] at hd
    exact .startSweep hd.1.1.1.2 _ _ _
  · exact h

theorem Rests.endSweep (h : Rests s) (hd : s.sweepDone = true) (x : EndReason) : Rests (s.endSweep x) := by
  obtain ⟨hs, hc⟩ := (State.sweepDone_iff s).mp hd
  have hk := h.key_on hs
  exact ⟨fun h => absurd (hk.symm.trans h) (by decide), fun _ => ⟨rfl, hc⟩, fun h => SweepState.noConfusion h⟩

theorem Rests.settleSweep (n : Nat) : ∀ {s : State}, Rests s → Rests (State.settleSweep n s) := by
  induction n with
  | zero => exact fun h => h
  | succ n ih =>
    intro s h
    unfold State.settleSweep
    split
    · next hd =>
      split
      · exact h.endSweep hd _
      · exact ih (h.endSweep hd _).attentionCheck
    · exact h

theorem Rests.recomputeOutputs (h : Rests s) : Rests s.recomputeOutputs := h

/-- The end of a step brings to rest whatever its work left. -/
theorem atRest_closeStep (h : Rests s) : AtRest s.closeStep := by
  have hy : s.Calm (allChannels.foldl State.yieldSettle s) := State.Calm.foldl (fun c k => k.yieldSettle c) (.refl s) _
  have hs : Rests (State.settleSweep 3 (allChannels.foldl State.yieldSettle s)) := (h.calm hy).settleSweep 3
  have hc : Rests s.closeStep := by
    unfold State.closeStep
    exact hs.recomputeOutputs
  exact ⟨settled_closeStep s, hc⟩

/-- Work that starts no dialog and no sweep, and the end of the step after it. -/
theorem AtRest.closeStep (h : AtRest s) (k : s.Calm t) : AtRest t.closeStep := atRest_closeStep (h.rests.calm k)

/-! ### What rest does not speak of -/

/-- `t` differs from `s` in nothing that rest speaks of. -/
structure Still (s t : State) : Prop where
  slot : ∀ c, (t.slot c).state = (s.slot c).state
  lists : t.sweep.lists = s.sweep.lists
  state : t.sweep.state = s.sweep.state
  haltTaken : t.sweep.haltTaken = s.sweep.haltTaken
  shareState : ∀ c, t.shareState c = s.shareState c
  tgnt : t.share.tgnt = s.share.tgnt
  pneed : t.share.pneed = s.share.pneed
  socket : ∀ c, t.isSocket c = s.isSocket c
  key : t.key.on = s.key.on
  settle : s.key.settle = none → t.key.settle = none

theorem Still.trans {u : State} (h : Still s t) (k : Still t u) : Still s u where
  slot c := (k.slot c).trans (h.slot c)
  lists := k.lists.trans h.lists
  state := k.state.trans h.state
  haltTaken := k.haltTaken.trans h.haltTaken
  shareState c := (k.shareState c).trans (h.shareState c)
  tgnt := k.tgnt.trans h.tgnt
  pneed := k.pneed.trans h.pneed
  socket c := (k.socket c).trans (h.socket c)
  key := k.key.trans h.key
  settle hs := k.settle (h.settle hs)

theorem AtRest.still (h : AtRest s) (k : Still s t) : AtRest t := by
  obtain ⟨⟨hy, hd, ht, hp⟩, hkey, hidle, hhalt⟩ := h
  have hl := State.workList_congr k.lists
  refine ⟨⟨fun c hc => ?_, ?_, ?_, ?_⟩, fun hk => ?_, fun hi => ?_, fun hi c => ?_⟩
  · rw [k.shareState] at hc
    rw [k.slot]
    exact hy c hc
  · simpa only [State.sweepDone, k.state, k.slot, hl] using hd
  · simpa only [State.tgntValue, k.tgnt, k.socket, k.shareState] using ht
  · simpa only [State.pneedValue, k.pneed, k.shareState, k.slot, hl] using hp
  · rw [k.key] at hk
    exact ⟨k.state.trans (hkey hk).1, k.settle (hkey hk).2⟩
  · rw [k.state] at hi
    obtain ⟨h1, h2⟩ := hidle hi
    refine ⟨k.haltTaken.trans h1, fun c => ?_⟩
    rw [hl, k.slot]
    exact h2 c
  · rw [k.state] at hi
    rw [hl]
    exact hhalt hi c

/-- A state that is another but for what rest does not speak of. -/
theorem Still.of_same (hslot : ∀ c, (t.slot c).state = (s.slot c).state) (hl : t.sweep.lists = s.sweep.lists)
    (hs : t.sweep.state = s.sweep.state) (ht : t.sweep.haltTaken = s.sweep.haltTaken) (hshare : t.share = s.share)
    (hset : t.settings = s.settings) (hkey : t.key = s.key) : Still s t where
  slot := hslot
  lists := hl
  state := hs
  haltTaken := ht
  shareState := State.shareState_congr hshare
  tgnt := by rw [hshare]
  pneed := by rw [hshare]
  socket c := by rw [State.isSocket, State.isSocket, State.setting, State.setting, hset]
  key := by rw [hkey]
  settle hn := by rw [hkey, hn]

theorem Still.of_frames (h : s.FramesOnly t) : Still s t :=
  .of_same (fun c => by rw [State.slot_congr h.slots]) (by rw [h.sweep]) (by rw [h.sweep]) (by rw [h.sweep]) h.share
    h.settings h.key

theorem Still.withLine (s : State) (l : Line) : Still s (s.withLine l) := .of_frames (.withLine s l)
theorem Still.withCan (s : State) (k : CanChannel) (x : Can) : Still s (s.withCan k x) := .of_frames (.withCan s k x)
theorem Still.withLink (s : State) (l : Link) : Still s (s.withLink l) :=
  .of_same (fun _ => rfl) rfl rfl rfl rfl rfl rfl
theorem Still.reply (s : State) (k : Byte) (st : Status) (bs : List Byte) : Still s (s.reply k st bs) := .withLink _ _
theorem Still.withHistory (s : State) (h : History) : Still s (s.withHistory h) :=
  .of_same (fun _ => rfl) rfl rfl rfl rfl rfl rfl
theorem Still.withClock (s : State) (k : Clock) : Still s { s with clock := k } :=
  .of_same (fun _ => rfl) rfl rfl rfl rfl rfl rfl

theorem AtRest.withLine (h : AtRest s) (l : Line) : AtRest (s.withLine l) := h.still (.withLine s l)
theorem AtRest.withCan (h : AtRest s) (k : CanChannel) (x : Can) : AtRest (s.withCan k x) := h.still (.withCan s k x)
theorem AtRest.withLink (h : AtRest s) (l : Link) : AtRest (s.withLink l) := h.still (.withLink s l)
theorem AtRest.reply (h : AtRest s) (k : Byte) (st : Status) (bs : List Byte) : AtRest (s.reply k st bs) :=
  h.still (.reply s k st bs)
theorem AtRest.withHistory (h : AtRest s) (x : History) : AtRest (s.withHistory x) := h.still (.withHistory s x)

theorem AtRest.foldl {α : Type} {f : State → α → State} (hf : ∀ {u : State} (a : α), AtRest u → AtRest (f u a))
    (h : AtRest s) (as : List α) : AtRest (as.foldl f s) := by
  induction as generalizing s with
  | nil => exact h
  | cons a as ih => exact ih (hf a h)

/-- A step's work where its guard holds, and nothing otherwise. -/
theorem AtRest.ite {p : Prop} [Decidable p] (h : AtRest s) (ht : p → AtRest t) : AtRest (if p then t else s) := by
  split
  · next hp => exact ht hp
  · exact h

/-! ### The dialog slots -/

theorem AtRest.serviceReceived (h : AtRest s) (c : Channel) (v : Service) : AtRest (s.serviceReceived c v) :=
  h.ite (fun _ => h.closeStep ((State.Calm.refl s).deliver c v))

theorem AtRest.dialogStart (h : AtRest s) (c : Channel) : AtRest (s.dialogStart c) := by
  unfold State.dialogStart
  split
  · exact h
  · next i rest _ =>
    refine h.ite (fun hm => atRest_closeStep ?_)
    have hrun : s.sweep.state = .running := by
      simp only [State.mayStart, Bool.and_eq_true, beq_iff_eq] at hm
      exact hm.1.1
    have hframes : ∀ (u : State) (x : Slot) (q : TxRequest),
        (((u.withSlot c x).startListening c).hand c q).sweep = u.sweep := fun u x q =>
      ((State.FramesOnly.startListening _ c).trans (.hand _ c q none)).sweep
    have hkey : ((s.withWorkList c rest).startDialog c i).key = s.key :=
      (((State.Works.refl s).withWorkList c rest).startDialog c i).key
    refine .of_running (by rw [hkey]; exact h.rests.key_on (by rw [hrun]; decide)) ?_
    unfold State.startDialog
    dsimp only
    split <;> rw [hframes] <;> exact hrun

theorem AtRest.keepAwakeExpired (h : AtRest s) (c : Channel) : AtRest (s.keepAwakeExpired c) := by
  unfold State.keepAwakeExpired
  split
  · exact h
  · next k _ =>
    have hs : Still s (s.withSlot c { s.slot c with keepAwake := some { k with left := k.period } }) := by
      refine .of_same (fun d => ?_) rfl rfl rfl rfl rfl rfl
      by_cases hd : d = c
      · subst hd
        rw [State.slot_withSlot]
      · rw [State.slot_withSlot_other s hd]
    exact (h.still hs).ite (fun _ => (h.still hs).still (.of_frames (.hand _ c _ _)))

/-! ### The CAN controllers -/

theorem AtRest.canFrameSent (h : AtRest s) (k : CanChannel) : AtRest (s.canFrameSent k) := by
  unfold State.canFrameSent
  dsimp only
  split
  · exact h
  · split
    · exact h.withCan _ _
    · split
      · exact h.closeStep ((((State.Calm.refl s).withCan _ _).slotFrameSent _ _).handNext _)
      · exact h

theorem AtRest.busOff (h : AtRest s) (k : CanChannel) (n : Nat) : AtRest (s.busOff k n) :=
  h.closeStep (((State.Calm.refl s).withCan _ _).silence _ _)

theorem AtRest.canTransmitError (h : AtRest s) (k : CanChannel) : AtRest (s.canTransmitError k) := by
  unfold State.canTransmitError
  dsimp only
  split
  · exact h
  · split
    · exact h.busOff k _
    · exact h.withCan _ _

theorem AtRest.testerRequest (h : AtRest s) (k : CanChannel) (a : BitVec 5) : AtRest (s.testerRequest k a) := by
  unfold State.testerRequest
  dsimp only
  split
  · exact h.closeStep (((State.Calm.refl s).withCan _ _).triggerOccurs _)
  · exact h.closeStep ((State.Calm.refl s).triggerOccurs _)

theorem AtRest.answerReceived (h : AtRest s) (c : Channel) (bs : List Byte) : AtRest (s.answerReceived c bs) := by
  unfold State.answerReceived
  split
  · exact h.serviceReceived c _
  · exact h

theorem AtRest.canFrameReceived (h : AtRest s) (k : CanChannel) (f : CanFrame) : AtRest (s.canFrameReceived k f) := by
  unfold State.canFrameReceived
  refine h.ite (fun _ => ?_)
  have hc := h.withCan k (s.canCtl k).frameReceived
  dsimp only
  split
  · exact hc.testerRequest k _
  · exact hc.answerReceived _ _
  · exact hc

/-! ### The line controller -/

theorem Rests.mapWidth (h : Rests s) (w : Nat) : Rests (s.mapWidth w) := by
  unfold State.mapWidth
  split
  · exact h
  · split
    · exact h
    · next i _ =>
      have hk := ((State.Calm.refl s).withEntry i { s.entry i with attention := true }).notify (.attention i)
      unfold State.recognise
      dsimp only
      split
      · exact (h.calm hk).attentionCheck
      · exact h.calm (hk.weighAppend i)

theorem AtRest.lineEdge (h : AtRest s) (l : Level) : AtRest (s.lineEdge l) := by
  unfold State.lineEdge
  split
  · exact h
  · exact (h.withLine _).ite (fun _ => atRest_closeStep ((h.withLine _).rests.mapWidth _))

theorem AtRest.takeSample (h : AtRest s) (x : Level) : AtRest (s.takeSample x) := by
  unfold State.takeSample
  dsimp only
  split
  · exact h.withLine _
  · split
    · exact (h.withLine _).lineEdge x
    · exact h.withLine _

theorem AtRest.takeSamples (x : Level) (n : Nat) : ∀ {s : State}, AtRest s → AtRest (s.takeSamples x n) := by
  induction n with
  | zero => exact fun h => h
  | succ n ih => exact fun h => ih (h.takeSample x)

theorem AtRest.attentionPulse (h : AtRest s) (w : Nat) : AtRest (s.attentionPulse w) :=
  h.ite (fun _ => (h.withLine _).lineEdge _)

theorem AtRest.lineTransmitStart (h : AtRest s) : AtRest s.lineTransmitStart := by
  unfold State.lineTransmitStart
  split
  · exact h.ite (fun _ => h.withLine _)
  · exact h

theorem AtRest.wakePatternStart (h : AtRest s) : AtRest s.wakePatternStart := by
  unfold State.wakePatternStart
  split
  · exact h.ite (fun _ => h.withLine _)
  · exact h

theorem AtRest.lineFrameSent (h : AtRest s) : AtRest s.lineFrameSent := by
  unfold State.lineFrameSent
  split
  · exact h
  · exact h.closeStep ((((State.Calm.refl s).withLine _).slotFrameSent _ _).handNext _)

theorem AtRest.lineFrameAbandoned (h : AtRest s) : AtRest s.lineFrameAbandoned := by
  unfold State.lineFrameAbandoned
  split
  · exact h
  · exact h.closeStep
      (((((State.Calm.refl s).withLine _).slotFrameAbandoned _).handNext _).yieldSettle _).countAbandoned

theorem AtRest.wakePatternEnd (h : AtRest s) : AtRest s.wakePatternEnd := by
  unfold State.wakePatternEnd
  split
  · exact h
  · exact h.closeStep ((((State.Calm.refl s).withLine _).slotFrameSent _ _).handNext _)

theorem AtRest.lineFrameReceived (h : AtRest s) (bs : List Byte) : AtRest (s.lineFrameReceived bs) := by
  unfold State.lineFrameReceived
  refine h.ite (fun _ => ?_)
  dsimp only
  split
  · exact (h.withLine _).ite (fun _ => (h.withLine _).answerReceived _ _)
  · exact h.withLine _

theorem AtRest.stuckExpired (h : AtRest s) : AtRest s.stuckExpired := by
  unfold State.stuckExpired
  split
  · exact h
  · exact h.closeStep (((State.Calm.refl s).withLine _).silence _ _)

/-! ### The share unit and the key -/

theorem AtRest.tpresChange (h : AtRest s) (a : Bool) : AtRest (s.tpresChange a) := by
  unfold State.tpresChange
  split
  · exact h
  · have hc : s.Calm (s.acceptTpres a) := { State.Calm.refl s with }
    exact h.closeStep (State.Calm.foldl (fun c k => k.tpresReaches c) hc allChannels)

theorem AtRest.holdExpired (h : AtRest s) (c : Channel) : AtRest (s.holdExpired c) := by
  unfold State.holdExpired
  split
  · exact h
  · exact h.closeStep (((State.Calm.refl s).withShareOf c _).reopenIfClear c)

theorem AtRest.keyOff (h : AtRest s) : AtRest s.keyOff := by
  cases hon : s.key.on
  · rw [keyOff_of_off hon]
    exact h
  · rw [keyOff_of_on hon]
    have hr : SweepRests (keyTakenOff s) := h.2.2
    have hs := standsBy_standby hr
    obtain ⟨⟨_, _, hsw⟩, hl, -⟩ := sweep_of_stoodDown hr hs.sweep
    have hstate : ∀ c, (keyTakenOff s).standby.shareState c = .standby := fun c =>
      congrArg ShareChannel.state (hs.share c)
    have hi : (keyTakenOff s).standby.sweep.state = .idle := by rw [hsw]
    refine ⟨⟨fun c hc => absurd ((hstate c).symm.trans hc) (by decide), State.sweepDone_of_idle hi, ?_, ?_⟩,
      fun _ => ⟨hi, by rw [hs.key]; rfl⟩, fun _ => ⟨by rw [hsw], fun c => ⟨hl c, hs.free c⟩⟩, fun _ => hl⟩
    · rw [hs.tgnt]
      simp [State.tgntValue, hstate, allChannels]
    · rw [hs.pneed]
      simp [State.pneedValue, hstate, allChannels]

theorem wakeChannel_other (s : State) {c d : Channel} (hd : d ≠ c) : (s.wakeChannel c).shareState d = s.shareState d := by
  have hsil : ∀ x, (s.wakeSilenced c x).shareState d = s.shareState d := fun x =>
    congrArg ShareChannel.state (s.shareOf_withShareOf_other hd _)
  unfold State.wakeChannel
  split
  · exact hsil _
  · split
    · split
      · exact hsil _
      · exact s.shareState_withShareState_other hd _
    · exact s.shareState_withShareState_other hd _

theorem wakeChannel_not_pending (s : State) (c : Channel) : (s.wakeChannel c).shareState c ≠ .yieldPending := by
  have hsil : ∀ x, (s.wakeSilenced c x).shareState c = .silenced := fun x =>
    congrArg ShareChannel.state (s.shareOf_withShareOf c _)
  have hst : ∀ (x : ShareState), (s.withShareState c x).shareState c = x := s.shareState_withShareState c
  unfold State.wakeChannel
  split
  · rw [hsil]; decide
  · split
    · split
      · rw [hsil]; decide
      · exact fun h => absurd ((hst _).symm.trans h) (by decide)
    · rw [hst]; decide

theorem wakeChannel_rest (s : State) (c : Channel) :
    (s.wakeChannel c).sweep = s.sweep ∧ (s.wakeChannel c).slots = s.slots ∧ (s.wakeChannel c).key = s.key := by
  unfold State.wakeChannel State.wakeSilenced
  split
  · exact ⟨rfl, rfl, rfl⟩
  · split
    · split <;> exact ⟨rfl, rfl, rfl⟩
    · exact ⟨rfl, rfl, rfl⟩

theorem AtRest.keyOn (h : AtRest s) : AtRest s.keyOn := by
  unfold State.keyOn
  split
  · exact h
  · next hoff =>
    have hi : s.sweep.state = .idle := (h.2.1 (Bool.eq_false_iff.mpr hoff)).1
    have hpend : ∀ c, (allChannels.foldl State.wakeChannel (s.acceptKey true)).shareState c ≠ .yieldPending := by
      intro c
      simp only [allChannels, List.foldl_cons, List.foldl_nil]
      cases c
      · rw [wakeChannel_other _ (by decide), wakeChannel_other _ (by decide)]
        exact wakeChannel_not_pending _ _
      · rw [wakeChannel_other _ (by decide)]
        exact wakeChannel_not_pending _ _
      · exact wakeChannel_not_pending _ _
    have hrest : (allChannels.foldl State.wakeChannel (s.acceptKey true)).sweep = s.sweep
        ∧ (allChannels.foldl State.wakeChannel (s.acceptKey true)).slots = s.slots
        ∧ (allChannels.foldl State.wakeChannel (s.acceptKey true)).key = { s.key with on := true, run := 0 } := by
      simp only [allChannels, List.foldl_cons, List.foldl_nil, wakeChannel_rest]
      exact ⟨rfl, rfl, rfl⟩
    unfold State.wake
    generalize allChannels.foldl State.wakeChannel (s.acceptKey true) = u at hpend hrest
    obtain ⟨hsw, hsl, hk⟩ := hrest
    refine ⟨⟨fun c hc => absurd hc (hpend c), State.sweepDone_of_idle (hsw ▸ hi : u.sweep.state = .idle), rfl, rfl⟩,
      fun hn => ?_, ?_⟩
    · have : u.key.on = true := by rw [hk]
      exact absurd (this.symm.trans hn) (by decide)
    · have hr : SweepRests u := by
        have h0 := h.2.2
        unfold SweepRests at h0 ⊢
        simpa only [State.slot, State.workList, hsw, hsl] using h0
      exact hr

theorem AtRest.settleExpired (h : AtRest s) : AtRest s.settleExpired := by
  unfold State.settleExpired
  split
  · exact h
  · next n hn =>
    have hon : s.key.on = true := by
      cases hk : s.key.on
      · exact absurd ((h.2.1 hk).2.symm.trans hn) nofun
      · rfl
    have hr : Rests { s with key := { s.key with settle := none, settled := true } } :=
      ⟨fun hk => absurd (hon.symm.trans hk) (by decide), h.2.2⟩
    refine atRest_closeStep ?_
    split
    · exact Rests.startSweep (s := { s with key := { s.key with settle := none, settled := true } }) hon _ _ _
    · exact hr.attentionCheck

theorem AtRest.chassisAdvance (h : AtRest s) : AtRest s.chassisAdvance := h.ite (fun _ => h.still (.withClock s _))

/-- A full reset leaves the part at rest (R180). -/
theorem atRest_afterReset (p : ResetPins) (is : List Instr) : AtRest { State.afterReset p with pending := is } := by
  have hfree : ∀ c, ({ State.afterReset p with pending := is } : State).workList c = []
      ∧ (({ State.afterReset p with pending := is } : State).slot c).state = .free := by
    intro c; cases c <;> exact ⟨rfl, rfl⟩
  have hshare : ∀ c, ({ State.afterReset p with pending := is } : State).shareState c =
      if p.key then .opened else .standby := by
    intro c; cases c <;> rfl
  refine ⟨⟨fun c hc => ?_, rfl, ?_, ?_⟩, fun hk => ⟨rfl, ?_⟩, fun _ => ⟨rfl, hfree⟩, fun hs => SweepState.noConfusion hs⟩
  · rw [hshare] at hc
    cases hk : p.key <;> simp [hk] at hc
  · show false = State.tgntValue _
    cases hk : p.key <;> simp [State.tgntValue, hshare, allChannels, hk]
  · show false = State.pneedValue _
    cases hk : p.key <;> simp [State.pneedValue, hshare, allChannels, hk]
  · have hk' : p.key = false := hk
    show (if p.key then some 3000 else none) = none
    rw [hk']
    rfl

end Sys2Proof.Claim
end

section
/-! Every step comes to rest, continued: the host's requests, the timebase, and the step. -/

namespace Sys2Proof.Claim

open Sys2Proof.Machine

variable {r s t : State}

/-! ### The host link -/

theorem AtRest.notify (h : AtRest s) (n : Notice) : AtRest (s.notify n) := h.withLink _

theorem AtRest.offer (h : AtRest s) (f : HostFrame) : AtRest (s.offer f) := by
  unfold State.offer
  split
  · exact h.withLink _
  · exact h.notify _

/-- A request is carried out, offered or left, and rests if its handler does (R167). -/
theorem AtRest.takeRequest (h : AtRest s) (f : HostFrame) {carry : State → State}
    (hc : ∀ {u : State}, AtRest u → AtRest (carry u)) : AtRest (s.takeRequest f carry) := by
  have hserve : ∀ {u : State}, AtRest u → AtRest (u.serve f carry) := fun hu => (hc (hu.withLink _)).withLink _
  unfold State.takeRequest
  split
  · split
    · exact hserve h
    · exact h.offer f
  · split
    · exact h.ite (fun _ => hserve (h.withLink _))
    · exact h.offer f

theorem AtRest.discardFrame (h : AtRest s) (x : RejectReason) : AtRest (s.discardFrame x) := (h.withLink _).notify _

theorem AtRest.assembleByte (h : AtRest s) (b : Byte) : AtRest (s.assembleByte b) := by
  unfold State.assembleByte
  dsimp only
  split
  · exact h
  · split
    · exact h.discardFrame _
    · exact h.withLink _
  · exact h.withLink _
  · exact h.withLink _
  · split
    · exact AtRest.offer (h.withLink _) _
    · exact h.discardFrame _

theorem AtRest.receiveByte (h : AtRest s) (b : LineByte) : AtRest (s.receiveByte b) := by
  unfold State.receiveByte
  split
  · exact h.ite (fun _ => h.withLink _)
  · split
    · exact h.discardFrame _
    · exact h.assembleByte _

theorem AtRest.hostGapExpired (h : AtRest s) : AtRest s.hostGapExpired := by
  unfold State.hostGapExpired
  split
  · exact h.discardFrame _
  · exact h

/-! ### Requests of the tables, the store and the references -/

theorem AtRest.handleIdent (p : List Byte) (h : AtRest s) : AtRest (s.handleIdent p) := by
  unfold State.handleIdent
  split <;> exact h.reply _ _ _

theorem AtRest.handleStatus (p : List Byte) (h : AtRest s) : AtRest (s.handleStatus p) := by
  unfold State.handleStatus
  split
  · exact (h.reply _ _ _).withLink _
  · exact h.reply _ _ _

theorem AtRest.rewriteEntry (h : AtRest s) (i : ModuleIndex) (e : Entry) : AtRest (s.rewriteEntry i e) := by
  refine h.still (.of_same (fun _ => rfl) ?_ ?_ ?_ rfl rfl rfl) <;>
  · simp only [State.rewriteEntry, State.sweep_withSweep, Sweep.clearMarks]
    split <;> rfl

theorem AtRest.handleTablePut (p : List Byte) (h : AtRest s) : AtRest (s.handleTablePut p) := by
  unfold State.handleTablePut
  split
  · exact h.reply _ _ _
  · split
    · exact h.reply _ _ _
    · split
      · exact h.reply _ _ _
      · exact (h.rewriteEntry _ _).reply _ _ _

theorem AtRest.handleTableGet (p : List Byte) (h : AtRest s) : AtRest (s.handleTableGet p) := by
  unfold State.handleTableGet
  (repeat' split) <;> exact h.reply _ _ _

theorem AtRest.removeEntry (h : AtRest s) (i : ModuleIndex) (b : Bool) : AtRest (s.removeEntry i b) := by
  cases b
  · exact (h.rewriteEntry i {}).reply _ _ _
  · exact ((h.withHistory _).rewriteEntry i {}).reply _ _ _

theorem AtRest.handleTableRemove (p : List Byte) (h : AtRest s) : AtRest (s.handleTableRemove p) := by
  unfold State.handleTableRemove
  split
  · split
    · exact h.reply _ _ _
    · split
      · exact h.reply _ _ _
      · split
        · exact h.reply _ _ _
        · split
          · exact h.reply _ _ _
          · split
            · exact h.reply _ _ _
            · exact h.removeEntry _ _
  · exact h.reply _ _ _

theorem calm_loadProfile (s : State) (n : Fin 12) (p : Profile) : s.Calm (s.loadProfile n p) := by
  unfold State.loadProfile
  dsimp only
  split <;> exact { State.Calm.refl s with }

theorem AtRest.handleProfileLoad (p : List Byte) (h : AtRest s) : AtRest (s.handleProfileLoad p) := by
  unfold State.handleProfileLoad
  split
  · exact h.reply _ _ _
  · split
    · exact h.reply _ _ _
    · exact h.closeStep (((calm_loadProfile s _ _).reply _ _ _).wakeWaiting _)

theorem AtRest.handleProfileGet (p : List Byte) (h : AtRest s) : AtRest (s.handleProfileGet p) := by
  unfold State.handleProfileGet
  (repeat' split) <;> exact h.reply _ _ _

theorem AtRest.releaseLoaded (h : AtRest s) (n : Fin 12) : AtRest (s.releaseLoaded n) :=
  h.still (.of_same (fun _ => rfl) rfl rfl rfl rfl rfl rfl)

theorem AtRest.handleProfileUnload (p : List Byte) (h : AtRest s) : AtRest (s.handleProfileUnload p) := by
  unfold State.handleProfileUnload
  split
  · split
    · split
      · exact h.reply _ _ _
      · split
        · exact h.reply _ _ _
        · exact (h.releaseLoaded _).reply _ _ _
    · exact h.reply _ _ _
  · exact h.reply _ _ _

theorem AtRest.finishBind (h : AtRest s) (g : Word16) (bs : List Binding) : AtRest (s.finishBind g bs) := by
  have hc : ∀ d, s.Calm ((s.withBindings bs).reply 0x09 .done d) := fun d => ((State.Calm.refl s).withBindings bs).reply _ _ d
  unfold State.finishBind
  dsimp only
  split
  · exact h.closeStep (((hc _).liftDecline g).wakeWaiting g)
  · exact h.closeStep ((hc _).wakeWaiting g)

theorem AtRest.handleBind (p : List Byte) (h : AtRest s) : AtRest (s.handleBind p) := by
  have hnone : ∀ g, AtRest (s.bindNone g) := by
    intro g
    unfold State.bindNone
    split
    · exact h.reply _ _ _
    · exact h.finishBind _ _
  have hto : ∀ g x, AtRest (s.bindTo g x) := by
    intro g x
    unfold State.bindTo
    split
    · exact h.reply _ _ _
    · split
      · exact h.finishBind _ _
      · exact h.reply _ _ _
  unfold State.handleBind
  dsimp only
  split
  · split
    · exact h.reply _ _ _
    · split
      · exact hnone _
      · split
        · exact h.reply _ _ _
        · exact hto _ _
  · exact h.reply _ _ _

theorem AtRest.handleDecline (p : List Byte) (h : AtRest s) : AtRest (s.handleDecline p) := by
  unfold State.handleDecline
  dsimp only
  split
  · split
    · exact h.reply _ _ _
    · split
      · exact h.closeStep ((((State.Calm.refl s).withBindings _).reply _ _ _).wakeWaiting _)
      · exact h.reply _ _ _
  · exact h.reply _ _ _

theorem AtRest.handleBindingsGet (p : List Byte) (h : AtRest s) : AtRest (s.handleBindingsGet p) := by
  unfold State.handleBindingsGet
  split <;> exact h.reply _ _ _

theorem AtRest.handleReferenceSet (p : List Byte) (h : AtRest s) : AtRest (s.handleReferenceSet p) := by
  unfold State.handleReferenceSet
  split
  · split
    · exact h.reply _ _ _
    · exact AtRest.reply (h.still (.withClock s _)) _ _ _
  · exact h.reply _ _ _

theorem AtRest.handleHistoryRead (p : List Byte) (h : AtRest s) : AtRest (s.handleHistoryRead p) := by
  unfold State.handleHistoryRead
  split
  · exact h.reply _ _ _
  · exact (h.reply _ _ _).withHistory _

theorem AtRest.handleHistoryPurge (p : List Byte) (h : AtRest s) : AtRest (s.handleHistoryPurge p) := by
  unfold State.handleHistoryPurge
  split
  · exact (h.withHistory _).reply _ _ _
  · exact h.reply _ _ _

/-! ### The settings (R171) -/

theorem Rests.socketsChanged (h : Rests s) (n : Nat) : Rests (s.socketsChanged n) := by
  unfold State.socketsChanged
  split
  · exact h.calm (State.Calm.foldl (fun c k => k.triggerOccurs c) (.refl s) _)
  · exact h

theorem Rests.baseChanged (h : Rests s) (k : CanChannel) : Rests (s.baseChanged k) := by
  unfold State.baseChanged
  split
  · exact h.calm ((State.Calm.refl s).takeBases k)
  · exact h

theorem Rests.settingChanged (h : Rests s) (i : SettingId) (n : Nat) : Rests (s.settingChanged i n) := by
  unfold State.settingChanged
  split
  · split
    · exact h.attentionCheck.settleSweep 3
    · exact h
  · exact h.baseChanged _
  · exact h.baseChanged _
  · exact h.baseChanged _
  · exact h.baseChanged _
  · exact h.calm ((State.Calm.refl s).withCan _ _)
  · exact h.calm ((State.Calm.refl s).withCan _ _)
  · exact h.calm ((State.Calm.refl s).withLine _)
  · exact h.socketsChanged _
  · exact h

theorem Rests.putSetting (h : Rests s) (i : SettingId) (v : Word16) : Rests (s.putSetting i v) := by
  have hw : Rests (s.withSetting i v) := h.calm ((State.Calm.refl s).withSetting i v)
  unfold State.putSetting
  dsimp only
  split
  · exact hw
  · exact hw.settingChanged _ _

theorem Rests.putSettings (h : Rests s) (ps : List (SettingId × Word16)) : Rests (s.putSettings ps) := by
  unfold State.putSettings
  generalize allSettings = is
  induction is generalizing s with
  | nil => exact h
  | cons i is ih =>
    refine ih ?_
    dsimp only
    split
    · exact h.putSetting _ _
    · exact h

theorem AtRest.handleSettingsPut (p : List Byte) (h : AtRest s) : AtRest (s.handleSettingsPut p) := by
  unfold State.handleSettingsPut
  split
  · exact h.reply _ _ _
  · split
    · exact h.reply _ _ _
    · split
      · exact h.reply _ _ _
      · split
        · exact h.reply _ _ _
        · exact atRest_closeStep ((h.reply _ _ _).rests.putSettings _)

theorem AtRest.handleSettingsGet (p : List Byte) (h : AtRest s) : AtRest (s.handleSettingsGet p) := by
  unfold State.handleSettingsGet
  (repeat' split) <;> exact h.reply _ _ _

/-! ### SWEEP, HALT, CHANNEL_RESUME and RESET -/

theorem AtRest.handleSweep (p : List Byte) (h : AtRest s) : AtRest (s.handleSweep p) := by
  unfold State.handleSweep
  split
  · exact h.reply _ _ _
  · split
    · exact h.reply _ _ _
    · next hk =>
      split
      · exact h.reply _ _ _
      · exact atRest_closeStep (.startSweep (by simpa using hk) _ _ _)

/-- A halt taken leaves the lists empty and the slots that go on as they are (R13, R14). -/
theorem Rests.takeHalt (h : Rests s) (hs : s.sweep.state = .running) : Rests s.takeHalt := by
  have hk := h.key_on (by rw [hs]; decide)
  have hr : Rests (s.withSweep { s.sweep with state := .halting, haltTaken := true, lists := ⟨[], [], []⟩ }) :=
    ⟨fun hn => absurd (hk.symm.trans hn) (by decide), fun hn => SweepState.noConfusion hn,
      fun _ c => by cases c <;> rfl⟩
  exact hr.calm (State.Calm.foldl (fun c k => k.haltSlot c) (.refl _) allChannels)

theorem AtRest.handleHalt (p : List Byte) (h : AtRest s) : AtRest (s.handleHalt p) := by
  unfold State.handleHalt
  dsimp only
  split
  · exact (h.reply _ _ _).ite (fun hs => atRest_closeStep ((h.reply _ _ _).rests.takeHalt hs))
  · exact h.reply _ _ _

theorem calm_prepareController (s : State) (c : Channel) (b : Bool) : s.Calm (s.prepareController c b) := by
  unfold State.prepareController State.freshController
  split
  · exact .refl s
  · dsimp only
    split
    · exact ((State.Calm.refl s).withCan _ _).withCan _ _
    · exact (State.Calm.refl s).withCan _ _

theorem AtRest.reopen (h : AtRest s) (c : Channel) : AtRest (s.reopen c) := by
  unfold State.reopen
  dsimp only
  split
  · exact h.closeStep ((((calm_prepareController s c _).withShareOf _ _).reply _ _ _).notify _)
  · exact h.closeStep (((calm_prepareController s c _).withShareOf _ _).reply _ _ _)

theorem AtRest.handleChannelResume (p : List Byte) (h : AtRest s) : AtRest (s.handleChannelResume p) := by
  unfold State.handleChannelResume
  split
  · split
    · exact h.reply _ _ _
    · unfold State.resumeChannel
      split
      · exact h.reply _ _ _
      · split
        · exact h.reply _ _ _
        · exact h.reopen _
  · exact h.reply _ _ _

/-- A slot reset is FREE, and beside it only its channel's frames are touched (R51). -/
theorem resetSlot_facts (s : State) (c : Channel) :
    (s.resetSlot c).sweep = s.sweep ∧ (s.resetSlot c).key = s.key ∧ (s.resetSlot c).share = s.share
      ∧ ((s.resetSlot c).slot c).state = .free ∧ ∀ d, d ≠ c → (s.resetSlot c).slot d = s.slot d := by
  have hf := (State.FramesOnly.withdraw s c).trans (.standDown _ c)
  have hr := State.FramesOnly.freeSlot ((s.withdraw c).standDown c) c
  refine ⟨hr.sweep.trans hf.sweep, hr.key.trans hf.key, hr.share.trans hf.share, ?_, fun d hd => ?_⟩
  · exact congrArg Slot.state (State.slot_freeSlot _ c)
  · exact (State.slot_freeSlot_other _ hd).trans (State.slot_congr hf.slots d)

/-- The share state recomputed at an engine reset is that of its channel alone, and waits for no yield (R164). -/
theorem resetShare_facts (s : State) (c : Channel) :
    (s.resetShare c).sweep = s.sweep ∧ (s.resetShare c).key = s.key ∧ (s.resetShare c).slots = s.slots
      ∧ (s.resetShare c).shareState c ≠ .yieldPending
      ∧ ∀ d, d ≠ c → (s.resetShare c).shareState d = s.shareState d := by
  have hst : ∀ (u : State) (x : ShareState), (u.withShareState c x).shareState c = x := fun u x =>
    u.shareState_withShareState c x
  have hot : ∀ (u : State) (x : ShareState) (d : Channel), d ≠ c → (u.withShareState c x).shareState d = u.shareState d :=
    fun u x d hd => u.shareState_withShareState_other hd x
  unfold State.resetShare
  split
  · next h => exact ⟨rfl, rfl, rfl, by rw [h]; decide, fun _ _ => rfl⟩
  · next h => exact ⟨rfl, rfl, rfl, by rw [h]; decide, fun _ _ => rfl⟩
  · dsimp only
    split
    · split
      · exact ⟨rfl, rfl, rfl, by rw [hst]; decide, hot s _⟩
      · exact ⟨rfl, rfl, rfl, fun h => absurd ((hst s _).symm.trans h) (by decide), hot s _⟩
    · split
      · exact ⟨rfl, rfl, rfl, fun h => absurd ((hst s _).symm.trans h) (by decide), hot s _⟩
      · exact ⟨rfl, rfl, rfl, by rw [hst]; decide, hot s _⟩

/-- Every slot reset is FREE (R51). -/
theorem resetSlots_facts (s : State) :
    (allChannels.foldl State.resetSlot s).sweep = s.sweep ∧ (allChannels.foldl State.resetSlot s).key = s.key
      ∧ ∀ c, ((allChannels.foldl State.resetSlot s).slot c).state = .free := by
  simp only [allChannels, List.foldl_cons, List.foldl_nil]
  obtain ⟨wa, ka, -, fa, -⟩ := resetSlot_facts s .a
  obtain ⟨wb, kb, -, fb, ob⟩ := resetSlot_facts (s.resetSlot .a) .b
  obtain ⟨ws, ks, -, fs, os⟩ := resetSlot_facts ((s.resetSlot .a).resetSlot .b) .s
  refine ⟨ws.trans (wb.trans wa), ks.trans (kb.trans ka), fun c => ?_⟩
  cases c
  · rw [os .a (by decide), ob .a (by decide), fa]
  · rw [os .b (by decide), fb]
  · exact fs

/-- Every share state recomputed, none waits for a yield (R164). -/
theorem resetShares_facts (s : State) :
    (allChannels.foldl State.resetShare s).sweep = s.sweep ∧ (allChannels.foldl State.resetShare s).key = s.key
      ∧ (allChannels.foldl State.resetShare s).slots = s.slots
      ∧ ∀ c, (allChannels.foldl State.resetShare s).shareState c ≠ .yieldPending := by
  simp only [allChannels, List.foldl_cons, List.foldl_nil]
  obtain ⟨wa, ka, la, fa, -⟩ := resetShare_facts s .a
  obtain ⟨wb, kb, lb, fb, ob⟩ := resetShare_facts (s.resetShare .a) .b
  obtain ⟨ws, ks, ls, fs, os⟩ := resetShare_facts ((s.resetShare .a).resetShare .b) .s
  refine ⟨ws.trans (wb.trans wa), ks.trans (kb.trans ka), ls.trans (lb.trans la), fun c => ?_⟩
  cases c
  · rw [os .a (by decide), ob .a (by decide)]; exact fa
  · rw [os .b (by decide)]; exact fb
  · exact fs

/-- Outputs recomputed over an idle controller with FREE slots and no waiting yield: the part is at rest. -/
theorem atRest_recomputeOutputs (hp : ∀ c, s.shareState c ≠ .yieldPending) (hi : s.sweep.state = .idle)
    (hr : Rests s) : AtRest s.recomputeOutputs :=
  ⟨⟨fun c hc => absurd hc (hp c), State.sweepDone_of_idle hi, rfl, rfl⟩, hr⟩

theorem AtRest.engineReset (h : AtRest s) : AtRest s.engineReset := by
  obtain ⟨w1, k1, f1⟩ := resetSlots_facts (s.withSweep s.sweep.atEngineReset)
  have hdef : s.engineReset = (allChannels.foldl State.resetShare
      (((allChannels.foldl State.resetSlot (s.withSweep s.sweep.atEngineReset)).withHistory
        (allChannels.foldl State.resetSlot (s.withSweep s.sweep.atEngineReset)).history.clearAllSighted).withLine
        (allChannels.foldl State.resetSlot (s.withSweep s.sweep.atEngineReset)).line.resetDetector)).recomputeOutputs := rfl
  rw [hdef]
  generalize allChannels.foldl State.resetSlot (s.withSweep s.sweep.atEngineReset) = u at w1 k1 f1
  obtain ⟨w2, k2, l2, p2⟩ :=
    resetShares_facts ((u.withHistory u.history.clearAllSighted).withLine u.line.resetDetector)
  generalize allChannels.foldl State.resetShare ((u.withHistory u.history.clearAllSighted).withLine u.line.resetDetector) = v
    at w2 k2 l2 p2
  have hw : v.sweep = s.sweep.atEngineReset := w2.trans w1
  have hk : v.key = s.key := k2.trans k1
  refine atRest_recomputeOutputs p2 (by rw [hw]; rfl) ⟨fun hn => ?_, fun _ => ⟨by rw [hw]; rfl, fun c => ⟨?_, ?_⟩⟩,
    fun hn => ?_⟩
  · rw [hk] at hn ⊢
    exact ⟨by rw [hw]; rfl, (h.2.1 hn).2⟩
  · rw [State.workList, hw]
    cases c <;> rfl
  · exact (congrArg Slot.state (State.slot_congr l2 c)).trans (f1 c)
  · rw [hw] at hn
    exact SweepState.noConfusion hn

theorem AtRest.handleReset (p : List Byte) (h : AtRest s) : AtRest (s.handleReset p) := by
  unfold State.handleReset
  split
  · exact ((h.reply _ _ _).withLink _).engineReset
  · exact h.reply _ _ _

/-- Every request carried out leaves the part at rest (R169). -/
theorem AtRest.handleFrame (f : HostFrame) (h : AtRest s) : AtRest (s.handleFrame f) := by
  unfold State.handleFrame
  split
  · exact AtRest.handleIdent _ h
  · exact AtRest.handleStatus _ h
  · exact AtRest.handleTablePut _ h
  · exact AtRest.handleTableGet _ h
  · exact AtRest.handleTableRemove _ h
  · exact AtRest.handleProfileLoad _ h
  · exact AtRest.handleProfileGet _ h
  · exact AtRest.handleProfileUnload _ h
  · exact AtRest.handleBind _ h
  · exact AtRest.handleDecline _ h
  · exact AtRest.handleBindingsGet _ h
  · exact AtRest.handleSettingsPut _ h
  · exact AtRest.handleSettingsGet _ h
  · exact AtRest.handleReferenceSet _ h
  · exact AtRest.handleSweep _ h
  · exact AtRest.handleHalt _ h
  · exact AtRest.handleChannelResume _ h
  · exact AtRest.handleHistoryRead _ h
  · exact AtRest.handleHistoryPurge _ h
  · exact AtRest.handleReset _ h
  · exact h.reply _ _ _

/-! ### The timebase (R179) -/

theorem AtRest.countDown (h : AtRest s) : AtRest s.countDown := by
  refine h.still ⟨fun c => ?_, rfl, rfl, rfl, fun c => ?_, rfl, rfl, fun _ => rfl, rfl, fun hn => ?_⟩
  · cases c <;> rfl
  · cases c <;> rfl
  · show tickTimer s.key.settle = none
    rw [hn]
    rfl

theorem AtRest.withKeyRun (h : AtRest s) (n : Nat) : AtRest { s with key := { s.key with run := n } } :=
  h.still ⟨fun _ => rfl, rfl, rfl, rfl, fun _ => rfl, rfl, rfl, fun _ => rfl, rfl, fun hn => hn⟩

theorem AtRest.withDebounce (h : AtRest s) (n : Nat) : AtRest { s with share := { s.share with debounce := n } } :=
  h.still ⟨fun _ => rfl, rfl, rfl, rfl, fun _ => rfl, rfl, rfl, fun _ => rfl, rfl, fun hn => hn⟩

theorem AtRest.keyFilter (h : AtRest s) : AtRest s.keyFilter := by
  unfold State.keyFilter
  split
  · exact h.withKeyRun 0
  · split
    · split
      · exact h.keyOn
      · exact h.keyOff
    · exact h.withKeyRun _

theorem AtRest.tpresFilter (h : AtRest s) : AtRest s.tpresFilter := by
  unfold State.tpresFilter
  split
  · exact h.withDebounce 0
  · split
    · exact h.tpresChange _
    · exact h.withDebounce _

theorem AtRest.chassisTick (h : AtRest s) : AtRest s.chassisTick := by
  unfold State.chassisTick
  refine h.ite (fun _ => ?_)
  split
  · exact h.chassisAdvance
  · exact h.still (.withClock s _)

theorem AtRest.responseEnds (h : AtRest s) (c : Channel) : AtRest (s.responseExpired c).closeStep :=
  h.closeStep ((State.Calm.refl s).responseExpired c)

theorem AtRest.bootEnds (h : AtRest s) (c : Channel) : AtRest (s.bootTimerExpired c).closeStep :=
  h.closeStep ((State.Calm.refl s).bootTimerExpired c)

theorem AtRest.referralEnds (h : AtRest s) (c : Channel) : AtRest (s.referralExpired c).closeStep :=
  h.closeStep ((State.Calm.refl s).referralExpired c)

theorem AtRest.slotExpiries (h : AtRest s) (c : Channel) : AtRest (s.slotExpiries c) := by
  have h1 := h.ite (p := due ((s.slot c).response.map ResponseTimer.left)) (fun _ => h.responseEnds c)
  unfold State.slotExpiries
  dsimp only
  generalize (if due ((s.slot c).response.map ResponseTimer.left) then (s.responseExpired c).closeStep else s) = u at h1
  have h2 := h1.ite (p := due (u.slot c).boot) (fun _ => h1.bootEnds c)
  generalize (if due (u.slot c).boot then (u.bootTimerExpired c).closeStep else u) = v at h2
  have h3 := h2.ite (p := due ((v.slot c).keepAwake.map AutoTimer.left)) (fun _ => h2.keepAwakeExpired c)
  exact h3.ite (fun _ => h3.referralEnds c)

theorem AtRest.canExpiries (h : AtRest s) (k : CanChannel) : AtRest (s.canExpiries k) := by
  have h1 := h.ite (p := due (s.canCtl k).gap) (fun _ => h.withCan k (s.canCtl k).gapExpired)
  exact h1.ite (fun _ => h1.withCan k _)

theorem AtRest.lineExpiries (h : AtRest s) : AtRest s.lineExpiries := by
  unfold State.lineExpiries
  dsimp only
  have h1 := h.withLine s.line.countWidth
  generalize s.withLine s.line.countWidth = u1 at h1
  have h2 := h1.ite (p := due u1.line.release) (fun _ => h1.withLine u1.line.releaseExpired)
  generalize (if due u1.line.release then u1.withLine u1.line.releaseExpired else u1) = u2 at h2
  have h3 : AtRest (if due u2.line.turnaround then u2.turnaroundExpired else u2) :=
    h2.ite (fun _ => h2.ite (fun _ => h2.withLine _))
  generalize (if due u2.line.turnaround then u2.turnaroundExpired else u2) = u3 at h3
  have h4 := h3.ite (p := due u3.line.stuckTimer) (fun _ => h3.stuckExpired)
  generalize (if due u3.line.stuckTimer then u3.stuckExpired else u3) = u4 at h4
  have h5 := h4.ite (p := due u4.line.stuckClear) (fun _ => h4.withLine u4.line.stuckCleared)
  exact h5.ite (fun _ => h5.wakePatternEnd)

theorem AtRest.holdExpiries (h : AtRest s) (c : Channel) : AtRest (s.holdExpiries c) := h.ite (fun _ => h.holdExpired c)

theorem AtRest.sampleTick (h : AtRest s) : AtRest s.sampleTick := (AtRest.takeSamples _ _ h).withLine _

theorem AtRest.tick (h : AtRest s) : AtRest s.tick := by
  unfold State.tick
  dsimp only
  have h1 := h.sampleTick.countDown.keyFilter.tpresFilter.chassisTick
  generalize s.sampleTick.countDown.keyFilter.tpresFilter.chassisTick = u1 at h1
  have h2 := h1.ite (p := due u1.link.assembler.gap) (fun _ => h1.hostGapExpired)
  generalize (if due u1.link.assembler.gap then u1.hostGapExpired else u1) = u2 at h2
  have h3 := AtRest.foldl (fun c k => k.holdExpiries c) h2 allChannels
  have h4 := AtRest.foldl (fun c k => k.canExpiries c) h3 allCanChannels
  have h5 := (AtRest.foldl (fun c k => k.slotExpiries c) h4 allChannels).lineExpiries
  exact h5.ite (fun _ => h5.settleExpired)

/-! ### The step -/

/-- Every command leaves the part at rest. -/
theorem AtRest.exec (h : AtRest s) (i : Instr) (ht : exec i s = .next t) : AtRest t := by
  cases i <;> cases ht
  case ident p => exact h.takeRequest _ (AtRest.handleIdent p)
  case status p => exact h.takeRequest _ (AtRest.handleStatus p)
  case tablePut p => exact h.takeRequest _ (AtRest.handleTablePut p)
  case tableGet p => exact h.takeRequest _ (AtRest.handleTableGet p)
  case tableRemove p => exact h.takeRequest _ (AtRest.handleTableRemove p)
  case profileLoad p => exact h.takeRequest _ (AtRest.handleProfileLoad p)
  case profileGet p => exact h.takeRequest _ (AtRest.handleProfileGet p)
  case profileUnload p => exact h.takeRequest _ (AtRest.handleProfileUnload p)
  case bind p => exact h.takeRequest _ (AtRest.handleBind p)
  case decline p => exact h.takeRequest _ (AtRest.handleDecline p)
  case bindingsGet p => exact h.takeRequest _ (AtRest.handleBindingsGet p)
  case settingsPut p => exact h.takeRequest _ (AtRest.handleSettingsPut p)
  case settingsGet p => exact h.takeRequest _ (AtRest.handleSettingsGet p)
  case referenceSet p => exact h.takeRequest _ (AtRest.handleReferenceSet p)
  case sweep p => exact h.takeRequest _ (AtRest.handleSweep p)
  case halt p => exact h.takeRequest _ (AtRest.handleHalt p)
  case channelResume p => exact h.takeRequest _ (AtRest.handleChannelResume p)
  case historyRead p => exact h.takeRequest _ (AtRest.handleHistoryRead p)
  case historyPurge p => exact h.takeRequest _ (AtRest.handleHistoryPurge p)
  case reset p => exact h.takeRequest _ (AtRest.handleReset p)
  case unknownKindRequest k p => exact h.takeRequest _ (AtRest.handleFrame _)
  case hostFrameReceived bs => exact AtRest.foldl (fun b k => k.receiveByte b) h bs
  case hostGapTimerExpiry => exact h.hostGapExpired
  case outboundFrameSent => exact h.withLink _
  case dialogStart c => exact h.dialogStart c
  case idReply c g k f => exact h.serviceReceived c _
  case pageHead c n k l f w => exact h.serviceReceived c _
  case segment c n bs => exact h.ite (fun _ => h.serviceReceived c _)
  case holdOn c n => exact h.serviceReceived c _
  case deny c n => exact h.serviceReceived c _
  case eraseDone c => exact h.serviceReceived c _
  case responseTimerExpiry c => exact h.responseEnds c
  case bootTimerExpiry c => exact h.bootEnds c
  case keepAwakeTimerExpiry c => exact h.keepAwakeExpired c
  case referralTimerExpiry c => exact h.referralEnds c
  case canAttemptStart k => exact h.withCan k _
  case canFrameSent k => exact h.canFrameSent k
  case arbitrationLost k => exact h.ite (fun _ => h.withCan k _)
  case canTransmitError k => exact h.canTransmitError k
  case canReceiveError k => exact h.ite (fun _ => h.withCan k _)
  case canFrameReceived k f => exact h.ite (fun _ => h.canFrameReceived k f)
  case foreignTesterRequest k a => exact h.ite (fun _ => h.testerRequest k a)
  case busDominantTimeout k => exact h.ite (fun _ => h.busOff k _)
  case idleSequence k => exact h.ite (fun _ => h.withCan k _)
  case gapTimerExpiry k => exact h.withCan k _
  case windowTimerExpiry k => exact h.withCan k _
  case lineTransmitStart => exact h.lineTransmitStart
  case lineFrameSent => exact h.lineFrameSent
  case lineFrameAbandoned => exact h.lineFrameAbandoned
  case turnaroundTimerExpiry => exact h.ite (fun _ => h.withLine _)
  case lineFrameReceived bs => exact h.lineFrameReceived bs
  case lineFrameDiscarded => exact h.withLine _
  case wakePatternStart => exact h.wakePatternStart
  case wakePatternEnd => exact h.wakePatternEnd
  case stuckTimerExpiry => exact h.stuckExpired
  case stuckClearTimerExpiry => exact h.withLine _
  case attentionPulse w => exact h.attentionPulse w
  case widthOverflow => exact h.withLine _
  case releaseTimerExpiry => exact h.withLine _
  case tpresChange b => exact h.tpresChange b
  case releaseHoldTimerExpiry c => exact h.holdExpired c
  case keyOff => exact h.keyOff
  case keyOn => exact h.keyOn
  case settleTimerExpiry => exact h.settleExpired
  case chassisTimeAdvance => exact h.chassisAdvance
  case fullReset p => exact atRest_afterReset p s.pending
  case lineEdge l n => exact AtRest.takeSamples l n h
  case receiverLocked ns l => exact h.withLine _

theorem AtRest.idleStep (h : AtRest s) : AtRest s.idleStep := by
  unfold State.idleStep
  split
  · exact h.tick
  · split
    · exact (AtRest.handleFrame _ ((h.withLink _).withLink _)).withLink _
    · exact h.tick

/-- Settles O59: a step is the part's own work or a command, and each leaves the part at rest. -/
theorem everyStepComesToRest : Obligations.EveryStepComesToRest := by
  unfold Obligations.EveryStepComesToRest
  intro s t h ht
  unfold step at ht
  split at ht
  · cases ht
    exact h.idleStep
  · next i rest _ =>
    have hp : AtRest { s with pending := rest } := h.still (.of_same (fun _ => rfl) rfl rfl rfl rfl rfl rfl)
    exact hp.exec i ht

end Sys2Proof.Claim
end

section
/-! Key-on and the expiry of the settle timer (R20, R163, R178). -/

namespace Sys2Proof.Machine

/-- Where no channel has reached its yield and no sweep its end, the end of a step recomputes the outputs alone. -/
theorem State.closeStep_of_quiet {s : State} (hy : ∀ c, ¬ s.yieldReached c) (hd : s.sweepDone = false) :
    s.closeStep = s.recomputeOutputs := by
  have h : allChannels.foldl State.yieldSettle s = s :=
    (State.yieldSettle_only (c := .a) (fun d _ => hy d)).trans (State.yieldSettle_of_not_reached (hy .a))
  rw [State.closeStep, h, State.settleSweep_of_not_done hd]

end Sys2Proof.Machine

namespace Sys2Proof.Claim

open Sys2Proof.Machine

/-! ### One channel woken (R163) -/

/-- The notice of a channel woken, where it queues one (R163). -/
def wakeNotices (s : State) (c : Channel) : List Notice :=
  ((awakened s c).2.1.map (fun e => Notice.channelEvent c e (awakened s c).2.2)).toList

theorem wakeSilenced_eq (s : State) (c : Channel) (x : Cause) :
    s.wakeSilenced c x =
      (s.withShareOf c { s.shareOf c with state := .silenced, causes := ({} : Causes).add x }).withLink
        ([Notice.channelEvent c .silenced (some x)].foldl Link.notify s.link) := rfl

/-- A channel that its controller does not silence, woken: by its trigger and its tester action (R163). -/
theorem wakeTriggered_eq (s : State) (c : Channel) (hc : s.controllerCause c = none)
    (ha : awakened s c =
      if s.yieldTrigger c then
        if s.setting (testerActionSetting c) = 1 then
          ({ s.shareOf c with state := .silenced, causes := { tester := true } }, some .silenced, some .tester)
        else ({ s.shareOf c with state := .yielded }, some .yielded, none)
      else ({ s.shareOf c with state := .opened }, none, none)) :
    s.wakeChannel c =
      (s.withShareOf c (awakened s c).1).withLink ((wakeNotices s c).foldl Link.notify s.link) := by
  unfold State.wakeChannel wakeNotices
  rw [hc, ha]
  by_cases ht : s.yieldTrigger c = true
  · by_cases hx : s.setting (testerActionSetting c) = 1
    · have : s.testerSilences c = true := by simpa [State.testerSilences] using hx
      simp only [ht, hx, this, if_true]
      exact wakeSilenced_eq s c .tester
    · have : s.testerSilences c = false := by simpa [State.testerSilences] using hx
      simp only [ht, hx, this, if_true]
      rfl
  · simp only [ht]
    rfl

/-- A channel that its controller silences, woken (R163). -/
theorem wakeCaused_eq (s : State) (c : Channel) (x : Cause) (hc : s.controllerCause c = some x)
    (ha : awakened s c =
      ({ s.shareOf c with state := .silenced, causes := ({} : Causes).add x }, some .silenced, some x)) :
    s.wakeChannel c =
      (s.withShareOf c (awakened s c).1).withLink ((wakeNotices s c).foldl Link.notify s.link) := by
  unfold State.wakeChannel wakeNotices
  rw [hc, ha]
  exact wakeSilenced_eq s c x

theorem onLine_iff (k : Can) : k.onLine = true ↔ onBus k := by
  simp [Can.onLine, onBus]

/-- Key-on decides a channel as R163 says, and queues its notice. -/
theorem wakeChannel_eq (s : State) (c : Channel) :
    s.wakeChannel c =
      (s.withShareOf c (awakened s c).1).withLink ((wakeNotices s c).foldl Link.notify s.link) := by
  cases c with
  | a =>
    by_cases h : onBus s.can.a
    · exact wakeTriggered_eq s .a (if_pos ((onLine_iff _).mpr h)) (if_pos h)
    · exact wakeCaused_eq s .a .busOff (if_neg (fun hn => h ((onLine_iff _).mp hn))) (if_neg h)
  | b =>
    by_cases h : onBus s.can.b
    · exact wakeTriggered_eq s .b (if_pos ((onLine_iff _).mpr h)) (if_pos h)
    · exact wakeCaused_eq s .b .busOff (if_neg (fun hn => h ((onLine_iff _).mp hn))) (if_neg h)
  | s =>
    by_cases h : s.line.stuck = true
    · exact wakeCaused_eq s .s .lineStuck (if_pos h) (if_pos h)
    · exact wakeTriggered_eq s .s (if_neg h) (if_neg h)

/-- What key-on makes of a channel does not read another channel's share items. -/
theorem awakened_other (s : State) {c d : Channel} (h : d ≠ c) (x : ShareChannel) (l : Link) :
    awakened ((s.withShareOf c x).withLink l) d = awakened s d := by
  have hs : ((s.withShareOf c x).withLink l).shareOf d = s.shareOf d := s.shareOf_withShareOf_other h x
  have ht : ((s.withShareOf c x).withLink l).yieldTrigger d = s.yieldTrigger d := by
    simp only [State.yieldTrigger, hs]
    rfl
  unfold awakened
  simp only [hs, ht]
  rfl

/-! ### Every channel woken -/

/-- The notices of key-on, in the order A, B, S (R163). -/
def keyOnNotices (s : State) : List Notice := [Channel.a, .b, .s].flatMap (wakeNotices s)

/-- The channels' share items after key-on. -/
def wokenShares (s : State) : PerChannel ShareChannel := ⟨(awakened s .a).1, (awakened s .b).1, (awakened s .s).1⟩

/-- Key-on decides the channels in turn, each as it finds it (R163). -/
theorem wakeChannels_eq (s : State) :
    allChannels.foldl State.wakeChannel s =
      { s with
        share := { s.share with channels := wokenShares s }, link := (keyOnNotices s).foldl Link.notify s.link } := by
  have hb : ∀ x l, wakeNotices ((s.withShareOf .a x).withLink l) .b = wakeNotices s .b := fun x l => by
    simp only [wakeNotices, awakened_other s (by decide : Channel.b ≠ .a)]
  have hs : ∀ x l y m, awakened ((((s.withShareOf .a x).withLink l).withShareOf .b y).withLink m) .s = awakened s .s :=
    fun x l y m => (awakened_other _ (by decide) _ _).trans (awakened_other s (by decide) _ _)
  have hn : ∀ x l y m, wakeNotices ((((s.withShareOf .a x).withLink l).withShareOf .b y).withLink m) .s = wakeNotices s .s :=
    fun x l y m => by simp only [wakeNotices, hs]
  have hl : ∀ (u : State) d x l, ((u.withShareOf d x).withLink l).link = l := fun _ _ _ _ => rfl
  have hall : ∀ x y z l m n,
      (((((s.withShareOf .a x).withLink l).withShareOf .b y).withLink m).withShareOf .s z).withLink n =
        { s with share := { s.share with channels := ⟨x, y, z⟩ }, link := n } := by
    intros
    simp only [State.withShareOf, State.withLink, PerChannel.set]
  simp only [allChannels, List.foldl_cons, List.foldl_nil, wakeChannel_eq, awakened_other s (by decide : Channel.b ≠ .a),
    hb, hs, hn, hl, hall, keyOnNotices, wokenShares, List.flatMap_cons, List.flatMap_nil, List.append_nil,
    List.foldl_append]

/-- A CAN controller as key-on leaves it: its rate from the settings, and a fresh load window (R127, R138). -/
def wokenCan (s : State) (k : CanChannel) : Can :=
  { s.canCtl k with rate := CanRate.ofKbit (s.setting (rateSetting k)) }.freshWindow

theorem freshControllers_eq (s : State) :
    allCanChannels.foldl State.freshController s = { s with can := ⟨wokenCan s .a, wokenCan s .b⟩ } := rfl

/-- Wake sent to the share unit and the CAN controllers (R163). -/
theorem wake_eq (s : State) :
    s.wake = { s with
      share := { s.share with channels := wokenShares s }, link := (keyOnNotices s).foldl Link.notify s.link,
      can := ⟨wokenCan s .a, wokenCan s .b⟩ }.recomputeOutputs := by
  rw [State.wake, wakeChannels_eq, freshControllers_eq]
  rfl

/-- The state after key-on (R163, R178). -/
theorem keyOn_eq {s : State} (h : s.key.on = false) :
    s.keyOn = { ({ s with
        share := { s.share with channels := wokenShares s }, link := (keyOnNotices s).foldl Link.notify s.link,
        can := ⟨wokenCan s .a, wokenCan s .b⟩, pins := { s.pins with key := true } } : State).recomputeOutputs with
      key := { s.key with on := true, run := 0, settle := some (s.setting .keyOnSettle * 1000) } } := by
  rw [State.keyOn, if_neg (by rw [h]; decide)]
  dsimp only
  rw [wake_eq]
  rfl

theorem keyOnNotices_eq (s : State) :
    (keyOnNotices s).map OutFrame.notice =
      [Channel.a, .b, .s].filterMap (fun c =>
        (awakened s c).2.1.map (fun e => OutFrame.notice (.channelEvent c e (awakened s c).2.2))) := by
  have h1 : ∀ c, (wakeNotices s c).map OutFrame.notice =
      ((awakened s c).2.1.map (fun e => OutFrame.notice (.channelEvent c e (awakened s c).2.2))).toList := by
    intro c
    unfold wakeNotices
    cases (awakened s c).2.1 <;> rfl
  rw [keyOnNotices, List.map_flatMap, List.filterMap_eq_flatMap_toList]
  simp only [h1]

theorem freshWindow_rate (k : Can) : k.freshWindow.rate = k.rate := by
  unfold Can.freshWindow
  split <;> rfl

theorem keyOnDecidesEachChannel : KeyOnDecidesEachChannel := by
  intro s hoff
  dsimp only
  refine ⟨s.keyOn, rfl, ?_⟩
  rw [keyOn_eq hoff]
  refine ⟨rfl, fun c => ?_, fun hroom => ?_, rfl, rfl, fun k => ⟨?_, fun hon => ?_⟩, rfl, rfl, rfl, rfl, rfl, rfl, rfl, rfl⟩
  · cases c <;> rfl
  · rw [← keyOnNotices_eq] at hroom ⊢
    rw [List.length_map] at hroom
    exact Link.foldl_notify_room _ hroom
  · cases k <;> exact freshWindow_rate _
  · have hf : wokenCan s k = _ := if_pos ((onLine_iff (s.canCtl k)).mpr hon)
    cases k <;> exact ⟨congrArg Can.window hf, congrArg Can.windowCount hf, congrArg Can.verdict hf⟩

/-! ### The expiry of the settle timer (R20, R178) -/

/-- The key with the settle time over (R178). -/
def settleOver (s : State) : State := { s with key := { s.key with settle := none, settled := true } }

theorem Settled.settleOver {s : State} (h : Settled s) : Settled (settleOver s) :=
  h.of_same (fun _ => rfl) (fun _ => rfl) rfl rfl rfl

theorem settleExpired_eq {s : State} {left : Nat} (h : s.key.settle = some left) :
    exec .settleTimerExpiry s = .next (if s.keyOnSweepCalled && s.sweep.state == .idle
      then (settleOver s).startSweep .keyOn s.defaultOptions .all else (settleOver s).attentionCheck).closeStep := by
  have : s.settleExpired = (if s.keyOnSweepCalled && s.sweep.state == .idle
      then (settleOver s).startSweep .keyOn s.defaultOptions .all else (settleOver s).attentionCheck).closeStep := by
    unfold State.settleExpired
    rw [h]
    rfl
  rw [← this]
  rfl

/-- Where no key-on sweep starts and no attention sweep is due, only settle expired is set (R178). -/
theorem settleExpired_quiet {s : State} {left : Nat} (hs : Settled s) (h : s.key.settle = some left)
    (hc : (s.keyOnSweepCalled && s.sweep.state == .idle) = false) (hd : (settleOver s).attentionDue = false) :
    exec .settleTimerExpiry s = .next (settleOver s) := by
  rw [settleExpired_eq h, hc, if_neg (by decide), State.attentionCheck_of_not_due hd, closeStep_settled hs.settleOver]

/-- A notice is queued behind what the outbound queue holds, or dropped (R168). -/
theorem prefix_notify (l : Link) (n : Notice) : l.outbound <+: (l.notify n).outbound := by
  unfold Link.notify
  split
  · exact List.prefix_append _ _
  · exact List.prefix_refl _

theorem prefix_foldl_notify (ns : List Notice) : ∀ l : Link, l.outbound <+: (ns.foldl Link.notify l).outbound := by
  induction ns with
  | nil => exact fun l => List.prefix_refl _
  | cons n ns ih => exact fun l => (prefix_notify l n).trans (ih _)

/-- A sweep started from a settled state with a module to place goes on (R4, R12). -/
theorem Settled.startSweep {s : State} (h : Settled s) {k : SweepKind} {o : SweepOptions} {x : Scope} {c : Channel}
    (hl : (s.startSweep k o x).workList c ≠ []) :
    (s.startSweep k o x).closeStep = (s.startSweep k o x).recomputeOutputs := by
  refine State.closeStep_of_quiet (fun d hd => h.not_reached d ?_) (State.sweepDone_of_listed hl)
  rwa [State.yieldReached, State.shareState_congr (s.startSweep_share k o x),
    State.slot_congr (s.startSweep_slots k o x)] at hd

theorem skipsUnder_default (s : State) (i : ModuleIndex) :
    s.skipsUnder s.defaultOptions i = true ↔ skippedByDefault s i := by
  simp [State.skipsUnder, skippedByDefault, State.defaultOptions]

theorem skipsUnder_default_false (s : State) (i : ModuleIndex) :
    s.skipsUnder s.defaultOptions i = false ↔ ¬ skippedByDefault s i := by
  rw [← skipsUnder_default, Bool.not_eq_true]

theorem inScope_all (s : State) (i : ModuleIndex) : s.inScope .all i = true ↔ (s.entry i).inUse = true := by
  simp [State.inScope]

/-- The key-on sweep, as it starts (R4, R5, R20). -/
theorem keyOnSweep_starts {s : State} {left : Nat} (hs : Settled s) (h : s.key.settle = some left)
    (hidle : s.sweep.state = .idle) (hcall : s.keyOnSweepCalled = true)
    (hplace : ∃ i, (s.entry i).inUse = true ∧ ¬ skippedByDefault s i) :
    exec .settleTimerExpiry s = .next ((settleOver s).startSweep .keyOn s.defaultOptions .all).recomputeOutputs := by
  obtain ⟨i, hi, hn⟩ := hplace
  rw [settleExpired_eq h, hcall, hidle, if_pos (by rfl)]
  have hmem : i ∈ ((settleOver s).startSweep .keyOn s.defaultOptions .all).workList (s.entry i).channel :=
    State.mem_workList_startSweep _ _ _ _ |>.mpr ⟨(inScope_all s i).mpr hi, (skipsUnder_default_false s i).mpr hn, rfl⟩
  rw [hs.settleOver.startSweep (List.ne_nil_of_mem hmem)]

theorem settleExpiryStartsTheKeyOnSweep : SettleExpiryStartsTheKeyOnSweep := by
  intro s left hs _ hleft
  refine ⟨fun hrun => ?_, fun hidle hauto hksw hatt => ?_, fun hidle hcall hplace => ?_⟩
  · refine settleExpired_quiet hs hleft ?_ ?_
    · simp [hrun]
    · simp [State.attentionDue, settleOver, hrun]
  · refine settleExpired_quiet hs hleft ?_ (State.attentionDue_of_off hatt)
    simp [State.keyOnSweepCalled, hauto, hksw]
  · have hc : s.keyOnSweepCalled = true := by simpa [State.keyOnSweepCalled] using hcall
    refine ⟨_, keyOnSweep_starts hs hleft hidle hc hplace, ?_⟩
    have hrest := (settleOver s).startSweep_rest .keyOn s.defaultOptions .all
    have hw := (settleOver s).startSweep_sweep .keyOn s.defaultOptions .all
    have hmem := fun c i => (settleOver s).mem_workList_startSweep .keyOn s.defaultOptions .all (c := c) (i := i)
    have hasc := (settleOver s).workList_startSweep_ascending .keyOn s.defaultOptions .all
    have hent := (settleOver s).startSweep_entry .keyOn s.defaultOptions .all
    have hlink := (settleOver s).startSweep_link .keyOn s.defaultOptions .all
    generalize (settleOver s).startSweep .keyOn s.defaultOptions .all = t at *
    refine ⟨(congrArg State.key hrest :), (congrArg Sweep.state hw :), (congrArg Sweep.kind hw :), (congrArg Sweep.number hw :),
      (congrArg Sweep.options hw :), fun c i => ?_, hasc, fun i hi hsk => ?_, (congrArg State.slots hrest :),
      (congrArg State.history hrest :), (congrArg State.store hrest :), (congrArg State.settings hrest :),
      (congrArg State.clock hrest :), ?_⟩
    · refine (hmem c i).trans ?_
      exact and_congr (inScope_all s i) (and_congr (skipsUnder_default_false s i) Iff.rfl)
    · have := (hent i).trans (if_pos ⟨(inScope_all s i).mpr hi, (skipsUnder_default s i).mpr hsk⟩)
      exact ⟨congrArg Entry.lastOutcome this, congrArg Entry.lastSweep this⟩
    · exact hlink ▸ prefix_foldl_notify _ s.link

/-- Settles O53: key-on by the channels' decisions in turn, the settle expiry by the start of the key-on sweep. -/
theorem keyOnAndSettleExpiry : Obligations.KeyOnAndSettleExpiry :=
  ⟨keyOnDecidesEachChannel, settleExpiryStartsTheKeyOnSweep⟩

end Sys2Proof.Claim
end

section
/-! The start of a dialog (R7, R22, R23, R29), and what handing a frame does to the frames of its channel. -/

namespace Sys2Proof.Machine

/-! ### Handing a frame (R23) -/

/-- Handing fills the holding of its channel's controller and leaves the rest of it. -/
theorem State.handNext_controllers (s : State) (c : Channel) :
    (∀ k : CanChannel, (s.handNext c).canCtl k =
        if k.toChannel = c then { s.canCtl k with holding := ((s.handNext c).canCtl k).holding } else s.canCtl k)
      ∧ (s.handNext c).line = if c = .s then { s.line with holding := (s.handNext c).line.holding } else s.line := by
  have hcan := (State.FramesOf.handNext s c).can
  have hline := (State.FramesOf.handNext s c).line
  refine ⟨fun k => ?_, ?_⟩
  · by_cases hk : k.toChannel = c
    · rw [if_pos hk]
      subst hk
      unfold State.handNext
      split
      · rfl
      · split
        · cases k <;> rfl
        · rfl
    · rw [if_neg hk]
      exact hcan k hk
  · by_cases hc : c = .s
    · rw [if_pos hc]
      subst hc
      unfold State.handNext
      split
      · rfl
      · split <;> rfl
    · rw [if_neg hc]
      exact hline hc

theorem State.hand_controllers (s : State) (c : Channel) (r : TxRequest) (e : Option Nat) :
    (∀ k : CanChannel, (s.hand c r e).canCtl k =
        if k.toChannel = c then { s.canCtl k with holding := ((s.hand c r e).canCtl k).holding } else s.canCtl k)
      ∧ (s.hand c r e).line = if c = .s then { s.line with holding := (s.hand c r e).line.holding } else s.line :=
  State.handNext_controllers _ c

/-- A frame handed behind an unsent one waits, and the frame in progress and the one waiting stay (R22). -/
theorem State.hand_behind_frames {s : State} {c : Channel} (h : s.holdingEmpty c = false) (r : TxRequest) :
    (s.hand c r).waitingFrames c = s.waitingFrames c ++ [{ request := r, dest := s.destination c }]
      ∧ (s.hand c r).frameInProgress c = s.frameInProgress c ∧ (s.hand c r).frameWaiting c = s.frameWaiting c := by
  rw [State.hand_behind h]
  exact ⟨s.waitingFrames_withWaitingFrames c _, rfl, rfl⟩

/-! ### Listening (R147, R152) -/

theorem State.canCtl_startListening (s : State) (c : Channel) (k : CanChannel) :
    (s.startListening c).canCtl k = s.canCtl k := by
  cases c
  · rfl
  · rfl
  · simp only [State.startListening]
    split <;> rfl

theorem State.waitingFrames_startListening (s : State) (c d : Channel) :
    (s.startListening c).waitingFrames d = s.waitingFrames d := by
  cases c
  · rfl
  · rfl
  · simp only [State.startListening]
    split <;> rfl

theorem State.line_startListening (s : State) (c : Channel) :
    (s.startListening c).line =
      if c = .s then
        { s.line with
          receiver := if s.line.transmitter = .idle ∨ s.line.transmitter = .sending then .hunt else s.line.receiver }
      else s.line := by
  cases c
  · rfl
  · rfl
  · have hlets : s.line.transmitter.letsReceive = true ↔ s.line.transmitter = .idle ∨ s.line.transmitter = .sending := by
      cases s.line.transmitter <;> decide
    simp only [State.startListening, if_true]
    split
    · next h => rw [if_pos (hlets.mp h)]; rfl
    · next h => rw [if_neg (h ∘ hlets.mpr)]

/-- Listening moves no frame. -/
theorem State.frames_startListening (s : State) (c : Channel) :
    (s.startListening c).frameInProgress c = s.frameInProgress c
      ∧ (s.startListening c).frameWaiting c = s.frameWaiting c := by
  cases c
  · exact ⟨rfl, rfl⟩
  · exact ⟨rfl, rfl⟩
  · simp only [State.startListening]
    split <;> exact ⟨rfl, rfl⟩

/-! ### A dialog as it starts (R22) -/

/-- The slot of a dialog that starts: WAKING for a sleepy module, IDENTIFYING otherwise (R22). -/
def firstSlot (e : Entry) (i : ModuleIndex) : Slot :=
  if e.sleepy then { state := .waking, module := some i } else { state := .identifying, module := some i }

/-- The first frame of a dialog: the wake pattern for a sleepy module on line S, ASK_ID otherwise (R22, R29). -/
def firstRequest (c : Channel) (e : Entry) : TxRequest := if e.sleepy = true ∧ c = .s then .wake else .askId

/-- The state of a dialog that starts, before its first frame is handed. -/
def State.dialogOpened (s : State) (c : Channel) (i : ModuleIndex) : State :=
  ((s.withEntry i { s.entry i with attention := false }).withSlot c (firstSlot (s.entry i) i)).startListening c

theorem State.startDialog_eq (s : State) (c : Channel) (i : ModuleIndex) :
    s.startDialog c i = (s.dialogOpened c i).hand c (firstRequest c (s.entry i)) := by
  unfold State.startDialog State.dialogOpened firstSlot firstRequest
  dsimp only
  by_cases h : (s.entry i).sleepy = true
  · rw [if_pos h, if_pos h]
    cases c <;> simp only [h, wakeRequest, reduceCtorEq, and_false, and_true, if_true, if_false]
  · rw [if_neg h, if_neg h, if_neg (fun hn => h hn.1)]

theorem State.dialogOpened_frames (s : State) (c : Channel) (i : ModuleIndex) :
    State.FramesOf c ((s.withEntry i { s.entry i with attention := false }).withSlot c (firstSlot (s.entry i) i))
      (s.dialogOpened c i) := .startListening _ c

theorem State.slot_dialogOpened (s : State) (c : Channel) (i : ModuleIndex) :
    (s.dialogOpened c i).slot c = firstSlot (s.entry i) i :=
  (State.slot_congr (s.dialogOpened_frames c i).only.slots c).trans (State.slot_withSlot _ c _)

theorem State.module_firstSlot (e : Entry) (i : ModuleIndex) : (firstSlot e i).module = some i := by
  unfold firstSlot
  split <;> rfl

theorem State.firstSlot_busy (e : Entry) (i : ModuleIndex) :
    (firstSlot e i).state ≠ .free ∧ (firstSlot e i).state ≠ .parked := by
  unfold firstSlot
  split <;> exact ⟨nofun, nofun⟩

/-- The first frame is bound for the entry's module (R23). -/
theorem State.destination_dialogOpened (s : State) (c : Channel) (i : ModuleIndex) :
    (s.dialogOpened c i).destination c = Claim.destinationOf s c (s.entry i) := by
  have he : (s.dialogOpened c i).entry i = { s.entry i with attention := false } :=
    (State.entry_congr (s.dialogOpened_frames c i).only.table i).trans (State.entry_withEntry s i _)
  have hse : (s.dialogOpened c i).slotEntry c = some { s.entry i with attention := false } := by
    rw [State.slotEntry, s.slot_dialogOpened, State.module_firstSlot, Option.map_some, he]
  unfold State.destination
  rw [hse]
  cases c <;> simp [canOf, Claim.destinationOf, State.dialogOpened, State.canCtl_startListening]
    <;> rfl

end Sys2Proof.Machine

namespace Sys2Proof.Claim

open Sys2Proof.Machine

/-- With nothing before it, a frame handed is the one in the holding (R23). -/
theorem holds_hand {s u : State} {c : Channel} {e : Entry} (hw : nothingWaits u c)
    (hd : u.destination c = destinationOf s c e) (r : TxRequest) : holds s (u.hand c r) c e r := by
  rw [State.hand_empty hw.1 hw.2, hd]
  cases c
  · exact congrArg Can.holding (State.canCtl_withCan _ .a _)
  · exact congrArg Can.holding (State.canCtl_withCan _ .b _)
  · rfl

/-! ### The start of a dialog as the part performs it -/

/-- The head taken from a list, and its dialog begun but for the first frame. -/
def headTaken (s : State) (c : Channel) (i : ModuleIndex) (rest : List ModuleIndex) : State :=
  (s.withWorkList c rest).dialogOpened c i

section
variable (s : State) (c : Channel) (i : ModuleIndex) (rest : List ModuleIndex)

theorem headTaken_sweep : (headTaken s c i rest).sweep = { s.sweep with lists := s.sweep.lists.set c rest } :=
  ((s.withWorkList c rest).dialogOpened_frames c i).only.sweep

theorem headTaken_slot : (headTaken s c i rest).slot c = firstSlot (s.entry i) i := State.slot_dialogOpened _ c i

theorem headTaken_slot_other {d : Channel} (hd : d ≠ c) : (headTaken s c i rest).slot d = s.slot d :=
  (State.slot_congr ((s.withWorkList c rest).dialogOpened_frames c i).only.slots d).trans
    (State.slot_withSlot_other _ hd _)

theorem headTaken_entry (j : ModuleIndex) :
    (headTaken s c i rest).entry j = if j = i then { s.entry i with attention := false } else s.entry j := by
  refine (State.entry_congr ((s.withWorkList c rest).dialogOpened_frames c i).only.table j).trans ?_
  split
  · next h => exact h ▸ State.entry_withEntry _ _ _
  · next h => simpa [State.entry] using Vector.getElem_set_ne _ _ (Fin.val_ne_of_ne (Ne.symm h))

theorem headTaken_waitingFrames (d : Channel) : (headTaken s c i rest).waitingFrames d = s.waitingFrames d :=
  State.waitingFrames_startListening _ c d

theorem headTaken_frames :
    (headTaken s c i rest).frameInProgress c = s.frameInProgress c
      ∧ (headTaken s c i rest).frameWaiting c = s.frameWaiting c := State.frames_startListening _ c

theorem headTaken_holdingEmpty : (headTaken s c i rest).holdingEmpty c = s.holdingEmpty c := by
  obtain ⟨hp, hw⟩ := headTaken_frames s c i rest
  rw [State.holdingEmpty, hp, hw, State.holdingEmpty]

/-- The state in which the start of a dialog ends. -/
def dialogBegun : State := (headTaken s c i rest).hand c (firstRequest c (s.entry i))

theorem dialogBegun_frames : State.FramesOf c (headTaken s c i rest) (dialogBegun s c i rest) := .hand _ c _ _

theorem dialogBegun_works : s.Works (dialogBegun s c i rest) := by
  have h := ((State.Works.refl s).withWorkList c rest).startDialog c i
  rwa [State.startDialog_eq] at h

end

/-- A dialog that starts leaves nothing to settle (R12, R156). -/
theorem settled_dialogBegun {s : State} {c : Channel} {i : ModuleIndex} {rest : List ModuleIndex} (hs : Settled s)
    (hopen : s.shareState c = .opened) : Settled (dialogBegun s c i rest) := by
  have hf := (dialogBegun_frames s c i rest).only
  have hslot : (dialogBegun s c i rest).slot c = firstSlot (s.entry i) i :=
    (State.slot_congr hf.slots c).trans (headTaken_slot s c i rest)
  refine hs.of_busy c ?_ ?_ ?_ (fun d hd => ?_) (fun d hd => ?_) ?_ ?_
  · rw [hslot]
    exact (State.firstSlot_busy _ _).1
  · rw [hopen]
    exact nofun
  · rw [hopen]
    exact nofun
  · exact (State.slot_congr hf.slots d).trans (headTaken_slot_other s c i rest hd)
  · rw [State.workList_congr (congrArg Sweep.lists hf.sweep), State.workList, headTaken_sweep]
    exact s.workList_withWorkList_other hd rest
  · exact hf.share.trans ((s.withWorkList c rest).dialogOpened_frames c i).only.share
  · exact congrArg (fun v => State.setting { s with settings := v } .socketChannels) (dialogBegun_works s c i rest).settings

theorem exec_dialogStart {s : State} {c : Channel} {i : ModuleIndex} {rest : List ModuleIndex} (hs : Settled s)
    (hrun : s.sweep.state = .running) (hfree : (s.slot c).state = .free) (hopen : s.shareState c = .opened)
    (hl : s.workList c = i :: rest) : exec (.dialogStart c) s = .next (dialogBegun s c i rest) := by
  have hmay : s.mayStart c = true := by simp [State.mayStart, hrun, hfree, hopen]
  have hd : s.dialogStart c = (dialogBegun s c i rest).closeStep := by
    unfold State.dialogStart
    rw [hl]
    dsimp only
    rw [if_pos hmay, State.startDialog_eq]
    rfl
  exact congrArg _ (hd.trans (closeStep_settled (settled_dialogBegun hs hopen)))

/-- Settles O27: the head's dialog is begun, its first frame handed, and nothing is left to settle. -/
theorem dialogStartTakesTheHead : Obligations.DialogStartTakesTheHead := by
  unfold Obligations.DialogStartTakesTheHead
  intro s c i rest hs hrun hfree hopen hl
  refine ⟨dialogBegun s c i rest, exec_dialogStart hs hrun hfree hopen hl, ?_⟩
  have hf := dialogBegun_frames s c i rest
  have hsweep : (dialogBegun s c i rest).sweep = { s.sweep with lists := s.sweep.lists.set c rest } :=
    hf.only.sweep.trans (headTaken_sweep s c i rest)
  have hentry : ∀ j, (dialogBegun s c i rest).entry j = _ := fun j =>
    (State.entry_congr hf.only.table j).trans (headTaken_entry s c i rest j)
  have hopened := (s.withWorkList c rest).dialogOpened_frames c i
  have hdest : (headTaken s c i rest).destination c = destinationOf s c (s.entry i) :=
    State.destination_dialogOpened _ c i
  obtain ⟨hcan, hline⟩ := State.hand_controllers (headTaken s c i rest) c (firstRequest c (s.entry i)) none
  refine ⟨?_, ?_, fun d hd => ?_, ?_, fun j hj => ?_, fun hn => ?_, fun he => ?_, fun d hd => ⟨?_, ?_⟩, fun k => ?_, ?_,
    ?_, ?_, ?_, ?_, ownWork_of_works (dialogBegun_works s c i rest)⟩
  · exact (State.slot_congr hf.only.slots c).trans (headTaken_slot s c i rest)
  · rw [State.workList, hsweep]
    exact s.workList_withWorkList c rest
  · rw [State.workList, hsweep]
    exact s.workList_withWorkList_other hd rest
  · exact (hentry i).trans (if_pos rfl)
  · exact (hentry j).trans (if_neg hj)
  · exact holds_hand ⟨(headTaken_holdingEmpty s c i rest).trans hn.1, (headTaken_waitingFrames s c i rest c).trans hn.2⟩
      hdest _
  · obtain ⟨hw, hp, hq⟩ := State.hand_behind_frames ((headTaken_holdingEmpty s c i rest).trans he)
      (firstRequest c (s.entry i))
    rw [hdest, headTaken_waitingFrames] at hw
    exact ⟨hw, hp.trans (headTaken_frames s c i rest).1, hq.trans (headTaken_frames s c i rest).2⟩
  · exact (State.slot_congr hf.only.slots d).trans (headTaken_slot_other s c i rest hd)
  · exact (hf.waiting d hd).trans (headTaken_waitingFrames s c i rest d)
  · exact hcan k |>.trans (by rw [headTaken, State.dialogOpened, State.canCtl_startListening]; rfl)
  · refine hline.trans ?_
    rw [headTaken, State.dialogOpened, State.line_startListening]
    split <;> rfl
  · rw [hsweep]
  · exact hf.only.share.trans hopened.only.share
  · exact hf.only.link.trans hopened.only.link
  · exact hf.only.history.trans hopened.only.history

end Sys2Proof.Claim
end

section
/-! SWEEP (R3 to R6): its payload parsed, its refusals, and the sweep that it starts. -/

namespace Sys2Proof.Claim

open Sys2Proof.Machine

/-! ### The payload (R3) -/

theorem moduleIndexOf_eq_some {b : Byte} {i : ModuleIndex} : moduleIndexOf b = some i ↔ b = byte i.val := by
  have hi := i.isLt
  unfold moduleIndexOf byte
  rw [← BitVec.toNat_inj, BitVec.toNat_ofNat]
  split
  · rw [Option.some.injEq, Fin.ext_iff]
    dsimp only
    omega
  · simp only [reduceCtorEq, false_iff]
    omega

theorem moduleIndexOf_of_lt {b : Byte} (h : b.toNat < 48) : ∃ i, moduleIndexOf b = some i := ⟨_, dif_pos h⟩

theorem parseIndices_of_lt : ∀ {bs : List Byte}, (∀ b ∈ bs, b.toNat < 48) → ∃ is, parseIndices bs = some is
  | [], _ => ⟨[], rfl⟩
  | b :: bs, h => by
    obtain ⟨i, hi⟩ := moduleIndexOf_of_lt (h b List.mem_cons_self)
    obtain ⟨is, his⟩ := parseIndices_of_lt (fun x hx => h x (List.mem_cons_of_mem b hx))
    exact ⟨i :: is, by simp only [parseIndices, hi, his]⟩

/-- A list of bytes parsed as module indices is the list of those indices. -/
theorem parseIndices_eq_some : ∀ {bs : List Byte} {is : List ModuleIndex}, parseIndices bs = some is →
    bs = is.map (fun i => byte i.val)
  | [], is, h => by
    cases h
    rfl
  | b :: bs, is, h => by
    unfold parseIndices at h
    split at h
    · next i js hi hjs =>
      cases h
      rw [List.map_cons, ← moduleIndexOf_eq_some.mp hi, ← parseIndices_eq_some hjs]
    · cases h

theorem toNat_byte_index (i : ModuleIndex) : (byte i.val).toNat = i.val := by
  have := i.isLt
  simp only [byte, BitVec.toNat_ofNat]
  omega

theorem byte_index_inj {i j : ModuleIndex} : byte i.val = byte j.val ↔ i = j := by
  rw [← BitVec.toNat_inj, toNat_byte_index, toNat_byte_index, Fin.ext_iff]

theorem ofBits_toNat (b : Byte) : SweepOptions.ofBits b.toNat = ⟨b.getLsbD 0, b.getLsbD 1⟩ := by
  simp only [SweepOptions.ofBits, BitVec.testBit_toNat]

/-- What a SWEEP payload that parses says: its form is good, its options are those of its second byte, and its scope holds
the entries that it names (R3, R5). -/
structure Parsed (payload : List Byte) (x : Scope) (o : SweepOptions) : Prop where
  form : sweepForm payload
  options : o = ⟨(payload.getD 1 0).getLsbD 0, (payload.getD 1 0).getLsbD 1⟩
  scope : ∀ (s : State) (i : ModuleIndex), s.inScope x i = true ↔ inScopeOf s payload i

theorem parsed_all {options : Byte} (h : options.toNat < 4) : Parsed [0, options] .all (.ofBits options.toNat) :=
  ⟨⟨options, h, .inl rfl⟩, ofBits_toNat options, fun s i => by simp [State.inScope, inScopeOf]⟩

theorem parsed_channels {options set : Byte} (h : options.toNat < 4) (h0 : set ≠ 0) (h8 : set.toNat < 8) :
    Parsed [1, options, set] (.channels (bit set 0) (bit set 1) (bit set 2)) (.ofBits options.toNat) := by
  refine ⟨⟨options, h, .inr (.inl ⟨set, rfl, h0, h8⟩)⟩, ofBits_toNat options, fun s i => ?_⟩
  cases hc : (s.entry i).channel <;> simp [State.inScope, inScopeOf, hc, bit, channelBit]

theorem parsed_indices {options : Byte} {is : List ModuleIndex} (h : options.toNat < 4) (h0 : is ≠ [])
    (h48 : is.length ≤ 48) : Parsed (2 :: options :: is.map (fun i => byte i.val)) (.indices is) (.ofBits options.toNat) := by
  refine ⟨⟨options, h, .inr (.inr ⟨_, rfl, by simpa using h0, by simpa using h48, fun b hb => ?_⟩)⟩, ofBits_toNat options,
    fun s i => ?_⟩
  · obtain ⟨j, -, rfl⟩ := List.mem_map.mp hb
    rw [toNat_byte_index]
    exact j.isLt
  · have hmem : byte i.val ∈ is.map (fun i => byte i.val) ↔ i ∈ is := by
      simp only [List.mem_map, byte_index_inj, exists_eq_right]
    simp [State.inScope, inScopeOf, hmem]

theorem parseSweep_parsed {payload : List Byte} {x : Scope} {o : SweepOptions} (h : parseSweep payload = some (x, o)) :
    Parsed payload x o := by
  unfold parseSweep at h
  split at h
  · next scope options rest =>
    split at h
    · cases h
    · next hopt =>
      have h4 : options.toNat < 4 := by simpa [onlyLowBits] using hopt
      have hscope : ∀ n, scope.toNat = n → scope = BitVec.ofNat 8 n := fun n hn => by
        rw [← hn, BitVec.ofNat_toNat, BitVec.setWidth_eq]
      dsimp only at h
      split at h
      · next hs =>
        cases h
        rw [hscope 0 hs]
        exact parsed_all h4
      · next set hs =>
        split at h
        · next hset =>
          cases h
          simp only [onlyLowBits, Bool.and_eq_true, decide_eq_true_eq] at hset
          rw [hscope 1 hs]
          exact parsed_channels h4 hset.2 hset.1
        · cases h
      · next b bs hs =>
        split at h
        · next hlen =>
          obtain ⟨is, his, heq⟩ := Option.map_eq_some_iff.mp h
          cases heq
          have hb := parseIndices_eq_some his
          rw [hscope 2 hs, hb]
          rw [hb, List.length_map] at hlen
          refine parsed_indices h4 ?_ hlen
          rintro rfl
          cases hb
        · cases h
      · cases h
  · cases h

/-- A payload of good form parses (R3). -/
theorem parseSweep_of_form {payload : List Byte} (h : sweepForm payload) : ∃ x o, parseSweep payload = some (x, o) := by
  obtain ⟨options, h4, h⟩ := h
  have hopt : onlyLowBits 2 options = true := by simpa [onlyLowBits] using h4
  rcases h with rfl | ⟨set, rfl, h0, h8⟩ | ⟨bs, rfl, h0, h48, hlt⟩
  · exact ⟨_, _, by simp [parseSweep, hopt]; exact ⟨rfl, rfl⟩⟩
  · have hset : onlyLowBits 3 set = true := by simpa [onlyLowBits] using h8
    exact ⟨_, _, by simp [parseSweep, hopt, hset]; exact ⟨h0, rfl, rfl⟩⟩
  · obtain ⟨is, his⟩ := parseIndices_of_lt hlt
    obtain ⟨b, bs, rfl⟩ := List.exists_cons_of_ne_nil h0
    exact ⟨_, _, by simp [parseSweep, hopt, his, List.length_cons.symm.trans_le h48]; exact ⟨rfl, rfl⟩⟩

end Sys2Proof.Claim
end

section
/-! SWEEP carried out (R3 to R6): refused, started, or ended within its own start. -/

namespace Sys2Proof.Machine

/-- A notice queued does not depend on the request in service (R167, R168). -/
theorem Link.foldl_notify_inService (ns : List Notice) (x : Option HostFrame) : ∀ l : Link,
    { ns.foldl Link.notify l with inService := x } = ns.foldl Link.notify { l with inService := x } := by
  induction ns with
  | nil => exact fun _ => rfl
  | cons n ns ih =>
    intro l
    have hn : { l.notify n with inService := x } = Link.notify { l with inService := x } n := by
      by_cases h : l.noticesHeld < 12
      · exact (congrArg (fun m : Link => { m with inService := x }) (if_pos h)).trans (if_pos h).symm
      · exact (congrArg (fun m : Link => { m with inService := x }) (if_neg h)).trans (if_neg h).symm
    rw [List.foldl_cons, ih, hn, List.foldl_cons]

theorem PerChannel.eq_nils {α : Type} {p : PerChannel (List α)} (h : ∀ c, p.get c = []) : p = ⟨[], [], []⟩ := by
  have ha : p.a = [] := h .a
  have hb : p.b = [] := h .b
  have hs : p.s = [] := h .s
  calc p = ⟨p.a, p.b, p.s⟩ := rfl
    _ = ⟨[], [], []⟩ := by rw [ha, hb, hs]

/-- Outputs recomputed from the same share states, slots, lists and sockets are the same (R160). -/
theorem State.recomputeOutputs_of_settled {s t : State} (h : Claim.Settled s) (hshare : t.share = s.share)
    (hslots : t.slots = s.slots) (hlists : ∀ c, t.workList c = s.workList c) (hset : t.settings = s.settings) :
    t.recomputeOutputs = t := by
  obtain ⟨-, -, ht, hp⟩ := h
  have hst := State.shareState_congr hshare
  have htg : t.tgntValue = t.share.tgnt := by
    rw [hshare, ht]
    simp only [State.tgntValue, State.isSocket, State.setting, hset, hst]
  have hpn : t.pneedValue = t.share.pneed := by
    rw [hshare, hp]
    simp only [State.pneedValue, hst, State.slot_congr hslots, hlists]
  rw [State.recomputeOutputs, htg, hpn]

end Sys2Proof.Machine

namespace Sys2Proof.Claim

open Sys2Proof.Machine

/-! ### The handler (R167) -/

/-- The request in service given back (R167). -/
def served (s : State) : State := s.withLink { s.link with inService := none }

/-- The DONE reply of a SWEEP queued, with the request still in service (R4). -/
def sweepAnswered (s : State) (payload : List Byte) : State :=
  (s.withLink { s.link with inService := some ⟨0x0F, payload⟩ }).reply 0x0F .done (bytes16 (s.sweep.number + 1))

/-- The sweep of a SWEEP request as it starts (R4, R5). -/
def hostSweep (s : State) (payload : List Byte) (x : Scope) (o : SweepOptions) : State :=
  (sweepAnswered s payload).startSweep .host o x

theorem exec_sweep {s : State} (payload : List Byte) :
    exec (.sweep payload) s = .next (s.takeRequest ⟨0x0F, payload⟩ (State.handleSweep payload)) := rfl

theorem exec_sweep_starts {s : State} {payload : List Byte} {x : Scope} {o : SweepOptions} (h : Ready s)
    (hp : parseSweep payload = some (x, o)) (hk : s.key.on = true) (hi : s.sweep.state = .idle) :
    exec (.sweep payload) s = .next (served (hostSweep s payload x o).closeStep) := by
  have hh : State.handleSweep payload (s.withLink { s.link with inService := some ⟨0x0F, payload⟩ }) =
      (hostSweep s payload x o).closeStep := by
    unfold State.handleSweep
    rw [hp]
    exact (if_neg (by simpa using hk)).trans (if_neg (not_not_intro hi))
  rw [exec_sweep, takeRequest_ready h, hh]
  rfl

theorem sweepRefusals : SweepRefusals := by
  intro s payload h
  refine ⟨fun hf => ?_, fun hf hk => ?_, fun hf hk hi => ?_⟩
  · have hp : parseSweep payload = none := by
      rw [Option.eq_none_iff_forall_ne_some]
      exact fun ⟨x, o⟩ hx => hf (parseSweep_parsed hx).form
    refine congrArg _ (takeRequest_reply h _ _ 0x0F .badForm [] ?_)
    unfold State.handleSweep
    rw [hp]
  · obtain ⟨x, o, hp⟩ := parseSweep_of_form hf
    refine congrArg _ (takeRequest_reply h _ _ 0x0F .refused [] ?_)
    unfold State.handleSweep
    rw [hp]
    exact if_pos (by simpa using hk)
  · obtain ⟨x, o, hp⟩ := parseSweep_of_form hf
    refine congrArg _ (takeRequest_reply h _ _ 0x0F .busy [] ?_)
    unfold State.handleSweep
    rw [hp]
    exact (if_neg (by simpa using hk)).trans (if_pos hi)

/-! ### The sweep as it starts -/

/-- The modules a SWEEP gives SKIPPED, in ascending index (R5). -/
def hostSkipped (s : State) (x : Scope) (o : SweepOptions) : List ModuleIndex := (s.scopeList x).filter (s.skipsUnder o)

/-- The outbound queue with the DONE reply of a SWEEP (R4). -/
def sweepReplied (s : State) : List OutFrame :=
  s.link.outbound ++ [.reply 0x8F .done (bytes16 (s.sweep.number + 1))]

/-- The notices of modules given SKIPPED (R8). -/
def skipEnds (is : List ModuleIndex) : List Notice := is.map (fun i => .moduleEnd i .skipped 0 0)

section
variable (s : State) (payload : List Byte) (x : Scope) (o : SweepOptions)

theorem hostSweep_rest :
    hostSweep s payload x o = { s with
      table := (hostSweep s payload x o).table, sweep := (hostSweep s payload x o).sweep,
      link := (hostSweep s payload x o).link } := (sweepAnswered s payload).startSweep_rest .host o x

theorem hostSweep_sweep :
    (hostSweep s payload x o).sweep = { s.sweep.begin .host o with
      lists := (hostSweep s payload x o).sweep.lists, reached := (hostSweep s payload x o).sweep.reached,
      counts := (hostSweep s payload x o).sweep.counts } := (sweepAnswered s payload).startSweep_sweep .host o x

theorem hostSweep_counts :
    (hostSweep s payload x o).sweep.counts = (Vector.replicate 11 0).set 9 (hostSkipped s x o).length :=
  (sweepAnswered s payload).startSweep_counts .host o x

theorem hostSweep_reached (i : ModuleIndex) :
    (hostSweep s payload x o).sweep.reached[i] = (s.inScope x i && s.skipsUnder o i) :=
  (sweepAnswered s payload).startSweep_reached .host o x i

theorem hostSweep_entry (i : ModuleIndex) :
    (hostSweep s payload x o).entry i =
      if s.inScope x i = true ∧ s.skipsUnder o i = true then
        { s.entry i with attention := false, lastOutcome := some .skipped, lastSweep := s.sweep.number + 1 }
      else s.entry i := (sweepAnswered s payload).startSweep_entry .host o x i

theorem mem_workList_hostSweep {c : Channel} {i : ModuleIndex} :
    i ∈ (hostSweep s payload x o).workList c ↔
      s.inScope x i = true ∧ s.skipsUnder o i = false ∧ (s.entry i).channel = c :=
  (sweepAnswered s payload).mem_workList_startSweep .host o x

theorem served_hostSweep_link (h : s.link.inService = none) :
    (served (hostSweep s payload x o)).link =
      (skipEnds (hostSkipped s x o)).foldl Link.notify { s.link with outbound := sweepReplied s } := by
  have hl : (hostSweep s payload x o).link = (skipEnds (hostSkipped s x o)).foldl Link.notify
      { s.link with inService := some ⟨0x0F, payload⟩, outbound := sweepReplied s } :=
    (sweepAnswered s payload).startSweep_link .host o x
  show { (hostSweep s payload x o).link with inService := none } = _
  rw [hl, Link.foldl_notify_inService, ← h]

end

theorem noticesHeld_sweepReplied (s : State) :
    ({ s.link with outbound := sweepReplied s } : Link).noticesHeld = s.link.noticesHeld := by
  simp only [Link.noticesHeld, sweepReplied, List.filter_append, List.length_append]
  rfl

/-- What R5 skips, said of the options byte of the request. -/
theorem skipsUnder_iff (s : State) (options : Byte) (i : ModuleIndex) :
    s.skipsUnder ⟨options.getLsbD 0, options.getLsbD 1⟩ i = true ↔ skippedAtStart s options i := by
  simp [State.skipsUnder, skippedAtStart]

theorem skipsUnder_eq_false_iff (s : State) (options : Byte) (i : ModuleIndex) :
    s.skipsUnder ⟨options.getLsbD 0, options.getLsbD 1⟩ i = false ↔ ¬ skippedAtStart s options i := by
  rw [← skipsUnder_iff, Bool.not_eq_true]

theorem mem_hostSkipped {s : State} {x : Scope} {o : SweepOptions} {i : ModuleIndex} :
    i ∈ hostSkipped s x o ↔ s.inScope x i = true ∧ s.skipsUnder o i = true := by
  rw [hostSkipped, List.mem_filter, State.mem_scopeList]

/-- An ascending list of the modules skipped is the list of them. -/
theorem hostSkipped_eq {s : State} {x : Scope} {o : SweepOptions} {is : List ModuleIndex} (ha : is.Pairwise (· < ·))
    (hm : ∀ i, i ∈ is ↔ s.inScope x i = true ∧ s.skipsUnder o i = true) : hostSkipped s x o = is :=
  ((s.scopeList_ascending x).filter _).eq_of_mem_iff ha (fun i => mem_hostSkipped.trans (hm i).symm)

theorem settled_sweepAnswered {s : State} (h : Settled s) (payload : List Byte) : Settled (sweepAnswered s payload) :=
  h.of_same (fun _ => rfl) (fun _ => rfl) rfl rfl rfl

/-! ### A sweep with a module to place -/

theorem sweepBuildsItsLists : SweepBuildsItsLists := by
  intro s payload options hr hs _ hform hopt hk hi hplace
  obtain ⟨x, o, hp⟩ := parseSweep_of_form hform
  obtain ⟨-, ho, hscope⟩ := parseSweep_parsed hp
  rw [hopt] at ho
  have hsku : ∀ j, s.skipsUnder o j = true ↔ skippedAtStart s options j := fun j => ho ▸ skipsUnder_iff s options j
  have hnsk : ∀ j, s.skipsUnder o j = false ↔ ¬ skippedAtStart s options j := fun j => ho ▸ skipsUnder_eq_false_iff s options j
  obtain ⟨i, hin, hnot⟩ := hplace
  have hlist : i ∈ (hostSweep s payload x o).workList (s.entry i).channel :=
    (mem_workList_hostSweep s payload x _).mpr ⟨(hscope s i).mpr hin, (hnsk i).mpr hnot, rfl⟩
  have hclose : (hostSweep s payload x o).closeStep = (hostSweep s payload x o).recomputeOutputs :=
    (settled_sweepAnswered hs payload).startSweep (List.ne_nil_of_mem hlist)
  refine ⟨_, exec_sweep_starts hr hp hk hi, ?_⟩
  rw [hclose]
  have hlink := served_hostSweep_link s payload x o hr.2.1
  have hrest := hostSweep_rest s payload x o
  have hw := hostSweep_sweep s payload x o
  have hcounts := hostSweep_counts s payload x o
  have hreached := hostSweep_reached s payload x o
  have hentry := hostSweep_entry s payload x o
  have hmem := fun c i => mem_workList_hostSweep s payload x o (c := c) (i := i)
  have hasc := (sweepAnswered s payload).workList_startSweep_ascending .host o x
  change ∀ c, ((hostSweep s payload x o).workList c).Pairwise (· < ·) at hasc
  generalize hostSweep s payload x o = t at *
  have hsk : ∀ j, (s.inScope x j = true ∧ s.skipsUnder o j = true) ↔
      inScopeOf s payload j ∧ skippedAtStart s options j := fun j => and_congr (hscope s j) (hsku j)
  refine ⟨?_, (congrArg Sweep.state hw :), (congrArg Sweep.number hw :), (congrArg Sweep.kind hw :),
    (congrArg Sweep.options hw :).trans ho, (congrArg Sweep.haltTaken hw :), (congrArg Sweep.created hw :),
    (congrArg Sweep.updated hw :), (congrArg Sweep.refused hw :), fun skipped ha hm => ?_, fun c j => ?_, hasc,
    fun j hj hjs => ?_, fun j hj => ?_, fun j => ?_, fun j => ?_, (congrArg State.slots hrest :),
    (congrArg State.toHand hrest :), (congrArg State.can hrest :), (congrArg State.line hrest :),
    (congrArg State.history hrest :), (congrArg (fun v => v.share.channels) hrest :), (congrArg State.store hrest :),
    (congrArg State.clock hrest :), (congrArg State.settings hrest :), (congrArg State.key hrest :),
    (congrArg State.straps hrest :), (congrArg State.pins hrest :)⟩
  · exact hlink ▸ prefix_foldl_notify _ { s.link with outbound := sweepReplied s }
  · have hsame := hostSkipped_eq ha (fun j => (hm j).trans (hsk j).symm)
    rw [hsame] at hlink hcounts
    refine ⟨hcounts, fun hroom => hlink.trans ?_⟩
    rw [Link.foldl_notify_room _ (by rw [noticesHeld_sweepReplied]; simpa [skipEnds] using hroom)]
    simp [sweepReplied, skipEnds, Function.comp_def]
  · exact (hmem c j).trans (and_congr (hscope s j) (and_congr (hnsk j) Iff.rfl))
  · exact (hentry j).trans (if_pos ((hsk j).mpr ⟨hj, hjs⟩))
  · exact (hentry j).trans (if_neg (hj ∘ (hsk j).mp))
  · have : t.sweep.appended = Vector.replicate 48 false := (congrArg Sweep.appended hw :)
    show t.sweep.appended[j] = false
    simp [this]
  · show t.sweep.reached[j] = true ↔ _
    rw [hreached, Bool.and_eq_true]
    exact hsk j

/-! ### A sweep that ends within its own start (R6) -/

theorem workList_hostSweep_unplaced {s : State} {payload : List Byte} {x : Scope} {o : SweepOptions}
    (hall : ∀ i, s.inScope x i = true → s.skipsUnder o i = true) (c : Channel) :
    (hostSweep s payload x o).workList c = [] := by
  refine List.eq_nil_iff_forall_not_mem.mpr fun i hm => ?_
  obtain ⟨hin, hnot, -⟩ := (mem_workList_hostSweep s payload x o).mp hm
  rw [hall i hin] at hnot
  exact absurd hnot (by decide)

/-- A sweep whose start places no module ends FINISHED at once; with AUTO_ATTENTION off no other follows (R6, R12). -/
theorem closeStep_hostSweep_unplaced {s : State} {payload : List Byte} {x : Scope} {o : SweepOptions} (hs : Settled s)
    (hr : SweepRests s) (hi : s.sweep.state = .idle) (hatt : s.setting .autoAttention = 0)
    (hall : ∀ i, s.inScope x i = true → s.skipsUnder o i = true) :
    (hostSweep s payload x o).closeStep = (hostSweep s payload x o).endSweep .finished := by
  have hl : ∀ c, (hostSweep s payload x o).workList c = [] := workList_hostSweep_unplaced hall
  have hrest := hostSweep_rest s payload x o
  have hw := hostSweep_sweep s payload x o
  generalize hostSweep s payload x o = t at *
  have hslots : t.slots = s.slots := (congrArg State.slots hrest :)
  have hshare : t.share = s.share := (congrArg State.share hrest :)
  have hset : t.settings = s.settings := (congrArg State.settings hrest :)
  have hrun : t.sweep.state = .running := (congrArg Sweep.state hw :)
  have hnot : t.sweep.haltTaken = false := (congrArg Sweep.haltTaken hw :)
  have hdone : t.sweepDone = true := (State.sweepDone_iff t).mpr
    ⟨by rw [hrun]; decide, fun c => ⟨hl c, by rw [State.slot_congr hslots]; exact ((hr.1 hi).2 c).2⟩⟩
  have hty : ∀ c, ¬ t.yieldReached c := fun c hc => hs.not_reached c (by
    rwa [State.yieldReached, State.shareState_congr hshare, State.slot_congr hslots] at hc)
  have hfold : allChannels.foldl State.yieldSettle t = t :=
    (State.yieldSettle_only (c := .a) (fun d _ => hty d)).trans (State.yieldSettle_of_not_reached (hty .a))
  have hdue : (t.endSweep .finished).attentionDue = false := State.attentionDue_of_off (by
    show t.setting .autoAttention = 0
    rw [State.setting, hset]
    exact hatt)
  rw [State.closeStep, hfold, State.settleSweep_ends hdone hdue, if_neg (by rw [hnot]; decide)]
  exact State.recomputeOutputs_of_settled hs hshare hslots (fun c => (hl c).trans ((hr.1 hi).2 c).1.symm) hset

theorem served_endSweep (t : State) (r : EndReason) : served (t.endSweep r) = (served t).endSweep r := by
  have h := Link.foldl_notify_inService
    [.sweepEnd r t.sweep.number t.sweep.kind t.sweep.counts t.sweep.created t.sweep.updated t.sweep.refused] none t.link
  simp only [List.foldl_cons, List.foldl_nil] at h
  simp only [served, State.endSweep, State.withSweep, State.withLink, State.notify, h]

theorem emptySweepEndsWithinItsStart : EmptySweepEndsWithinItsStart := by
  intro s payload options hr hs hsr hform hopt hk hi hnone hatt
  obtain ⟨x, o, hp⟩ := parseSweep_of_form hform
  obtain ⟨-, ho, hscope⟩ := parseSweep_parsed hp
  rw [hopt] at ho
  subst ho
  have hno : ∀ i, s.inScope x i = false := fun i => Bool.eq_false_iff.mpr (fun h => hnone i ((hscope s i).mp h))
  have hall : ∀ i, s.inScope x i = true → s.skipsUnder ⟨options.getLsbD 0, options.getLsbD 1⟩ i = true := fun i h =>
    absurd ((hno i).symm.trans h) (by decide)
  rw [exec_sweep_starts hr hp hk hi, closeStep_hostSweep_unplaced hs hsr hi hatt hall, served_endSweep]
  have hstart : hostSweep s payload x ⟨options.getLsbD 0, options.getLsbD 1⟩ = (sweepAnswered s payload).withSweep
      (s.sweep.begin .host ⟨options.getLsbD 0, options.getLsbD 1⟩) := by
    have : allModules.filter ((sweepAnswered s payload).inScope x) = [] :=
      List.filter_eq_nil_iff.mpr fun i _ => Bool.eq_false_iff.mp (hno i)
    rw [hostSweep, State.startSweep, this]
    rfl
  have hserved : served (hostSweep s payload x ⟨options.getLsbD 0, options.getLsbD 1⟩) =
      (answered s 0x8F .done (bytes16 (s.sweep.number + 1))).withSweep
        (s.sweep.begin .host ⟨options.getLsbD 0, options.getLsbD 1⟩) := by
    rw [hstart]
    unfold served answered
    rw [← hr.2.1]
    rfl
  rw [hserved]
  rfl

theorem skippedSweepEndsWithinItsStart : SkippedSweepEndsWithinItsStart := by
  intro s payload options skipped hr hs hsr hform hopt hk hi ha hm hskip hatt
  obtain ⟨x, o, hp⟩ := parseSweep_of_form hform
  obtain ⟨-, ho, hscope⟩ := parseSweep_parsed hp
  rw [hopt] at ho
  have hsku : ∀ j, s.skipsUnder o j = true ↔ skippedAtStart s options j := fun j => ho ▸ skipsUnder_iff s options j
  have hall : ∀ i, s.inScope x i = true → s.skipsUnder o i = true := fun i h =>
    (hsku i).mpr (hskip i ((hm i).mpr ((hscope s i).mp h)))
  have hsk : ∀ i, i ∈ skipped ↔ s.inScope x i = true ∧ s.skipsUnder o i = true :=
    fun i => (hm i).trans ((hscope s i).symm.trans ⟨fun h => ⟨h, hall i h⟩, And.left⟩)
  have hsame := hostSkipped_eq ha hsk
  refine ⟨_, exec_sweep_starts hr hp hk hi, ?_⟩
  rw [closeStep_hostSweep_unplaced hs hsr hi hatt hall, served_endSweep]
  have hl : ∀ c, (hostSweep s payload x o).workList c = [] := workList_hostSweep_unplaced hall
  have hlink := served_hostSweep_link s payload x o hr.2.1
  have hrest := hostSweep_rest s payload x o
  have hw := hostSweep_sweep s payload x o
  have hcounts := hostSweep_counts s payload x o
  have hreached := hostSweep_reached s payload x o
  have hentry := hostSweep_entry s payload x o
  generalize hostSweep s payload x o = t at *
  have hlists : t.sweep.lists = ⟨[], [], []⟩ := PerChannel.eq_nils hl
  rw [hsame] at hlink hcounts
  rw [hlists, hcounts] at hw
  refine ⟨?_, fun j => ?_, fun j hj => (hentry j).trans (if_pos ((hsk j).mp hj)),
    fun j hj => (hentry j).trans (if_neg (hj ∘ (hsk j).mpr)), fun hroom => ?_, (congrArg State.slots hrest :),
    (congrArg State.toHand hrest :), (congrArg State.can hrest :), (congrArg State.line hrest :),
    (congrArg State.history hrest :), (congrArg State.share hrest :), (congrArg State.store hrest :),
    (congrArg State.clock hrest :), (congrArg State.settings hrest :), (congrArg State.key hrest :),
    (congrArg State.straps hrest :), (congrArg State.pins hrest :)⟩
  · show { t.sweep with state := .idle, haltTaken := false } = _
    rw [hw, ho]
    rfl
  · show t.sweep.reached[j] = true ↔ _
    rw [hreached, Bool.and_eq_true]
    exact (hsk j).symm
  · have hend : ((served t).endSweep .finished).link = (skipEnds skipped ++ [Notice.sweepEnd .finished (s.sweep.number + 1) .host
        t.sweep.counts 0 0 0]).foldl Link.notify { s.link with outbound := sweepReplied s } := by
      rw [State.endSweep_link, hlink, List.foldl_append]
      show Link.notify _ (Notice.sweepEnd _ t.sweep.number t.sweep.kind t.sweep.counts t.sweep.created t.sweep.updated
        t.sweep.refused) = _
      rw [hw]
      rfl
    rw [hend, Link.foldl_notify_room _ (by
      rw [noticesHeld_sweepReplied]
      simp only [skipEnds, List.length_append, List.length_map, List.length_singleton]
      omega)]
    simp [sweepReplied, skipEnds, Function.comp_def]
    rfl

/-- Settles O23, by its four parts: the refusals, the lists built, and the two sweeps that end within their own start. -/
theorem sweepIsRefusedOrStarts : Obligations.SweepIsRefusedOrStarts :=
  ⟨sweepRefusals, sweepBuildsItsLists, emptySweepEndsWithinItsStart, skippedSweepEndsWithinItsStart⟩

end Sys2Proof.Claim
end

section
/-! The end of a dialog (R8, R42, R44): the frames it leaves behind, and the sweep controller's part. -/

namespace Sys2Proof.Machine

variable {s t u : State} {c d : Channel}

/-! ### The frame that waits in the holding -/

@[simp] theorem State.frameWaiting_withWaitingFrames (s : State) (c d : Channel) (fs : List TxFrame) :
    (s.withWaitingFrames c fs).frameWaiting d = s.frameWaiting d := rfl

theorem State.frameWaiting_putHolding (s : State) (c : Channel) (f : TxFrame) :
    (s.putHolding c f).frameWaiting c = some f := by
  cases c <;> rfl

theorem State.frameWaiting_emptyHolding (s : State) (c : Channel) : (s.emptyHolding c).frameWaiting c = none := by
  cases c
  · simp only [State.emptyHolding, canOf]
    split
    · rfl
    · simp only [State.frameWaiting, canOf]
  · simp only [State.emptyHolding, canOf]
    split
    · rfl
    · simp only [State.frameWaiting, canOf]
  · rfl

theorem State.frameWaiting_dropRequests (s : State) (c : Channel) (p : TxFrame → Bool) :
    (s.dropRequests c p).frameWaiting c = (s.frameWaiting c).filter (fun f => !p f) := by
  unfold State.dropRequests
  dsimp only [State.frameWaiting_withWaitingFrames]
  cases h : s.frameWaiting c with
  | none => exact h
  | some f =>
    dsimp only
    cases hp : p f
    · simpa [hp, Option.filter] using h
    · simp [hp, Option.filter, State.frameWaiting_emptyHolding]

/-- The frame that waits unstarted in a holding. -/
def Holding.unstarted : Holding → Option TxFrame
  | .waiting f => some f
  | _ => none

theorem State.frameWaiting_toChannel (s : State) (k : CanChannel) :
    s.frameWaiting k.toChannel = (s.canCtl k).holding.unstarted := by
  cases k <;> rfl

theorem Holding.unstarted_disown (h : Holding) : h.disown.unstarted = h.unstarted.map TxFrame.disown := by
  cases h <;> rfl

theorem State.frameWaiting_disown (s : State) (c : Channel) :
    (s.disown c).frameWaiting c = (s.frameWaiting c).map TxFrame.disown := by
  have hk : ∀ k : CanChannel, (s.disown k.toChannel).frameWaiting k.toChannel =
      (s.frameWaiting k.toChannel).map TxFrame.disown := by
    intro k
    rw [State.frameWaiting_toChannel, State.frameWaiting_toChannel, ← Holding.unstarted_disown]
    cases k <;> rfl
  cases c
  · exact hk .a
  · exact hk .b
  · rfl

theorem State.waitingFrames_disown (s : State) (c : Channel) :
    (s.disown c).waitingFrames c = (s.waitingFrames c).map TxFrame.disown := by
  cases c <;> rfl

theorem State.frames_freeSlot (s : State) (c d : Channel) :
    (s.freeSlot c).frameWaiting d = s.frameWaiting d ∧ (s.freeSlot c).waitingFrames d = s.waitingFrames d := by
  cases c <;> cases d <;> exact ⟨rfl, rfl⟩

/-- A frame handed next was to hand, or waited in the holding already. -/
theorem State.mem_frames_handNext {f : TxFrame}
    (h : f ∈ (s.handNext c).waitingFrames c ∨ (s.handNext c).frameWaiting c = some f) :
    f ∈ s.waitingFrames c ∨ s.frameWaiting c = some f := by
  unfold State.handNext at h
  split at h
  · exact h
  · next g gs hg =>
    split at h
    · rw [State.frameWaiting_putHolding] at h
      have hw : (((s.withWaitingFrames c gs).putHolding c g).waitingFrames c) = gs := by
        cases c <;> rfl
      rw [hw] at h
      rw [hg, List.mem_cons]
      rcases h with h | h
      · exact .inl (.inr h)
      · cases h
        exact .inl (.inl rfl)
    · exact h

/-- A frame that waits after a handing waited before, or is the one handed. -/
theorem State.mem_frames_hand {f : TxFrame} {r : TxRequest} {e : Option Nat}
    (h : f ∈ (s.hand c r e).waitingFrames c ∨ (s.hand c r e).frameWaiting c = some f) :
    f ∈ s.waitingFrames c ∨ s.frameWaiting c = some f ∨ f = { request := r, dest := s.destination c, earliest := e } := by
  rcases State.mem_frames_handNext h with h | h
  · rw [State.waitingFrames_withWaitingFrames, List.mem_append, List.mem_singleton] at h
    exact h.imp_right .inr
  · exact .inr (.inl h)

/-! ### The frames of a dialog left behind (R42, R44) -/

/-- A dialog's frames as its end leaves them: its unstarted ERASE and its requests still to hand dropped, BYE handed on an
OPEN channel, and the rest left behind (R42, R44). -/
def State.leaveFrames (s : State) (c : Channel) : State :=
  (if s.shareState c = .opened then (s.dropRequests c TxFrame.isOwnErase).hand c .bye
    else s.dropRequests c TxFrame.isOwnErase).disown c

theorem State.endDialog_eq (s : State) (c : Channel) (o : SweepOutcome) :
    s.endDialog c o = (s.leaveFrames c).passOutcome c o := by
  have hs : (s.dropRequests c TxFrame.isOwnErase).shareState c = s.shareState c :=
    State.shareState_congr (FramesOnly.dropRequests s c _).share c
  unfold State.endDialog State.leaveFrames
  dsimp only
  rw [hs]

theorem State.leaveFrames_frames (s : State) (c : Channel) : State.FramesOf c s (s.leaveFrames c) := by
  unfold State.leaveFrames
  split
  · exact ((FramesOf.dropRequests s c _).trans (.hand _ c _ _)).trans (.disown _ c)
  · exact (FramesOf.dropRequests s c _).trans (.disown _ c)

theorem State.destination_dropRequests (s : State) (c : Channel) (p : TxFrame → Bool) :
    (s.dropRequests c p).destination c = s.destination c := by
  have hf := FramesOnly.dropRequests s c p
  have he : (s.dropRequests c p).slotEntry c = s.slotEntry c := by
    unfold State.slotEntry
    rw [State.slot_congr hf.slots]
    congr 1
    exact funext (State.entry_congr hf.table)
  unfold State.destination
  rw [he]
  cases c
  · unfold State.dropRequests
    simp only [canOf]
    split
    · split
      · simp only [State.emptyHolding, canOf]
        split <;> rfl
      · rfl
    · rfl
  · unfold State.dropRequests
    simp only [canOf]
    split
    · split
      · simp only [State.emptyHolding, canOf]
        split <;> rfl
      · rfl
    · rfl
  · rfl

/-- With nothing before it, the BYE of an OPEN channel is what is held (R44). -/
theorem State.frameWaiting_leaveFrames_bye (ho : s.shareState c = .opened) (he : s.holdingEmpty c = true)
    (hw : s.waitingFrames c = []) :
    (s.leaveFrames c).frameWaiting c = some { request := .bye, dest := s.destination c, own := false } := by
  have hn : s.frameWaiting c = none := by
    simp only [State.holdingEmpty, Bool.and_eq_true, Option.isNone_iff_eq_none] at he
    exact he.2
  rw [State.leaveFrames, if_pos ho, State.frameWaiting_disown, State.dropRequests_none hw hn, State.hand_empty he hw,
    State.frameWaiting_putHolding]
  rfl

/-- Where no BYE is handed, what was still to hand but for the dialog's requests is left (R44). -/
theorem State.waitingFrames_leaveFrames (ho : s.shareState c ≠ .opened) :
    (s.leaveFrames c).waitingFrames c = ((s.waitingFrames c).filter (fun f => !f.isOwnRequest)).map TxFrame.disown := by
  rw [State.leaveFrames, if_neg ho, State.waitingFrames_disown, State.waitingFrames_dropRequests]

theorem State.frameWaiting_leaveFrames (ho : s.shareState c ≠ .opened) :
    (s.leaveFrames c).frameWaiting c = ((s.frameWaiting c).filter (fun f => !f.isOwnErase)).map TxFrame.disown := by
  rw [State.leaveFrames, if_neg ho, State.frameWaiting_disown, State.frameWaiting_dropRequests]

/-- A frame that waits after the end of a dialog (R42, R44). -/
theorem State.mem_frames_leaveFrames {f : TxFrame}
    (h : f ∈ (s.leaveFrames c).waitingFrames c ∨ (s.leaveFrames c).frameWaiting c = some f) :
    (s.shareState c = .opened ∧ f = { request := .bye, dest := s.destination c, own := false })
      ∨ (∃ g ∈ s.waitingFrames c, g.isOwnRequest = false ∧ f = g.disown)
      ∨ (∃ g, s.frameWaiting c = some g ∧ g.isOwnErase = false ∧ f = g.disown) := by
  have hdrop : ∀ g : TxFrame, g ∈ (s.dropRequests c TxFrame.isOwnErase).waitingFrames c
      ∨ (s.dropRequests c TxFrame.isOwnErase).frameWaiting c = some g →
      (g ∈ s.waitingFrames c ∧ g.isOwnRequest = false) ∨ (s.frameWaiting c = some g ∧ g.isOwnErase = false) := by
    intro g hg
    rw [State.waitingFrames_dropRequests, State.frameWaiting_dropRequests, List.mem_filter,
      Option.filter_eq_some_iff] at hg
    simpa using hg
  have hdisown : ∃ g : TxFrame, f = g.disown
      ∧ (g ∈ (s.dropRequests c TxFrame.isOwnErase).waitingFrames c
        ∨ (s.dropRequests c TxFrame.isOwnErase).frameWaiting c = some g
        ∨ (s.shareState c = .opened ∧ g = { request := .bye, dest := s.destination c })) := by
    unfold State.leaveFrames at h
    rw [State.waitingFrames_disown, State.frameWaiting_disown, List.mem_map, Option.map_eq_some_iff] at h
    obtain ⟨g, hg, rfl⟩ : ∃ g : TxFrame, (g ∈ (if s.shareState c = .opened then
          (s.dropRequests c TxFrame.isOwnErase).hand c .bye else s.dropRequests c TxFrame.isOwnErase).waitingFrames c
        ∨ (if s.shareState c = .opened then (s.dropRequests c TxFrame.isOwnErase).hand c .bye
          else s.dropRequests c TxFrame.isOwnErase).frameWaiting c = some g) ∧ g.disown = f := by
      rcases h with ⟨g, hg, rfl⟩ | ⟨g, hg, rfl⟩
      · exact ⟨g, .inl hg, rfl⟩
      · exact ⟨g, .inr hg, rfl⟩
    refine ⟨g, rfl, ?_⟩
    split at hg
    · next ho =>
      have hm := State.mem_frames_hand hg
      rw [State.destination_dropRequests] at hm
      exact hm.imp_right (Or.imp_right (fun hb => ⟨ho, hb⟩))
    · exact hg.imp_right .inl
  obtain ⟨g, rfl, hg⟩ := hdisown
  rcases hg with hg | hg | ⟨ho, rfl⟩
  · rcases hdrop g (.inl hg) with ⟨h1, h2⟩ | ⟨h1, h2⟩
    · exact .inr (.inl ⟨g, h1, h2, rfl⟩)
    · exact .inr (.inr ⟨g, h1, h2, rfl⟩)
  · rcases hdrop g (.inr hg) with ⟨h1, h2⟩ | ⟨h1, h2⟩
    · exact .inr (.inl ⟨g, h1, h2, rfl⟩)
    · exact .inr (.inr ⟨g, h1, h2, rfl⟩)
  · exact .inl ⟨ho, rfl⟩

end Sys2Proof.Machine
end

section
/-! A dialog over, before its step ends (R8, R18, R44). -/

namespace Sys2Proof.Claim

open Sys2Proof.Machine

variable {s t u v : State} {c d : Channel} {i : ModuleIndex} {e : DialogEnd}

/-! ### The append of R18 -/

theorem appends_iff (s : State) (i : ModuleIndex) : s.appends i = true ↔ appendsNow s i := by
  simp [State.appends, appendsNow, and_assoc]

/-- The append weighed, as R17 says it. -/
theorem weighAppend_eq (s : State) (i : ModuleIndex) :
    s.weighAppend i = s.withSweep (if s.appends i then withAppended s i else s.sweep) := by
  unfold State.weighAppend
  split <;> rfl

/-- What R17 reads of the state. -/
theorem appends_congr (hw : t.sweep = { s.sweep with
      counts := t.sweep.counts, created := t.sweep.created, updated := t.sweep.updated, refused := t.sweep.refused })
    (hslot : ∀ d, t.slot d = s.slot d) (hshare : t.share = s.share)
    (he : (t.entry i).configured = (s.entry i).configured) : t.appends i = s.appends i := by
  simp only [Entry.configured, Prod.mk.injEq] at he
  obtain ⟨-, hc, -, hsl, -⟩ := he
  have hl : t.listed i = s.listed i := by
    simp only [State.listed, State.workList, (congrArg Sweep.lists hw :)]
  have hin : t.inSlot i = s.inSlot i := by
    simp only [State.inSlot, hslot]
  have hst : t.sweep.state = s.sweep.state := (congrArg Sweep.state hw :)
  have hre : t.sweep.reached = s.sweep.reached := (congrArg Sweep.reached hw :)
  have hap : t.sweep.appended = s.sweep.appended := (congrArg Sweep.appended hw :)
  have hop : t.sweep.options = s.sweep.options := (congrArg Sweep.options hw :)
  simp only [State.appends, hl, hin, hst, hre, hap, hop, hc, hsl, State.shareState_congr hshare]

/-! ### A dialog over -/

/-- The state in which R18 weighs the append of a module whose dialog has ended: its slot FREE and its mark set. -/
def reachedOver (s : State) (c : Channel) (i : ModuleIndex) : State :=
  (s.withSlot c {}).withSweep { s.sweep with reached := s.sweep.reached.set i true }

/-- The lists and appended marks after the end of a module's dialog (R18). -/
def overSweep (s : State) (c : Channel) (i : ModuleIndex) : Sweep :=
  if (s.entry i).attention = true ∧ (reachedOver s c i).appends i = true then withAppended (reachedOver s c i) i
  else s.sweep

/-- `v` is `s` with the dialog of a channel ended for a module, and nothing settled yet (R8, R18, R44). -/
structure DialogOver (s : State) (c : Channel) (i : ModuleIndex) (e : DialogEnd) (v : State) : Prop where
  slot : v.slot c = {}
  others : ∀ d, d ≠ c → v.slot d = s.slot d
  share : v.share = s.share
  entry : ∃ r, v.entry i =
    { s.entry i with lastOutcome := some e.outcome, lastSweep := s.sweep.number, resolution := r }
  entries : ∀ j, j ≠ i → v.entry j = s.entry j
  sweep : v.sweep = { s.sweep with
    lists := (overSweep s c i).lists, appended := (overSweep s c i).appended, reached := s.sweep.reached.set i true,
    counts := s.sweep.counts.set e.outcome.index (satSucc 255 s.sweep.counts[e.outcome.index]),
    created := v.sweep.created, updated := v.sweep.updated, refused := v.sweep.refused }
  link : v.link = (e.before ++ [Notice.moduleEnd i e.outcome e.pages e.refused]).foldl Link.notify s.link
  works : s.Works v
  bye : s.shareState c = .opened → nothingWaits s c → holds s v c (s.entry i) .bye none false
  withoutBye : s.shareState c ≠ .opened →
    v.waitingFrames c = (stillToHand s c).map (fun f => { f with own := false }) ∧ (noneWaits s c → noneWaits v c)
  frames : ∀ f, f ∈ v.waitingFrames c ∨ v.frameWaiting c = some f → mayWaitAfterwards s c (s.entry i) f

/-- `u` is `s` with the slot of a channel ready to end its dialog for a module as `e` says: what the command that ends it
has done before (a page merged, a resolution written, a REFERRAL queued, the slot's own context). -/
structure EndsFrom (s : State) (c : Channel) (i : ModuleIndex) (e : DialogEnd) (u : State) : Prop where
  module : (u.slot c).module = some i
  pages : (u.slot c).pagesRead = e.pages
  refused : (u.slot c).refused = e.refused
  others : ∀ d, d ≠ c → u.slot d = s.slot d
  share : u.share = s.share
  sweep : u.sweep =
    { s.sweep with created := u.sweep.created, updated := u.sweep.updated, refused := u.sweep.refused }
  entry : ∃ r, u.entry i = { s.entry i with resolution := r }
  entries : ∀ j, j ≠ i → u.entry j = s.entry j
  link : u.link = e.before.foldl Link.notify s.link
  toHand : u.toHand = s.toHand
  can : u.can = s.can
  waiting : u.frameWaiting c = s.frameWaiting c
  nothing : nothingWaits s c → nothingWaits u c
  echo : u.line.echoMismatches = s.line.echoMismatches

/-- The frame that waits in a holding, as the statements say it (R23). -/
theorem holds_iff_frameWaiting {x : Entry} {f : TxRequest} {n : Option Nat} {own : Bool} :
    holds s t c x f n own ↔ t.frameWaiting c = some ⟨f, destinationOf s c x, n, own⟩ := by
  have hk : ∀ (h : Holding) (g : TxFrame), h = .waiting g ↔ h.unstarted = some g := by
    intro h g
    cases h <;> simp [Holding.unstarted]
  cases c
  · exact (hk _ _).trans (Iff.of_eq (congrArg (· = _) (State.frameWaiting_toChannel t .a).symm))
  · exact (hk _ _).trans (Iff.of_eq (congrArg (· = _) (State.frameWaiting_toChannel t .b).symm))
  · rfl

theorem EndsFrom.destination (h : EndsFrom s c i e u) : u.destination c = destinationOf s c (s.entry i) := by
  obtain ⟨r, hr⟩ := h.entry
  have hse : u.slotEntry c = some (u.entry i) := by rw [State.slotEntry, h.module, Option.map_some]
  unfold State.destination
  rw [hse, hr]
  cases c
  · simp only [canOf, destinationOf, State.canCtl, h.can]; rfl
  · simp only [canOf, destinationOf, State.canCtl, h.can]; rfl
  · rfl

theorem EndsFrom.waitingFrames (h : EndsFrom s c i e u) (d : Channel) : u.waitingFrames d = s.waitingFrames d := by
  simp only [State.waitingFrames, h.toHand]

/-- The outcome recorded and the slot FREE, before the append is weighed (R8). -/
def outcomeRecorded (u : State) (c : Channel) (i : ModuleIndex) (e : DialogEnd) : State :=
  ((u.leaveFrames c).recordOutcome i e.outcome e.pages e.refused).freeSlot c

theorem EndsFrom.endDialog_eq (h : EndsFrom s c i e u) :
    u.endDialog c e.outcome =
      if ((outcomeRecorded u c i e).entry i).attention then (outcomeRecorded u c i e).weighAppend i
      else outcomeRecorded u c i e := by
  have hslot : (u.leaveFrames c).slot c = u.slot c := State.slot_congr (u.leaveFrames_frames c).only.slots c
  rw [State.endDialog_eq, State.passOutcome, hslot, h.module, h.pages, h.refused]
  rfl

theorem outcomeRecorded_frames (u : State) (c : Channel) (i : ModuleIndex) (e : DialogEnd) :
    State.FramesOf c (((u.leaveFrames c).recordOutcome i e.outcome e.pages e.refused).withSlot c {})
      (outcomeRecorded u c i e) := .freeSlot _ c

theorem outcomeRecorded_sweep (u : State) (c : Channel) (i : ModuleIndex) (e : DialogEnd) :
    (outcomeRecorded u c i e).sweep = { u.sweep with
      reached := u.sweep.reached.set i true,
      counts := u.sweep.counts.set e.outcome.index (satSucc 255 u.sweep.counts[e.outcome.index]) } := by
  have hw := (u.leaveFrames_frames c).only.sweep
  refine (outcomeRecorded_frames u c i e).only.sweep.trans ?_
  show { (u.leaveFrames c).sweep with
      reached := (u.leaveFrames c).sweep.reached.set i true,
      counts := (u.leaveFrames c).sweep.counts.set e.outcome.index
        (satSucc 255 (u.leaveFrames c).sweep.counts[e.outcome.index]) } = _
  rw [hw]

theorem outcomeRecorded_entry (u : State) (c : Channel) (i : ModuleIndex) (e : DialogEnd) (j : ModuleIndex) :
    (outcomeRecorded u c i e).entry j =
      if j = i then { u.entry i with lastOutcome := some e.outcome, lastSweep := u.sweep.number } else u.entry j := by
  have hw := (u.leaveFrames_frames c).only.sweep
  have ht := State.entry_congr (u.leaveFrames_frames c).only.table
  refine (State.entry_congr (outcomeRecorded_frames u c i e).only.table j).trans ?_
  show ((u.leaveFrames c).withEntry i
    { (u.leaveFrames c).entry i with lastOutcome := some e.outcome, lastSweep := (u.leaveFrames c).sweep.number }).entry j = _
  rw [hw, ht]
  split
  · next hj => rw [hj, State.entry_withEntry]
  · next hj =>
    rw [← ht j]
    simpa [State.entry] using Vector.getElem_set_ne _ _ (Fin.val_ne_of_ne (Ne.symm hj))

theorem outcomeRecorded_slot (u : State) (c : Channel) (i : ModuleIndex) (e : DialogEnd) :
    (outcomeRecorded u c i e).slot c = {} := State.slot_freeSlot _ c

theorem outcomeRecorded_slot_other (u : State) (c : Channel) (i : ModuleIndex) (e : DialogEnd) (hd : d ≠ c) :
    (outcomeRecorded u c i e).slot d = u.slot d :=
  (State.slot_freeSlot_other _ hd).trans (State.slot_congr (u.leaveFrames_frames c).only.slots d)

theorem outcomeRecorded_share (u : State) (c : Channel) (i : ModuleIndex) (e : DialogEnd) :
    (outcomeRecorded u c i e).share = u.share :=
  (outcomeRecorded_frames u c i e).only.share.trans (u.leaveFrames_frames c).only.share

theorem outcomeRecorded_history (u : State) (c : Channel) (i : ModuleIndex) (e : DialogEnd) :
    (outcomeRecorded u c i e).history = u.history :=
  (outcomeRecorded_frames u c i e).only.history.trans (u.leaveFrames_frames c).only.history

theorem outcomeRecorded_link (u : State) (c : Channel) (i : ModuleIndex) (e : DialogEnd) :
    (outcomeRecorded u c i e).link = u.link.notify (.moduleEnd i e.outcome e.pages e.refused) :=
  (outcomeRecorded_frames u c i e).only.link.trans
    (congrArg (fun l : Link => l.notify (.moduleEnd i e.outcome e.pages e.refused)) (u.leaveFrames_frames c).only.link)

theorem outcomeRecorded_waits (u : State) (c : Channel) (i : ModuleIndex) (e : DialogEnd) (d : Channel) :
    (outcomeRecorded u c i e).frameWaiting d = (u.leaveFrames c).frameWaiting d
      ∧ (outcomeRecorded u c i e).waitingFrames d = (u.leaveFrames c).waitingFrames d := State.frames_freeSlot _ c d

/-- The append weighed changes the sweep controller alone. -/
theorem EndsFrom.endDialog_withSweep (h : EndsFrom s c i e u) :
    u.endDialog c e.outcome = (outcomeRecorded u c i e).withSweep
      { (outcomeRecorded u c i e).sweep with
        lists := (overSweep s c i).lists, appended := (overSweep s c i).appended } := by
  have hsw := outcomeRecorded_sweep u c i e
  have hent := outcomeRecorded_entry u c i e i
  rw [if_pos rfl] at hent
  obtain ⟨r, hr⟩ := h.entry
  have hatt : ((outcomeRecorded u c i e).entry i).attention = (s.entry i).attention := by rw [hent, hr]
  have hlists : (outcomeRecorded u c i e).sweep.lists = s.sweep.lists := by rw [hsw, h.sweep]
  have happended : (outcomeRecorded u c i e).sweep.appended = s.sweep.appended := by rw [hsw, h.sweep]
  have happ : (outcomeRecorded u c i e).appends i = (reachedOver s c i).appends i := by
    refine appends_congr ?_ (fun d => ?_) ?_ ?_
    · rw [hsw, h.sweep]
      rfl
    · by_cases hd : d = c
      · subst hd
        exact (outcomeRecorded_slot u d i e).trans (State.slot_withSlot s d {}).symm
      · exact (outcomeRecorded_slot_other u c i e hd).trans
          ((h.others d hd).trans (State.slot_withSlot_other s hd {}).symm)
    · exact (outcomeRecorded_share u c i e).trans h.share
    · rw [hent, hr]
      rfl
  have hch : ((outcomeRecorded u c i e).entry i).channel = (s.entry i).channel := by rw [hent, hr]
  rw [h.endDialog_eq, hatt, overSweep, ← happ]
  generalize outcomeRecorded u c i e = w at *
  have hsame : w = w.withSweep { w.sweep with lists := s.sweep.lists, appended := s.sweep.appended } := by
    rw [← hlists, ← happended]
    rfl
  have hadded : withAppended w i = { w.sweep with
      lists := (withAppended (reachedOver s c i) i).lists,
      appended := (withAppended (reachedOver s c i) i).appended } := by
    have hwl : w.workList = s.workList := funext (State.workList_congr hlists)
    unfold withAppended
    rw [hch, hwl, hlists, happended]
    rfl
  cases ha : (s.entry i).attention
  · simpa using hsame
  · rw [if_pos rfl, weighAppend_eq]
    cases hx : w.appends i
    · rw [if_neg (by decide), if_neg (fun hn => absurd hn.2 (by decide))]
      exact hsame
    · rw [if_pos rfl, if_pos ⟨rfl, rfl⟩, hadded]

/-- A dialog that ends is over (R8, R18, R44). -/
theorem EndsFrom.over (h : EndsFrom s c i e u) (hworks : s.Works (u.endDialog c e.outcome)) :
    DialogOver s c i e (u.endDialog c e.outcome) := by
  have hsw := outcomeRecorded_sweep u c i e
  have hnum : u.sweep.number = s.sweep.number := (congrArg Sweep.number h.sweep :)
  obtain ⟨r, hr⟩ := h.entry
  have hst : u.shareState c = s.shareState c := State.shareState_congr h.share c
  rw [h.endDialog_withSweep] at hworks ⊢
  obtain ⟨hwait, hhand⟩ := outcomeRecorded_waits u c i e c
  refine ⟨outcomeRecorded_slot u c i e, fun d hd => (outcomeRecorded_slot_other u c i e hd).trans (h.others d hd),
    (outcomeRecorded_share u c i e).trans h.share, ⟨r, ?_⟩, fun j hj => ?_, ?_, ?_, hworks, fun ho hn => ?_, fun ho => ⟨?_, ?_⟩,
    fun f hf => ?_⟩
  · refine (outcomeRecorded_entry u c i e i).trans ?_
    rw [if_pos rfl, hr, hnum]
  · exact (outcomeRecorded_entry u c i e j).trans ((if_neg hj).trans (h.entries j hj))
  · show { (outcomeRecorded u c i e).sweep with
        lists := (overSweep s c i).lists, appended := (overSweep s c i).appended } = _
    rw [hsw, h.sweep]
    rfl
  · refine (outcomeRecorded_link u c i e).trans ?_
    rw [h.link, List.foldl_append]
    rfl
  · obtain ⟨he, hw⟩ := h.nothing hn
    exact holds_iff_frameWaiting.mpr (hwait.trans
      ((State.frameWaiting_leaveFrames_bye (hst.trans ho) he hw).trans (by rw [h.destination])))
  · refine hhand.trans ((State.waitingFrames_leaveFrames (by rwa [hst])).trans ?_)
    simp only [h.waitingFrames, stillToHand, asks_eq_isOwnRequest]
    rfl
  · rintro ⟨hf, hw⟩
    refine ⟨hwait.trans ((State.frameWaiting_leaveFrames (by rwa [hst])).trans ?_),
      hhand.trans ((State.waitingFrames_leaveFrames (by rwa [hst])).trans ?_)⟩
    · rw [h.waiting, hf]
      rfl
    · rw [h.waitingFrames, hw]
      rfl
  · have hf' : f ∈ (u.leaveFrames c).waitingFrames c ∨ (u.leaveFrames c).frameWaiting c = some f := by
      rwa [← hwait, ← hhand]
    rcases State.mem_frames_leaveFrames hf' with ⟨ho, rfl⟩ | ⟨g, hg, hown, rfl⟩ | ⟨g, hg, hown, rfl⟩
    · exact .inl ⟨hst.symm.trans ho, by rw [h.destination]⟩
    · refine .inr (.inl ⟨g, List.mem_filter.mpr ⟨h.waitingFrames c ▸ hg, ?_⟩, rfl⟩)
      rw [asks_eq_isOwnRequest, hown]
      rfl
    · refine .inr (.inr ⟨g, h.waiting.symm.trans hg, ?_, rfl⟩)
      simpa [TxFrame.isOwnErase] using hown

end Sys2Proof.Claim
end

section
/-! The end of the step in which a dialog ends: the channel's own yield, then the end of the sweep (R12, R44, R156). -/

namespace Sys2Proof.Machine

/-! ### A yield on a channel whose slot is FREE (R156, R157) -/

/-- `t` is `s` but for share states, notices and frames in progress on CAN, which are let go. -/
structure State.YieldOnly (s t : State) : Prop where
  only : t = { s with share := t.share, can := t.can, link := t.link }
  waiting : ∀ d, t.frameWaiting d = s.frameWaiting d

namespace State.YieldOnly

variable {s t u : State} (h : s.YieldOnly t)

theorem refl (s : State) : s.YieldOnly s := ⟨rfl, fun _ => rfl⟩

theorem trans (h : s.YieldOnly t) (k : t.YieldOnly u) : s.YieldOnly u := by
  refine ⟨?_, fun d => (k.waiting d).trans (h.waiting d)⟩
  rw [k.only, h.only]

include h

theorem slots : t.slots = s.slots := by rw [h.only]
theorem sweep : t.sweep = s.sweep := by rw [h.only]
theorem table : t.table = s.table := by rw [h.only]
theorem history : t.history = s.history := by rw [h.only]
theorem toHand : t.toHand = s.toHand := by rw [h.only]
theorem line : t.line = s.line := by rw [h.only]
theorem settings : t.settings = s.settings := by rw [h.only]

end State.YieldOnly

theorem State.YieldOnly.withShareState (s : State) (c : Channel) (x : ShareState) : s.YieldOnly (s.withShareState c x) :=
  ⟨rfl, fun _ => rfl⟩

theorem State.YieldOnly.notify (s : State) (n : Notice) : s.YieldOnly (s.notify n) := ⟨rfl, fun _ => rfl⟩

theorem State.YieldOnly.recomputeOutputs (s : State) : s.YieldOnly s.recomputeOutputs := ⟨rfl, fun _ => rfl⟩

theorem Holding.unstarted_cut (k : Can) : k.cut.holding.unstarted = k.holding.unstarted := by
  unfold Can.cut
  split
  · next h => rw [h]; rfl
  · rfl

/-- Letting go of a bus keeps the frame that waits unstarted (R131). -/
theorem State.YieldOnly.letGo (s : State) (c : Channel) : s.YieldOnly (s.letGo c) := by
  have hk : ∀ k : CanChannel, s.YieldOnly (s.withCan k (s.canCtl k).cut) := by
    refine fun k => ⟨rfl, fun d => ?_⟩
    have hj : ∀ j : CanChannel, (s.withCan k (s.canCtl k).cut).frameWaiting j.toChannel = s.frameWaiting j.toChannel := by
      intro j
      rw [State.frameWaiting_toChannel, State.frameWaiting_toChannel]
      cases k <;> cases j
      · exact Holding.unstarted_cut _
      · rfl
      · rfl
      · exact Holding.unstarted_cut _
    cases d
    · exact hj .a
    · exact hj .b
    · rfl
  cases c
  · exact hk .a
  · exact hk .b
  · exact .refl s

theorem State.YieldOnly.reopenIfClear {s : State} {c : Channel} (hf : (s.slot c).state = .free) :
    s.YieldOnly (s.reopenIfClear c) := by
  unfold State.reopenIfClear
  split
  · have hn : (((s.withShareState c .opened).notify (.channelEvent c .resumed none)).slot c).state ≠ .parked := by
      show (s.slot c).state ≠ .parked
      rw [hf]
      decide
    rw [State.resumeSlot_of_not_parked hn]
    exact (withShareState s c .opened).trans (.notify _ _)
  · exact .refl s

theorem State.YieldOnly.enterYielded {s : State} {c : Channel} (hf : (s.slot c).state = .free) :
    s.YieldOnly (s.enterYielded c) := by
  have hy : s.YieldOnly (((s.letGo c).withShareState c .yielded).notify (.channelEvent c .yielded none)) :=
    ((letGo s c).trans (.withShareState _ _ _)).trans (.notify _ _)
  exact hy.trans (.reopenIfClear (by rw [State.slot_congr hy.slots]; exact hf))

/-- A yield settled on a channel whose slot is FREE (R156). -/
theorem State.YieldOnly.yieldSettle {s : State} {c : Channel} (hf : (s.slot c).state = .free) :
    s.YieldOnly (s.yieldSettle c) := by
  unfold State.yieldSettle
  split
  · exact .enterYielded hf
  · exact .refl s

theorem State.YieldOnly.waitingFrames {s t : State} (h : s.YieldOnly t) (d : Channel) :
    t.waitingFrames d = s.waitingFrames d := by
  simp only [State.waitingFrames, h.toHand]

theorem State.YieldOnly.sweepDone {s t : State} (h : s.YieldOnly t) : t.sweepDone = s.sweepDone := by
  rw [h.only]
  rfl

end Sys2Proof.Machine

namespace Sys2Proof.Claim

open Sys2Proof.Machine

variable {s t u v : State} {c d : Channel} {i : ModuleIndex} {e : DialogEnd}

/-! ### What the end of a dialog leaves to settle -/

theorem satSucc_byte (n : Nat) : satSucc 255 n = min 255 (n + 1) := by
  unfold satSucc
  split <;> omega

/-- The end of a dialog takes no module from a list (R18). -/
theorem overSweep_lists (s : State) (c : Channel) (i : ModuleIndex) (d : Channel) :
    s.workList d <+: (overSweep s c i).lists.get d := by
  unfold overSweep
  split
  · show s.workList d <+: (s.sweep.lists.set (s.entry i).channel (s.workList (s.entry i).channel ++ [i])).get d
    by_cases hd : d = (s.entry i).channel
    · rw [hd, PerChannel.get_set_same]
      exact List.prefix_append _ _
    · rw [PerChannel.get_set_other _ hd]
      exact List.prefix_refl _
  · exact List.prefix_refl _

theorem overSweep_of_clear (h : (s.entry i).attention = false) : overSweep s c i = s.sweep :=
  if_neg (fun hn => absurd (h.symm.trans hn.1) (by decide))

/-- The part's own work queues its notices behind what the outbound queue holds (R168). -/
theorem outbound_of_works (h : s.Works t) : s.link.outbound <+: t.link.outbound := by
  obtain ⟨-, -, -, -, hout, -⟩ := h.notified.keeps
  exact hout

namespace DialogOver

theorem workList (h : DialogOver s c i e v) (d : Channel) : v.workList d = (overSweep s c i).lists.get d := by
  rw [State.workList, h.sweep]

theorem free (h : DialogOver s c i e v) : (v.slot c).state = .free := by rw [h.slot]

/-- No other channel has reached a yield. -/
theorem others_not_reached (h : DialogOver s c i e v) (hs : Settled s) (d : Channel) (hd : d ≠ c) : ¬ v.yieldReached d := by
  have := hs.not_reached d
  rwa [State.yieldReached, State.shareState_congr h.share, h.others d hd]

theorem closeStep_eq (h : DialogOver s c i e v) (hs : Settled s) :
    v.closeStep = (State.settleSweep 3 (v.yieldSettle c)).recomputeOutputs := by
  rw [State.closeStep, State.yieldSettle_only (h.others_not_reached hs)]

/-- With other work the sweep goes on, and the end of the step settles the channel's own yield alone. -/
theorem closeStep_of_otherWork (h : DialogOver s c i e v) (hs : Settled s) (ho : otherWork s c) :
    v.closeStep = (v.yieldSettle c).recomputeOutputs := by
  have hdone : v.sweepDone = false := by
    obtain ⟨d, hl | ⟨hd, hb⟩⟩ := ho
    · refine State.sweepDone_of_listed (c := d) (fun hn => hl ?_)
      have := overSweep_lists s c i d
      rw [← h.workList, hn] at this
      exact List.prefix_nil.mp this
    · exact State.sweepDone_of_busy (c := d) (by rwa [h.others d hd])
  rw [h.closeStep_eq hs, State.settleSweep_of_not_done ((State.YieldOnly.yieldSettle h.free).sweepDone.trans hdone)]

/-- With other work the end of the step changes shares, notices and frames in progress alone. -/
theorem closeStep_yieldOnly (h : DialogOver s c i e v) (hs : Settled s) (ho : otherWork s c) : v.YieldOnly v.closeStep := by
  rw [h.closeStep_of_otherWork hs ho]
  exact (State.YieldOnly.yieldSettle h.free).trans (.recomputeOutputs _)

/-- The notices of the end of a dialog stand in front of those of the end of the step. -/
theorem outbound (h : DialogOver s c i e v) (hroom : s.link.noticesHeld + e.before.length < 12) :
    v.link.outbound = s.link.outbound ++ e.before.map OutFrame.notice
      ++ [.notice (.moduleEnd i e.outcome e.pages e.refused)] := by
  rw [h.link, Link.foldl_notify_room _ (by rw [List.length_append, List.length_singleton]; omega)]
  simp

theorem prefix_closeStep (v : State) : v.link.outbound <+: v.closeStep.link.outbound :=
  outbound_of_works (State.Works.refl v).closeStep

/-- A dialog over, with other work for the sweep, has ended as R8 and R44 lay down. -/
theorem endedWith (h : DialogOver s c i e v) (hs : Settled s) (ho : otherWork s c) : EndedWith s v.closeStep c i e := by
  have hy := h.closeStep_yieldOnly hs ho
  have hwaits : ∀ d, v.closeStep.waitingFrames d = v.waitingFrames d := hy.waitingFrames
  obtain ⟨r, hr⟩ := h.entry
  have hent : v.closeStep.entry i = _ := (State.entry_congr hy.table i).trans hr
  have hw : v.closeStep.sweep = _ := hy.sweep.trans h.sweep
  refine ⟨(State.slot_congr hy.slots c).trans h.slot, (congrArg Entry.lastOutcome hent :),
    (congrArg Entry.lastSweep hent :), fun j hj => (State.entry_congr hy.table j).trans (h.entries j hj),
    (congrArg Sweep.number hw :), ?_, ?_, fun hroom => ?_, fun hopen hn => ?_, fun hopen => ⟨?_, fun hn => ?_⟩,
    fun f hf => ?_, fun d hd => (State.slot_congr hy.slots d).trans (h.others d hd), ownWork_of_works h.works.closeStep⟩
  · rw [hw]
    simp
  · rw [hw]
    simp [satSucc_byte]
  · exact h.outbound hroom ▸ prefix_closeStep v
  · exact holds_iff_frameWaiting.mpr ((hy.waiting c).trans (holds_iff_frameWaiting.mp (h.bye hopen hn)))
  · exact (hwaits c).trans (h.withoutBye hopen).1
  · obtain ⟨hf, hg⟩ := (h.withoutBye hopen).2 hn
    exact ⟨(hy.waiting c).trans hf, (hwaits c).trans hg⟩
  · rw [hwaits, hy.waiting] at hf
    exact h.frames f hf

/-! ### The last dialog of a sweep (R12) -/

/-- With no list, no other slot busy and the module's flag clear, the end of the dialog meets the end condition (R12). -/
theorem sweepDone (h : DialogOver s c i e v) (hi : s.sweep.state ≠ .idle) (hl : ∀ d, s.workList d = [])
    (hf : ∀ d, d ≠ c → (s.slot d).state = .free) (ha : (s.entry i).attention = false) : v.sweepDone = true := by
  refine (State.sweepDone_iff v).mpr ⟨?_, fun d => ⟨?_, ?_⟩⟩
  · rwa [h.sweep]
  · rw [h.workList, overSweep_of_clear ha]
    exact hl d
  · by_cases hd : d = c
    · rw [hd, h.free]
    · rw [h.others d hd, hf d hd]

theorem yieldSettle_of_not_pending (h : DialogOver s c i e v) (hp : s.shareState c ≠ .yieldPending) : v.yieldSettle c = v :=
  State.yieldSettle_of_not_reached (fun hr => hp ((State.shareState_congr h.share c).symm.trans hr.1))

theorem setting_eq (h : DialogOver s c i e v) (x : SettingId) : v.setting x = s.setting x := by
  rw [State.setting, h.works.settings, State.setting]

/-- The last dialog of a sweep over, the end of the step ends the sweep (R12). -/
theorem closeStep_of_last (h : DialogOver s c i e v) (hs : Settled s) (hl : lastDialog s c i) :
    v.closeStep = (v.endSweep (if s.sweep.haltTaken then .halted else .finished)).recomputeOutputs := by
  obtain ⟨-, hidle, hlists, hfree, hatt, hflag, hyield⟩ := hl
  have hhalt : v.sweep.haltTaken = s.sweep.haltTaken := (congrArg Sweep.haltTaken h.sweep :)
  rw [h.closeStep_eq hs, h.yieldSettle_of_not_pending hyield,
    State.settleSweep_ends (h.sweepDone hidle hlists hfree hflag) (State.attentionDue_of_off ((h.setting_eq _).trans hatt)),
    hhalt]

/-- The last dialog of a sweep over, the sweep has ended with it (R8, R12). -/
theorem sweepEnded (h : DialogOver s c i e v) (hs : Settled s) (hl : lastDialog s c i)
    (hroom : s.link.noticesHeld + e.before.length < 11) :
    SweepEnded s v.closeStep i e (e.before.map OutFrame.notice) := by
  have hfree : ∀ d, d ≠ c → (s.slot d).state = .free := by
    obtain ⟨-, -, -, hfree, -⟩ := hl
    exact hfree
  rw [h.closeStep_of_last hs hl]
  obtain ⟨r, hr⟩ := h.entry
  have hw := h.sweep
  have hnotices : v.link.noticesHeld = s.link.noticesHeld + e.before.length + 1 := by
    have ho := h.outbound (by omega)
    simp only [Link.noticesHeld, ho, List.filter_append, List.length_append]
    simp [OutFrame.isNotice, List.filter_map, Function.comp_def]
    rfl
  have hlink : (v.endSweep (if s.sweep.haltTaken then .halted else .finished)).link =
      { v.link with outbound := v.link.outbound ++ [.notice (.sweepEnd
        (if s.sweep.haltTaken then .halted else .finished) v.sweep.number v.sweep.kind v.sweep.counts v.sweep.created
        v.sweep.updated v.sweep.refused)] } := by
    rw [State.endSweep_link, Link.notify_room (by omega)]
  refine ⟨fun d => ?_, rfl, rfl, (congrArg Sweep.number hw :), ?_, ?_, ?_, (congrArg Entry.lastOutcome hr :),
    (congrArg Entry.lastSweep hr :), h.entries⟩
  · show (v.slot d).state = .free
    by_cases hd : d = c
    · rw [hd, h.free]
    · rw [h.others d hd]
      exact hfree d hd
  · show v.sweep.reached[i] = true
    rw [hw]
    simp
  · refine (congrArg Sweep.counts hw :).trans ?_
    dsimp only
    rw [satSucc_byte]
  · refine (congrArg Link.outbound hlink).trans ?_
    show v.link.outbound ++ [OutFrame.notice (Notice.sweepEnd _ v.sweep.number v.sweep.kind _ _ _ _)] = _
    rw [h.outbound (by omega), (congrArg Sweep.number hw :), (congrArg Sweep.kind hw :), List.append_assoc]
    rfl

end DialogOver

end Sys2Proof.Claim
end

section
/-! What ends a dialog (R14, R24 to R49): each way to the end leaves the slot ready for it. -/

namespace Sys2Proof.Claim

open Sys2Proof.Machine

variable {s t u v : State} {c d : Channel} {i : ModuleIndex} {e : DialogEnd} {o : SweepOutcome}

/-! ### The slot made ready -/

theorem EndsFrom.refl (h : (s.slot c).module = some i) (o : SweepOutcome) : EndsFrom s c i (endOf s c o) s where
  module := h
  pages := rfl
  refused := rfl
  others _ _ := rfl
  share := rfl
  sweep := rfl
  entry := ⟨_, rfl⟩
  entries _ _ := rfl
  link := rfl
  toHand := rfl
  can := rfl
  waiting := rfl
  nothing := id
  echo := rfl

/-- The outcome is the end's own. -/
theorem EndsFrom.with_outcome (h : EndsFrom s c i e u) (o : SweepOutcome) : EndsFrom s c i { e with outcome := o } u :=
  { h with }

theorem EndsFrom.withSlot (h : EndsFrom s c i e u) {x : Slot} (hm : x.module = (u.slot c).module)
    (hp : x.pagesRead = e.pages) (hr : x.refused = e.refused) : EndsFrom s c i e (u.withSlot c x) :=
  { h with
    module := by rw [State.slot_withSlot, hm, h.module]
    pages := by rw [State.slot_withSlot, hp]
    refused := by rw [State.slot_withSlot, hr]
    others := fun d hd => (State.slot_withSlot_other u hd x).trans (h.others d hd) }

/-- A change of the slot's context that keeps its module, pages read and refusals. -/
theorem EndsFrom.withContext (h : EndsFrom s c i e u) {x : Slot} (hm : x.module = (u.slot c).module)
    (hp : x.pagesRead = (u.slot c).pagesRead) (hr : x.refused = (u.slot c).refused) :
    EndsFrom s c i e (u.withSlot c x) := h.withSlot hm (hp.trans h.pages) (hr.trans h.refused)

theorem EndsFrom.withHistory (h : EndsFrom s c i e u) (x : History) : EndsFrom s c i e (u.withHistory x) := { h with }

theorem EndsFrom.resolve (h : EndsFrom s c i e u) (x : Resolution) : EndsFrom s c i e (u.resolve c x) := by
  obtain ⟨r, hr⟩ := h.entry
  have hres : u.resolve c x = u.withEntry i { u.entry i with resolution := x } := by
    unfold State.resolve
    rw [h.module]
  rw [hres]
  refine { h with entry := ⟨x, ?_⟩, entries := fun j hj => ?_ }
  · rw [State.entry_withEntry, hr]
  · rw [← h.entries j hj]
    simpa [State.entry] using Vector.getElem_set_ne _ _ (Fin.val_ne_of_ne (Ne.symm hj))

theorem EndsFrom.notify (h : EndsFrom s c i e u) (n : Notice) :
    EndsFrom s c i { e with before := e.before ++ [n] } (u.notify n) :=
  { h with
    link := by
      rw [List.foldl_append]
      exact congrArg (fun l : Link => l.notify n) h.link }

theorem EndsFrom.slotEntry (h : EndsFrom s c i e u) : u.slotEntry c = some (u.entry i) := by
  rw [State.slotEntry, h.module, Option.map_some]

theorem EndsFrom.halting (h : EndsFrom s c i e u) : u.halting = true ↔ s.sweep.state = .halting := by
  rw [State.halting, (congrArg Sweep.state h.sweep :)]
  simp

theorem EndsFrom.shareState (h : EndsFrom s c i e u) (d : Channel) : u.shareState d = s.shareState d :=
  State.shareState_congr h.share d

/-! ### Ending -/

/-- `t` is `s` with the dialog of a channel ended as `e` says, from the slot made ready. -/
def Ends (s : State) (c : Channel) (i : ModuleIndex) (e : DialogEnd) (t : State) : Prop :=
  ∃ u, EndsFrom s c i e u ∧ t = u.endDialog c e.outcome

theorem EndsFrom.ends (h : EndsFrom s c i e u) (o : SweepOutcome) : Ends s c i { e with outcome := o } (u.endDialog c o) :=
  ⟨u, h.with_outcome o, rfl⟩

theorem Ends.over (h : Ends s c i e t) (hw : s.Works t) : DialogOver s c i e t := by
  obtain ⟨u, hu, rfl⟩ := h
  exact hu.over hw

/-! ### Identity (R30, R32, R33, R49) -/

/-- At a boundary under a halt the page that would be asked ends the dialog ABORTED (R14, R32). -/
theorem EndsFrom.enterPage_halting (h : EndsFrom s c i e u) (hh : s.sweep.state = .halting) (n : Nat) :
    Ends s c i { e with outcome := .aborted } (u.enterPage c n) := by
  have hu : EndsFrom s c i e (u.withSlot c { u.slot c with page := n }) := h.withContext rfl rfl rfl
  unfold State.enterPage
  dsimp only
  rw [if_pos (hu.halting.mpr hh)]
  exact hu.ends .aborted

theorem EndsFrom.settleFound_halting (h : EndsFrom s c i e u) (hh : s.sweep.state = .halting) (r : ProfileRef) :
    Ends s c i { e with outcome := .aborted } (u.settleFound c r) := by
  have hu : EndsFrom s c i e (u.withSlot c { u.slot c with profile := some r, referral := none }) :=
    h.withContext rfl rfl rfl
  exact hu.enterPage_halting hh 0

theorem EndsFrom.refer_halting (h : EndsFrom s c i e u) (hh : s.sweep.state = .halting) (g : Word16) :
    Ends s c i { e with outcome := .aborted, before := e.before ++ [.referral i g] } (u.refer c g) := by
  have hu := h.resolve .unresolved
  have hn : EndsFrom s c i _ _ := hu.notify (.referral i g)
  unfold State.refer
  dsimp only
  rw [hu.module]
  dsimp only
  rw [if_pos (hn.halting.mpr hh)]
  refine EndsFrom.ends (hn.withContext ?_ ?_ ?_) .aborted <;> rfl

/-- The resolution that settling reads (R32, R80). -/
theorem EndsFrom.settleProfile_eq (h : EndsFrom s c i e u) (ht : u.entry i = s.entry i) (g : Word16) :
    u.settleProfile c g =
      match (s.entry i).resolution with
      | .resolved r t => if t = g then u.settleFound c r else u.settleLookup c g
      | .declined t => if t = g then u.endDialog c .unsupported else u.settleLookup c g
      | .unresolved => u.settleLookup c g := by
  unfold State.settleProfile
  rw [h.slotEntry, ht]
  rfl

/-- Where no quick path applies the profile is looked up (R32, R79). -/
theorem EndsFrom.settleProfile_lookup (h : EndsFrom s c i e u) (ht : u.entry i = s.entry i) {g : Word16}
    (hr : ∀ r, (s.entry i).resolution ≠ .resolved r g) (hd : (s.entry i).resolution ≠ .declined g) :
    u.settleProfile c g = u.settleLookup c g := by
  rw [h.settleProfile_eq ht]
  cases hx : (s.entry i).resolution with
  | resolved r t => exact if_neg (fun hn => hr r (by rw [hx, hn]))
  | declined t => exact if_neg (fun hn => hd (by rw [hx, hn]))
  | unresolved => rfl

theorem settleLookup_decline {g : Word16} (h : u.store.lookup g = some .decline) :
    u.settleLookup c g = (u.resolve c (.declined g)).endDialog c .unsupported := by
  unfold State.settleLookup
  rw [h]

theorem settleLookup_profile {g : Word16} {r : ProfileRef} (h : u.store.lookup g = some (.profile r)) :
    u.settleLookup c g = (u.resolve c (.resolved r g)).settleFound c r := by
  unfold State.settleLookup
  rw [h]

theorem settleLookup_none {g : Word16} (h : u.store.lookup g = none) : u.settleLookup c g = u.refer c g := by
  unfold State.settleLookup
  rw [h]

/-- How settling a tag ends the dialog (R14, R32, R33). -/
theorem EndsFrom.settleProfile_ends (h : EndsFrom s c i (endOf s c o) u) (ht : u.entry i = s.entry i)
    (hst : u.store = s.store) {g : Word16} (he : settlingEnds s c i g e) : Ends s c i e (u.settleProfile c g) := by
  rcases he with ⟨hdec, rfl⟩ | ⟨hh, ⟨ref, hserved⟩, rfl⟩ | ⟨hh, ⟨hr, hd, hnone⟩, rfl⟩
  · rcases hdec with hdec | ⟨hr, hdec⟩
    · rw [h.settleProfile_eq ht, hdec]
      dsimp only
      rw [if_pos rfl]
      exact h.ends .unsupported
    · by_cases hd : (s.entry i).resolution = .declined g
      · rw [h.settleProfile_eq ht, hd]
        dsimp only
        rw [if_pos rfl]
        exact h.ends .unsupported
      · rw [h.settleProfile_lookup ht hr hd, settleLookup_decline (hst ▸ hdec)]
        exact (h.resolve _).ends .unsupported
  · rcases hserved with hserved | ⟨hr, hd, hprof⟩
    · rw [h.settleProfile_eq ht, hserved]
      dsimp only
      rw [if_pos rfl]
      exact h.settleFound_halting hh ref
    · rw [h.settleProfile_lookup ht hr hd, settleLookup_profile (hst ▸ hprof)]
      exact (h.resolve _).settleFound_halting hh ref
  · rw [h.settleProfile_lookup ht hr hd, settleLookup_none (hst ▸ hnone)]
    exact h.refer_halting hh g

end Sys2Proof.Claim
end

section
/-! The commands that end a dialog: identity replies, denials and expiries (R14, R24, R30 to R34, R39, R43, R48, R49). -/

namespace Sys2Proof.Claim

open Sys2Proof.Machine

variable {s t u v : State} {c d : Channel} {i : ModuleIndex} {e : DialogEnd} {o : SweepOutcome}

/-! ### A service heard -/

theorem slotAddress_eq (hm : (s.slot c).module = some i) : s.slotAddress c = (s.entry i).address := by
  simp [State.slotAddress, State.slotEntry, hm]

theorem listens_of_state (h : (s.slot c).state ≠ .free) (hp : (s.slot c).state ≠ .parked) : (s.slot c).listens = true := by
  simp [Slot.listens, h, hp]

/-- A controller on the bus that holds no answer of the slot's module lets its services reach the slot (R24, R129, R130). -/
theorem reaches_of_heard (hm : (s.slot c).module = some i) (hl : (s.slot c).listens = true) (hh : heard s c (s.entry i)) :
    s.reaches c = true := by
  have hcan : ∀ k : Can, (k.errorState = .active ∨ k.errorState = .passive)
      ∧ (∀ a : BitVec 5, k.testerHold = some a → a.toNat ≠ (s.entry i).address) →
      (k.onLine && !k.holds (s.slotAddress c)) = true := by
    rintro k ⟨hon, hhold⟩
    rw [(onLine_iff k).mpr hon, slotAddress_eq hm, Bool.true_and, Bool.not_eq_true', Can.holds]
    split
    · next a ha => simpa using hhold a ha
    · rfl
  unfold State.reaches
  rw [hl, Bool.true_and]
  cases c
  · exact hcan _ hh
  · exact hcan _ hh
  · rfl

/-- A service heard reaches the slot, and its step is closed (R24). -/
theorem serviceReceived_heard (hm : (s.slot c).module = some i) (hl : (s.slot c).listens = true)
    (hh : heard s c (s.entry i)) (x : Service) : s.serviceReceived c x = (s.deliver c x).closeStep :=
  if_pos (reaches_of_heard hm hl hh)

/-! ### An identity reply -/

theorem EndsFrom.resumeRefer_ends (h : EndsFrom s c i (endOf s c o) u) (hst : u.store = s.store) {g : Word16}
    (he : (s.store.lookup g = some .decline ∧ e = endOf s c .unsupported)
      ∨ (s.store.lookup g ≠ some .decline ∧ s.sweep.state = .halting ∧ e = endOf s c .aborted)) :
    Ends s c i e (u.resumeRefer c g) := by
  unfold State.resumeRefer
  rw [hst]
  rcases he with ⟨hdec, rfl⟩ | ⟨hdec, hh, rfl⟩
  · rw [hdec]
    exact (h.resolve _).ends .unsupported
  · cases hx : s.store.lookup g with
    | none =>
      dsimp only
      rw [if_pos ((h.resolve .unresolved).halting.mpr hh)]
      exact (h.resolve _).ends .aborted
    | some x =>
      cases x with
      | profile ref => exact (h.resolve _).settleFound_halting hh ref
      | decline => exact absurd hx hdec

/-- How a resumed dialog ends at its identity reply (R14, R49). -/
theorem EndsFrom.settleResumed_ends (h : EndsFrom s c i (endOf s c o) u) (ht : u.entry i = s.entry i)
    (hst : u.store = s.store) (hres : (u.slot c).resume = (s.slot c).resume) {g : Word16} {flags : Byte} {same : Bool}
    (hsame : same = true ↔ (s.slot c).tag = some g)
    (hdue : ∀ p, s.slotProfile c = some p → (same && u.eraseDue c) = true → eraseStillDue s c p g flags)
    (he : resumedEnds s c i g flags e) : Ends s c i e (u.settleResumed c g same) := by
  unfold resumedEnds at he
  unfold State.settleResumed
  dsimp only
  rw [hres]
  cases hr : (s.slot c).resume <;> rw [hr] at he <;> dsimp only at he ⊢
  case refer =>
    rcases he with ⟨hs, he⟩ | ⟨hs, he⟩ | ⟨hs, he⟩
    · rw [if_pos (hsame.mpr hs)]
      exact h.resumeRefer_ends hst (.inl he)
    · rw [if_pos (hsame.mpr hs)]
      exact h.resumeRefer_ends hst (.inr he)
    · rw [if_neg (fun hn => hs (hsame.mp hn))]
      refine EndsFrom.settleProfile_ends (h.withContext ?_ ?_ ?_) ht hst he <;> rfl
  case page =>
    rcases he with ⟨hh, rfl⟩ | ⟨hh, hs, rfl⟩
    · rw [if_pos (h.halting.mpr hh)]
      exact h.ends .aborted
    · rw [if_neg (fun hn => hh (h.halting.mp hn)), if_neg (fun hn => hs (hsame.mp hn))]
      exact h.ends .partialRead
  case erase =>
    rcases he with ⟨hh, rfl⟩ | ⟨hh, rfl, p, hp, hnot⟩
    · rw [if_pos (h.halting.mpr hh)]
      exact h.ends .aborted
    · rw [if_neg (fun hn => hh (h.halting.mp hn)), if_neg (fun hn => hnot (hdue p hp hn))]
      exact h.ends .complete

theorem takesIdentity_of (h : (s.slot c).state = .identifying ∨ ((s.slot c).state = .waking ∧ c ≠ .s)) :
    (s.slot c).takesIdentity c = true := by
  simpa [Slot.takesIdentity] using h

/-- The slot with the facts of an identity reply (R31). -/
def identityTaken (s : State) (c : Channel) (g : Word16) (clock : ClockBytes) (flags : Byte) : State :=
  s.withSlot c { s.slot c with
    response := none, boot := none, tag := some g, eraseCapable := bit flags 0,
    snapshot := some (s.clock.snapshot clock), identified := true }

theorem identityTaken_endsFrom (hm : (s.slot c).module = some i) (g : Word16) (clock : ClockBytes) (flags : Byte)
    (o : SweepOutcome) : EndsFrom s c i (endOf s c o) (identityTaken s c g clock flags) :=
  (EndsFrom.refl hm o).withContext rfl rfl rfl

/-- An erase due to a resumed dialog after its identity reply is still due as the statements say it (R42). -/
theorem eraseStillDue_of_eraseDue {g : Word16} {clock : ClockBytes} {flags : Byte} {p : Profile}
    (hp : s.slotProfile c = some p)
    (h : ((s.slot c).tag == some g && (identityTaken s c g clock flags).eraseDue c) = true) :
    eraseStillDue s c p g flags := by
  have hp' : (identityTaken s c g clock flags).slotProfile c = some p := by
    rw [← hp]
    simp only [State.slotProfile, identityTaken, State.slot_withSlot]
    rfl
  simp only [State.eraseDue, hp', Bool.and_eq_true, beq_iff_eq, Bool.not_eq_true'] at h
  simp only [identityTaken, State.slot_withSlot] at h
  obtain ⟨htag, ⟨⟨⟨hopt, hallow⟩, hcap⟩, href⟩, hhalt⟩ := h
  exact ⟨htag, hopt, hallow, hcap, href, hhalt⟩

theorem idReply_ends (hm : (s.slot c).module = some i) {g : Word16} (clock : ClockBytes) {flags : Byte} (h0 : g ≠ 0)
    (hf : g ≠ 0xFFFF)
    (he : (awaitsFirstReply s c ∧ settlingEnds s c i g e) ∨ (awaitsResumedReply s c ∧ resumedEnds s c i g flags e)) :
    Ends s c i e (s.onIdReply c g clock flags) := by
  have htake : (s.slot c).takesIdentity c = true := takesIdentity_of (he.elim (fun h => h.1.1) (fun h => h.1.1))
  have htag : tagOk g = true := by
    simp only [tagOk, Bool.and_eq_true, decide_eq_true_eq]
    exact ⟨h0, hf⟩
  unfold State.onIdReply
  rw [htake, htag, if_pos (by rfl)]
  have hacc : s.acceptIdentity c g clock flags =
      if (s.slot c).identified then (identityTaken s c g clock flags).settleResumed c g ((s.slot c).tag == some g)
      else ((identityTaken s c g clock flags).withHistory (s.history.clearSighted i)).settleProfile c g := by
    unfold State.acceptIdentity
    dsimp only
    split
    · rfl
    · split
      · next j hj =>
        cases hj.symm.trans hm
        rfl
      · next hj => exact absurd (hj.symm.trans hm) nofun
  have hfrom := identityTaken_endsFrom hm g clock flags .aborted
  rw [hacc]
  rcases he with ⟨⟨-, hid⟩, he⟩ | ⟨⟨-, hid⟩, he⟩
  · rw [hid, if_neg (by decide)]
    exact (hfrom.withHistory _).settleProfile_ends rfl rfl he
  · rw [hid, if_pos rfl]
    refine hfrom.settleResumed_ends rfl rfl ?_ (by simp) (fun p hp hd => eraseStillDue_of_eraseDue hp hd) he
    unfold identityTaken
    rw [State.slot_withSlot]

/-! ### Denials and expired waits -/

theorem identityFailure_eq (s : State) (c : Channel) (o : SweepOutcome) :
    (s.slot c).identityFailure o = identityFails s c o := by
  unfold Slot.identityFailure identityFails
  cases (s.slot c).identified <;> simp

/-- A failed page attempt that ends the dialog (R14, R39). -/
theorem EndsFrom.failAttempt_ends (h : EndsFrom s c i (endOf s c o) u) (ha : (u.slot c).attempt = (s.slot c).attempt)
    (he : attemptEnds s c e) : Ends s c i e (u.failAttempt c) := by
  have hu : EndsFrom s c i (endOf s c o) (u.withSlot c (u.slot c).stopResponse) := h.withContext rfl rfl rfl
  have hat : ((u.withSlot c (u.slot c).stopResponse).slot c).attempt = (s.slot c).attempt := by
    rw [State.slot_withSlot]
    exact ha
  unfold State.failAttempt
  dsimp only
  rcases he with ⟨hh, rfl⟩ | ⟨hh, hx, rfl⟩
  · rw [if_pos (hu.halting.mpr hh)]
    exact hu.ends .aborted
  · rw [if_neg (fun hn => hh (hu.halting.mp hn)), if_pos (by rwa [hat])]
    exact hu.ends .partialRead

/-- How an expired wait ends the dialog (R14, R30, R39, R43, R48), the controllers of the channels aside. -/
theorem EndsFrom.waitExpired_ends (h : EndsFrom s c i (endOf s c o) u) (hx : u.slot c = s.slot c)
    (hent : u.entry i = s.entry i) (he : waitEnds s c i e) : Ends s c i e (u.waitExpired c) := by
  have hu : EndsFrom s c i (endOf s c o) (u.withSlot c (u.slot c).stopResponse) := h.withContext rfl rfl rfl
  have hslot : (u.withSlot c (u.slot c).stopResponse).slot c = (s.slot c).stopResponse := by
    rw [State.slot_withSlot, hx]
  have hretries : (((u.withSlot c (u.slot c).stopResponse).slotEntry c).getD {}).retries = (s.entry i).retries := by
    rw [hu.slotEntry]
    exact congrArg Entry.retries hent
  unfold State.waitExpired
  rw [hx]
  rcases he with ⟨hst, hh, rfl⟩ | ⟨hst, hh, hn, rfl⟩ | ⟨hst, he⟩ | ⟨hst, rfl⟩ <;> rw [hst] <;> dsimp only
  · unfold State.identityExpired
    dsimp only
    rw [if_pos (hu.halting.mpr hh)]
    exact hu.ends .aborted
  · unfold State.identityExpired
    dsimp only
    rw [if_neg (fun hn => hh (hu.halting.mp hn)), hretries, hslot,
      if_neg (show ¬ (s.slot c).stopResponse.idAttempt < 1 + (s.entry i).retries from not_lt.mpr hn)]
    have hout : (s.slot c).stopResponse.identityFailure .noAnswer = identityFails s c .noAnswer :=
      identityFailure_eq s c .noAnswer
    rw [hout]
    exact hu.ends _
  · exact h.failAttempt_ends (by rw [hx]) he
  · exact h.ends .eraseDenied

theorem deny_ends (hm : (s.slot c).module = some i) {o : SweepOutcome}
    (he : ((((s.slot c).state = .identifying ∨ ((s.slot c).state = .waking ∧ c ≠ .s)) ∧ o = identityFails s c .denied)
      ∨ ((s.slot c).state = .reading ∧ o = if s.sweep.state = .halting then .aborted else .partialRead)
      ∨ ((s.slot c).state = .erasing ∧ o = .eraseDenied))) : s.onDeny c = s.endDialog c o := by
  unfold State.onDeny
  dsimp only
  rcases he with ⟨hst | ⟨hst, hc⟩, rfl⟩ | ⟨hst, rfl⟩ | ⟨hst, rfl⟩ <;> rw [hst] <;> dsimp only
  · rw [identityFailure_eq]
  · rw [if_pos hc, identityFailure_eq]
  · simp only [(EndsFrom.refl hm .denied).halting]

theorem eraseDone_ends (h : (s.slot c).state = .erasing) : s.onEraseDone c = s.endDialog c .erased := if_pos h

theorem referralExpired_ends (h : (s.slot c).referral ≠ none) : s.referralExpired c = s.endDialog c .unresolved := by
  obtain ⟨n, hn⟩ := Option.ne_none_iff_exists'.mp h
  unfold State.referralExpired
  rw [hn]

theorem bootExpired_ends (hm : (s.slot c).module = some i) (hb : (s.slot c).boot ≠ none)
    (hw : (s.slot c).state = .waking) (hh : s.sweep.state = .halting) :
    Ends s c i (endOf s c .aborted) (s.bootTimerExpired c) := by
  obtain ⟨n, hn⟩ := Option.ne_none_iff_exists'.mp hb
  have hu : EndsFrom s c i (endOf s c .aborted) (s.withSlot c { s.slot c with boot := none }) :=
    (EndsFrom.refl hm .aborted).withContext rfl rfl rfl
  have hst : ((s.withSlot c { s.slot c with boot := none }).slot c).state = .waking := by
    rw [State.slot_withSlot]
    exact hw
  unfold State.bootTimerExpired State.bootExpired
  rw [hn]
  dsimp only
  rw [if_neg (not_not_intro hst), if_pos (hu.halting.mpr hh)]
  exact hu.ends .aborted

end Sys2Proof.Claim
end

section
/-! Pages committed, and what ends a dialog while it reads (R9, R35 to R42, R119). -/

namespace Sys2Proof.Machine

theorem State.withSlot_same (s : State) (c : Channel) : s.withSlot c (s.slot c) = s := by
  cases c <;> rfl

end Sys2Proof.Machine

namespace Sys2Proof.Claim

open Sys2Proof.Machine

variable {s t u v : State} {c d : Channel} {i : ModuleIndex} {e : DialogEnd} {o : SweepOutcome} {p : Profile}

/-! ### The sightings of a page merged (R9, R40) -/

theorem counted_counted (n a b : Nat) : counted (counted n a) b = counted n (a + b) := by
  unfold counted
  split <;> split <;> split <;> omega

theorem satSucc_word (n : Nat) : satSucc 65535 n = counted n 1 := by
  unfold satSucc counted
  rw [if_neg one_ne_zero]
  split <;> omega

/-- The state with a page's sightings merged: the table, the sweep's record counts and the slot's refusals (R9, R40). -/
def mergedState (s : State) (c : Channel) (m : History × List MergeReport) : State :=
  ((s.withHistory m.1).withSweep (sweepAfterPage s m)).withSlot c
    { s.slot c with refused := (s.slot c).refused + m.2.count .refused }

theorem mergedState_nil (s : State) (c : Channel) : mergedState s c (s.history, []) = s :=
  State.withSlot_same s c

theorem mergeSighting_eq (s : State) (c : Channel) (g : Sighting) :
    State.mergeSighting c s g =
      mergedState s c ((s.history.merge g s.sweep.number).1, [(s.history.merge g s.sweep.number).2]) := by
  unfold State.mergeSighting
  generalize s.history.merge g s.sweep.number = m
  obtain ⟨h, r⟩ := m
  cases r
  case refused =>
    show State.withSlot _ c _ = State.withSlot _ c _
    rw [satSucc_word]
    rfl
  all_goals
    simp only [State.countMerge, satSucc_word]
    exact (State.withSlot_same _ c).symm

theorem mergedState_mergedState (s : State) (c : Channel) (h k : History) (as bs : List MergeReport) :
    mergedState (mergedState s c (h, as)) c (k, bs) = mergedState s c (k, as ++ bs) := by
  have hslot : (mergedState s c (h, as)).slot c = { s.slot c with refused := (s.slot c).refused + as.count .refused } :=
    State.slot_withSlot _ c _
  have hsweep : sweepAfterPage (mergedState s c (h, as)) (k, bs) = sweepAfterPage s (k, as ++ bs) := by
    simp only [sweepAfterPage, List.count_append, ← counted_counted]
    rfl
  rw [mergedState, hslot, hsweep]
  dsimp only
  rw [Nat.add_assoc, ← List.count_append]
  unfold mergedState
  cases c <;> rfl

/-- The sightings merged one by one are merged in order (R40, R100). -/
theorem foldl_mergeSighting (gs : List Sighting) : ∀ s : State,
    gs.foldl (State.mergeSighting c) s = mergedState s c (mergedInOrder s.sweep.number s.history gs) := by
  induction gs with
  | nil => exact fun s => (mergedState_nil s c).symm
  | cons g gs ih =>
    intro s
    rw [List.foldl_cons, ih, mergeSighting_eq]
    exact mergedState_mergedState s c _ _ [_] _

/-! ### A page committed (R40, R41) -/

/-- A slot whose page is complete: of the context of the dialog only the page's own items have moved, and its wait is over
(R38). -/
def PageSlot (x y : Slot) : Prop :=
  y = { x with
    response := none, head := y.head, expected := y.expected, received := y.received, outstanding := y.outstanding,
    staging := y.staging }

/-- A slot after the commit of a page (R40). -/
def pageCommitted (x : Slot) (m : History × List MergeReport) : Slot :=
  { x with
    response := none, staging := [], head := none, expected := 0, received := 0, outstanding := 0, attempt := 1,
    pagesRead := x.pagesRead + 1, refused := x.refused + m.2.count .refused }

/-- The state after the commit of a page (R9, R40). -/
def committed (s : State) (c : Channel) (m : History × List MergeReport) : State :=
  ((s.withHistory m.1).withSweep (sweepAfterPage s m)).withSlot c (pageCommitted (s.slot c) m)

/-- The page that a slot has staged, merged (R40). -/
def pageMerged (s : State) (c : Channel) (i : ModuleIndex) (p : Profile) (bs : List Byte) : History × List MergeReport :=
  mergedInOrder s.sweep.number s.history (decodePage p (s.slot c).snapshot i bs)

theorem mergePage_eq {y : Slot} (hy : PageSlot (s.slot c) y) (p : Profile) (i : ModuleIndex) :
    (s.withSlot c y).mergePage c p i = committed s c (pageMerged s c i p y.staging) := by
  have hsnap : y.snapshot = (s.slot c).snapshot := (congrArg Slot.snapshot (hy : y = _) :)
  have hfold : (decodePage p (s.slot c).snapshot i y.staging).foldl (State.mergeSighting c) (s.withSlot c y) =
      mergedState (s.withSlot c y) c (pageMerged s c i p y.staging) := foldl_mergeSighting _ _
  unfold State.mergePage
  dsimp only
  rw [State.slot_withSlot, hsnap, hfold]
  generalize pageMerged s c i p y.staging = m
  have hslot : (mergedState (s.withSlot c y) c m).slot c = { y with refused := y.refused + m.2.count .refused } := by
    rw [mergedState, State.slot_withSlot, State.slot_withSlot]
  have hc : { Slot.clearPage { y with refused := y.refused + m.2.count .refused } with
      pagesRead := y.pagesRead + 1, attempt := 1 } = pageCommitted (s.slot c) m := by
    rw [(hy : y = _)]
    rfl
  rw [hslot]
  refine (congrArg (State.withSlot _ c) hc).trans ?_
  cases c <;> rfl

/-- A page merged leaves the slot ready for an end that counts it (R40). -/
theorem pageCommitted_endsFrom (hm : (s.slot c).module = some i) (m : History × List MergeReport) (o : SweepOutcome)
    (h : History) {w : Sweep}
    (hw : w = { s.sweep with created := w.created, updated := w.updated, refused := w.refused }) :
    EndsFrom s c i (endAfterPage s c m o) (((s.withHistory h).withSweep w).withSlot c (pageCommitted (s.slot c) m)) where
  module := by
    rw [State.slot_withSlot]
    exact hm
  pages := by
    rw [State.slot_withSlot]
    rfl
  refused := by
    rw [State.slot_withSlot]
    rfl
  others _ hd := State.slot_withSlot_other _ hd _
  share := rfl
  sweep := hw
  entry := ⟨_, rfl⟩
  entries _ _ := rfl
  link := rfl
  toHand := rfl
  can := rfl
  waiting := rfl
  nothing := id
  echo := rfl

theorem committed_endsFrom (hm : (s.slot c).module = some i) (m : History × List MergeReport) (o : SweepOutcome) :
    EndsFrom s c i (endAfterPage s c m o) (committed s c m) := pageCommitted_endsFrom hm m o _ rfl

/-- The records that the completed read of a module finds vanished are marked GONE (R41, R119). -/
def readCompleted (s : State) (c : Channel) (i : ModuleIndex) (m : History × List MergeReport) : State :=
  ((s.withHistory (goneMarked s i m.1)).withSweep (sweepAfterRead s i m)).withSlot c (pageCommitted (s.slot c) m)

theorem vanished_eq (r : Record) (i : ModuleIndex) : r.vanished i = (r.module == i && !r.sighted && r.state != .gone) := by
  unfold Record.vanished
  cases hm : decide (r.module = i) <;> cases r.sighted <;> cases r.state <;> simp_all

theorem markGone_committed (s : State) (c : Channel) (i : ModuleIndex) (m : History × List MergeReport) :
    (committed s c m).markGone i = readCompleted s c i m := by
  have hnum : (committed s c m).sweep.number = s.sweep.number := rfl
  have hh : (committed s c m).history = m.1 := rfl
  have hgone : (m.1.markGone i s.sweep.number).1 = goneMarked s i m.1 := by
    have hv : ∀ r : Record, r.vanished i = true ↔ r.module = i ∧ r.sighted = false ∧ r.state ≠ .gone := fun r => by
      rw [vanished_eq]
      simp [and_assoc]
    simp only [History.markGone, goneMarked, hv]
  have hcount : (m.1.markGone i s.sweep.number).2 =
      m.1.records.countP (fun r => r.module == i && !r.sighted && r.state != .gone) := by
    unfold History.markGone
    simp only [vanished_eq]
  unfold State.markGone
  rw [hh, hnum]
  show (((committed s c m).withHistory (m.1.markGone i s.sweep.number).1).withSweep
    { (committed s c m).sweep with
      updated := min 65535 ((committed s c m).sweep.updated + (m.1.markGone i s.sweep.number).2) }) = _
  rw [hgone, hcount]
  rfl

theorem readCompleted_endsFrom (hm : (s.slot c).module = some i) (m : History × List MergeReport) (o : SweepOutcome) :
    EndsFrom s c i (endAfterPage s c m o) (readCompleted s c i m) := pageCommitted_endsFrom hm m o _ rfl

end Sys2Proof.Claim
end

section
/-! Page heads and segments that end a dialog, and the commit of the last page (R14, R35 to R42). -/

namespace Sys2Proof.Claim

open Sys2Proof.Machine

variable {s t u v : State} {c d : Channel} {i : ModuleIndex} {e : DialogEnd} {o : SweepOutcome} {p : Profile}

/-! ### After the commit of a page (R41, R42) -/

theorem slot_committed (s : State) (c : Channel) (m : History × List MergeReport) :
    (committed s c m).slot c = pageCommitted (s.slot c) m := State.slot_withSlot _ c _

theorem slot_readCompleted (s : State) (c : Channel) (i : ModuleIndex) (m : History × List MergeReport) :
    (readCompleted s c i m).slot c = pageCommitted (s.slot c) m := State.slot_withSlot _ c _

theorem slotProfile_withSlot {x : Slot} (h : x.profile = (s.slot c).profile) :
    (s.withSlot c x).slotProfile c = s.slotProfile c := by
  unfold State.slotProfile
  rw [State.slot_withSlot, h]
  rfl

/-- The erase decision after a complete read, as the statements say it (R42). -/
theorem eraseDue_readCompleted (hp : s.slotProfile c = some p) (i : ModuleIndex) (m : History × List MergeReport) :
    (readCompleted s c i m).eraseDue c = true ↔ eraseDueAfter s c p ((s.slot c).refused + m.2.count .refused) := by
  have hp' : (readCompleted s c i m).slotProfile c = some p := by
    unfold readCompleted
    rw [slotProfile_withSlot (by rfl)]
    exact hp
  unfold State.eraseDue
  rw [slot_readCompleted, hp']
  simp only [Bool.and_eq_true, beq_iff_eq, Bool.not_eq_true', and_assoc, eraseDueAfter]
  rfl

/-- A complete read with no erase due ends COMPLETE, or STORE_FULL where a sighting was refused (R41). -/
theorem afterCompleteRead_of_not_due (hp : s.slotProfile c = some p) (i : ModuleIndex) (m : History × List MergeReport)
    (hn : ¬ eraseDueAfter s c p ((s.slot c).refused + m.2.count .refused)) :
    (readCompleted s c i m).afterCompleteRead c = (readCompleted s c i m).endDialog c
      (if (s.slot c).refused + m.2.count .refused = 0 then .complete else .storeFull) := by
  unfold State.afterCompleteRead
  rw [if_neg (fun h => hn ((eraseDue_readCompleted hp i m).mp h)), slot_readCompleted]
  rfl

/-- How the commit of a page ends the dialog (R14, R41, R42). -/
theorem afterCommit_ends (hm : (s.slot c).module = some i) (hp : s.slotProfile c = some p) {more : Bool}
    {m : History × List MergeReport} (he : commitEnds s c p more m e) :
    Ends s c i e ((committed s c m).afterCommit c i more) := by
  have hfrom := committed_endsFrom hm m .aborted
  have hpage : ((committed s c m).slot c).page = (s.slot c).page := by
    rw [slot_committed]
    rfl
  unfold State.afterCommit
  dsimp only
  rcases he with ⟨rfl, hh, rfl⟩ | ⟨rfl, hh, hlast, rfl⟩ | ⟨rfl, hdue, rfl⟩
  · rw [if_pos rfl]
    split
    · exact hfrom.enterPage_halting hh _
    · rw [if_pos (hfrom.halting.mpr hh)]
      exact hfrom.ends .aborted
  · rw [if_pos rfl, hpage, if_neg (not_lt.mpr hlast), if_neg (fun hn => hh (hfrom.halting.mp hn))]
    exact hfrom.ends .partialRead
  · rw [if_neg Bool.false_ne_true, markGone_committed, afterCompleteRead_of_not_due hp i m hdue]
    exact (readCompleted_endsFrom hm m .aborted).ends _

/-! ### A page complete (R38, R40) -/

/-- The page sum checked on a page that the slot has complete (R40). -/
theorem checkSum_eq {y : Slot} {h : PageHead} (hy : PageSlot (s.slot c) y) (hm : (s.slot c).module = some i)
    (hp : s.slotProfile c = some p) (hh : y.head = some h) :
    (s.withSlot c y).checkSum c =
      if sum16 y.staging = h.sum then (committed s c (pageMerged s c i p y.staging)).afterCommit c i h.more
      else (s.withSlot c y).failAttempt c := by
  have hp' : (s.withSlot c y).slotProfile c = some p :=
    (slotProfile_withSlot (congrArg Slot.profile (hy : y = _) :)).trans hp
  have hm' : y.module = some i := (congrArg Slot.module (hy : y = _) :).trans hm
  rw [← mergePage_eq hy]
  unfold State.checkSum
  dsimp only
  rw [State.slot_withSlot, hh, hm', hp']

theorem EndsFrom.of_pageSlot {y : Slot} (hy : PageSlot (s.slot c) y) (hm : (s.slot c).module = some i)
    (o : SweepOutcome) : EndsFrom s c i (endOf s c o) (s.withSlot c y) :=
  (EndsFrom.refl hm o).withContext (congrArg Slot.module (hy : y = _) :) (congrArg Slot.pagesRead (hy : y = _) :)
    (congrArg Slot.refused (hy : y = _) :)

theorem failAttempt_pageSlot {y : Slot} (hy : PageSlot (s.slot c) y) (hm : (s.slot c).module = some i)
    (he : attemptEnds s c e) : Ends s c i e ((s.withSlot c y).failAttempt c) := by
  refine (EndsFrom.of_pageSlot hy hm .aborted).failAttempt_ends ?_ he
  rw [State.slot_withSlot]
  exact (congrArg Slot.attempt (hy : y = _) :)

/-- At the end of a burst under a halt the dialog ends ABORTED (R14, R37). -/
theorem nextBurst_pageSlot {y : Slot} (hy : PageSlot (s.slot c) y) (hm : (s.slot c).module = some i)
    (hh : s.sweep.state = .halting) : Ends s c i (endOf s c .aborted) ((s.withSlot c y).nextBurst c) := by
  have hfrom := EndsFrom.of_pageSlot hy hm .aborted
  unfold State.nextBurst
  rw [if_pos (hfrom.halting.mpr hh)]
  exact hfrom.ends .aborted

/-! ### Segments (R36, R38) -/

theorem segmentLength_eq (c : Channel) (length j : Nat) : segmentLength c length j = segmentBytes c length j := by
  cases c <;> simp only [segmentLength, segmentBytes, segmentCapacity, Nat.mul_comm]

theorem segmentBytes_le (c : Channel) (length j : Nat) : segmentBytes c length j ≤ segmentCapacity c := by
  cases c <;> exact Nat.min_le_left _ _

/-- A segment fits where it is the next one the page needs (R38). -/
theorem segmentFits_iff {x : Slot} {h : PageHead} (hh : x.head = some h) (index : BitVec 3) (data : List Byte) :
    x.segmentFits c index data = true ↔ ¬ segmentMisfits c x h index data := by
  unfold Slot.segmentFits segmentMisfits
  rw [hh]
  simp [segmentLength_eq]

/-- A slot that has taken a segment of its page, its wait over. -/
theorem pageSlot_takeSegment (x : Slot) (data : List Byte) : PageSlot x (x.takeSegment data).stopResponse := rfl

theorem onSegment_misfits {h : PageHead} {index : BitVec 3} {data : List Byte} (hst : (s.slot c).state = .reading)
    (hsub : (s.slot c).sub = .drawing) (hres : (s.slot c).response ≠ none) (hh : (s.slot c).head = some h)
    (hout : (s.slot c).outstanding ≠ 0) (hmis : segmentMisfits c (s.slot c) h index data) :
    s.onSegment c index data = s.failAttempt c := by
  have hfit : (s.slot c).segmentFits c index data ≠ true := fun hn => (segmentFits_iff hh index data).mp hn hmis
  unfold State.onSegment
  dsimp only
  rw [if_pos ⟨hst, hsub, Nat.pos_of_ne_zero hout, Option.isSome_iff_ne_none.mpr hres⟩, if_neg hfit]

/-- The last outstanding segment of a burst: the page is complete, or the next burst follows (R37, R38). -/
theorem onSegment_last {h : PageHead} {index : BitVec 3} {data : List Byte} (hst : (s.slot c).state = .reading)
    (hsub : (s.slot c).sub = .drawing) (hres : (s.slot c).response ≠ none) (hh : (s.slot c).head = some h)
    (hout : (s.slot c).outstanding = 1) (hfit : ¬ segmentMisfits c (s.slot c) h index data) :
    s.onSegment c index data =
      if (s.slot c).received + 1 = (s.slot c).expected then
        (s.withSlot c ((s.slot c).takeSegment data).stopResponse).checkSum c
      else (s.withSlot c ((s.slot c).takeSegment data).stopResponse).nextBurst c := by
  have hzero : ¬ 0 < ((s.slot c).takeSegment data).outstanding := by
    show ¬ 0 < (s.slot c).outstanding - 1
    omega
  unfold State.onSegment
  dsimp only
  rw [if_pos ⟨hst, hsub, by omega, Option.isSome_iff_ne_none.mpr hres⟩, if_pos ((segmentFits_iff hh index data).mpr hfit),
    if_neg hzero]
  rfl

/-- The last segment of a page: its sum is checked (R40). -/
theorem onSegment_endsPage {h : PageHead} {index : BitVec 3} {data : List Byte} (he : endsPage s c h index data) :
    s.onSegment c index data = (s.withSlot c ((s.slot c).takeSegment data).stopResponse).checkSum c := by
  obtain ⟨hst, hsub, hout, hres, hh, hlast, hidx, hlen, -⟩ := he
  have hfit : ¬ segmentMisfits c (s.slot c) h index data := fun hn => hn.elim (fun hx => hx hidx) (fun hx => hx hlen)
  rw [onSegment_last hst hsub hres hh hout hfit, if_pos hlast]

/-- The last segment of a page of the right sum commits it (R40). -/
theorem onSegment_completesPage {h : PageHead} {index : BitVec 3} {data : List Byte} (hm : (s.slot c).module = some i)
    (hp : s.slotProfile c = some p) (he : completesPage s c h index data) :
    s.onSegment c index data =
      (committed s c (pageMerged s c i p ((s.slot c).staging ++ data))).afterCommit c i h.more := by
  obtain ⟨hends, hsum⟩ := he
  have hh : ((s.slot c).takeSegment data).stopResponse.head = some h := by
    obtain ⟨-, -, -, -, hh, -⟩ := hends
    exact hh
  rw [onSegment_endsPage hends, checkSum_eq (pageSlot_takeSegment _ data) hm hp hh]
  exact if_pos hsum

theorem onSegment_ends {h : PageHead} {index : BitVec 3} {data : List Byte} (hm : (s.slot c).module = some i)
    (hst : (s.slot c).state = .reading) (hsub : (s.slot c).sub = .drawing) (hres : (s.slot c).response ≠ none)
    (hh : (s.slot c).head = some h) (hp : s.slotProfile c = some p)
    (he : (segmentMisfits c (s.slot c) h index data ∧ (s.slot c).outstanding ≠ 0 ∧ attemptEnds s c e)
      ∨ (¬ segmentMisfits c (s.slot c) h index data ∧ (s.slot c).outstanding = 1
          ∧ (s.slot c).received + 1 ≠ (s.slot c).expected ∧ s.sweep.state = .halting ∧ e = endOf s c .aborted)
      ∨ (endsPage s c h index data ∧ sum16 ((s.slot c).staging ++ data) ≠ h.sum ∧ attemptEnds s c e)
      ∨ (completesPage s c h index data
          ∧ commitEnds s c p h.more (pageMerged s c i p ((s.slot c).staging ++ data)) e)) :
    Ends s c i e (s.onSegment c index data) := by
  rcases he with ⟨hmis, hout, he⟩ | ⟨hfit, hout, hne, hhalt, rfl⟩ | ⟨hends, hsum, he⟩ | ⟨hcomp, he⟩
  · rw [onSegment_misfits hst hsub hres hh hout hmis]
    exact (EndsFrom.refl hm .aborted).failAttempt_ends rfl he
  · rw [onSegment_last hst hsub hres hh hout hfit, if_neg hne]
    exact nextBurst_pageSlot (pageSlot_takeSegment _ data) hm hhalt
  · have hy := pageSlot_takeSegment (s.slot c) data
    rw [onSegment_endsPage hends, checkSum_eq hy hm hp hh]
    refine (congrArg (Ends s c i e) (if_neg hsum)).mpr ?_
    exact failAttempt_pageSlot hy hm he
  · rw [onSegment_completesPage hm hp hcomp]
    exact afterCommit_ends hm hp he

/-! ### Page heads (R35) -/

/-- The slot with a page head taken (R35). -/
def headTakenSlot (x : Slot) (c : Channel) (h : PageHead) : Slot :=
  { x.stopResponse with
    head := some h, expected := segmentsFor c h.length, received := 0, outstanding := 0, staging := [] }

theorem headPasses_iff {page count : Byte} {length : Word16} (p : Profile) (x : Slot) :
    headPasses p x.page page.toNat count.toNat length.toNat = true ↔ ¬ headMalformed p x page count length := by
  simp [headPasses, headMalformed, and_assoc]

theorem onPageHead_malformed {page count : Byte} {length : Word16} {more : Bool} {sum : Word16}
    (hst : (s.slot c).state = .reading) (hsub : (s.slot c).sub = .asked) (hp : s.slotProfile c = some p)
    (hbad : headMalformed p (s.slot c) page count length) :
    s.onPageHead c page.toNat count.toNat length.toNat more sum = s.failAttempt c := by
  unfold State.onPageHead
  dsimp only
  rw [if_pos ⟨hst, hsub⟩, hp]
  exact if_neg (fun hn => (headPasses_iff p _).mp hn hbad)

theorem onPageHead_taken {page count : Byte} {length : Word16} {more : Bool} {sum : Word16}
    (hst : (s.slot c).state = .reading) (hsub : (s.slot c).sub = .asked) (hp : s.slotProfile c = some p)
    (hok : ¬ headMalformed p (s.slot c) page count length) :
    s.onPageHead c page.toNat count.toNat length.toNat more sum =
      if segmentsFor c length.toNat = 0 then
        (s.withSlot c (headTakenSlot (s.slot c) c ⟨count.toNat, length.toNat, more, sum⟩)).checkSum c
      else (s.withSlot c (headTakenSlot (s.slot c) c ⟨count.toNat, length.toNat, more, sum⟩)).nextBurst c := by
  unfold State.onPageHead
  dsimp only
  rw [if_pos ⟨hst, hsub⟩, hp]
  exact if_pos ((headPasses_iff p _).mpr hok)

theorem pageSlot_headTaken (x : Slot) (c : Channel) (h : PageHead) : PageSlot x (headTakenSlot x c h) := rfl

theorem segmentsFor_eq_zero (c : Channel) (n : Nat) : segmentsFor c n = 0 ↔ n = 0 := by
  cases c <;> simp only [segmentsFor, segmentCapacity] <;> omega

theorem decodePage_nil (p : Profile) (x : Option RefSnapshot) (i : ModuleIndex) : decodePage p x i [] = [] := by
  simp [decodePage, pageRecords]

/-- An empty page merges nothing (R35). -/
theorem pageMerged_nil (s : State) (c : Channel) (i : ModuleIndex) (p : Profile) :
    pageMerged s c i p [] = (s.history, []) := by
  rw [pageMerged, decodePage_nil]
  rfl

/-- The head of an empty page commits it, or fails its attempt where its sum is not 0 (R35, R40). -/
theorem onPageHead_empty {page count : Byte} {more : Bool} {sum : Word16} (hm : (s.slot c).module = some i)
    (hst : (s.slot c).state = .reading) (hsub : (s.slot c).sub = .asked) (hp : s.slotProfile c = some p)
    (hok : ¬ headMalformed p (s.slot c) page count 0) :
    s.onPageHead c page.toNat count.toNat (0 : Word16).toNat more sum =
      if sum = 0 then (committed s c (s.history, [])).afterCommit c i more
      else (s.withSlot c (headTakenSlot (s.slot c) c ⟨count.toNat, 0, more, sum⟩)).failAttempt c := by
  have h0 : (0 : Word16).toNat = 0 := rfl
  rw [onPageHead_taken hst hsub hp hok, h0, if_pos ((segmentsFor_eq_zero c 0).mpr rfl),
    checkSum_eq (pageSlot_headTaken _ c _) hm hp rfl]
  have hsum : (sum16 ([] : List Byte) = sum) = (sum = 0) := propext eq_comm
  show (if sum16 ([] : List Byte) = sum then (committed s c (pageMerged s c i p [])).afterCommit c i more else _) = _
  simp only [hsum, pageMerged_nil]

theorem onPageHead_ends {page count : Byte} {length : Word16} {more : Bool} {sum : Word16}
    (hm : (s.slot c).module = some i) (hst : (s.slot c).state = .reading) (hsub : (s.slot c).sub = .asked)
    (hp : s.slotProfile c = some p)
    (he : (headMalformed p (s.slot c) page count length ∧ attemptEnds s c e)
      ∨ (¬ headMalformed p (s.slot c) page count length ∧ length ≠ 0 ∧ s.sweep.state = .halting
          ∧ e = endOf s c .aborted)
      ∨ (¬ headMalformed p (s.slot c) page count length ∧ length = 0 ∧ sum ≠ 0 ∧ attemptEnds s c e)
      ∨ (¬ headMalformed p (s.slot c) page count length ∧ length = 0 ∧ sum = 0
          ∧ commitEnds s c p more (s.history, []) e)) :
    Ends s c i e (s.onPageHead c page.toNat count.toNat length.toNat more sum) := by
  rcases he with ⟨hbad, he⟩ | ⟨hok, hlen, hhalt, rfl⟩ | ⟨hok, rfl, hsum, he⟩ | ⟨hok, rfl, hsum, he⟩
  · rw [onPageHead_malformed hst hsub hp hbad]
    exact (EndsFrom.refl hm .aborted).failAttempt_ends rfl he
  · have hn : ¬ segmentsFor c length.toNat = 0 := fun h =>
      hlen (BitVec.eq_of_toNat_eq ((segmentsFor_eq_zero c _).mp h))
    rw [onPageHead_taken hst hsub hp hok, if_neg hn]
    exact nextBurst_pageSlot (pageSlot_headTaken _ c _) hm hhalt
  · rw [onPageHead_empty hm hst hsub hp hok, if_neg hsum]
    exact failAttempt_pageSlot (pageSlot_headTaken _ c _) hm he
  · rw [onPageHead_empty hm hst hsub hp hok, if_pos hsum]
    exact afterCommit_ends hm hp he

end Sys2Proof.Claim
end

section
/-! A frame abandoned on line S (R143), and every command that ends a dialog (R14, R24, R30 to R43). -/

namespace Sys2Proof.Machine

variable {s t : State} {c : Channel}

/-! ### The echo mismatches are the line's own (R143) -/

theorem State.echo_putHolding (s : State) (c : Channel) (f : TxFrame) :
    (s.putHolding c f).line.echoMismatches = s.line.echoMismatches := by
  cases c <;> rfl

theorem State.echo_handNext (s : State) (c : Channel) : (s.handNext c).line.echoMismatches = s.line.echoMismatches := by
  unfold State.handNext
  split
  · rfl
  · split
    · exact State.echo_putHolding _ c _
    · rfl

theorem State.echo_emptyHolding (s : State) (c : Channel) :
    (s.emptyHolding c).line.echoMismatches = s.line.echoMismatches := by
  cases c <;> simp only [State.emptyHolding, canOf]
  · split <;> rfl
  · split <;> rfl
  · rfl

theorem State.echo_dropRequests (s : State) (c : Channel) (p : TxFrame → Bool) :
    (s.dropRequests c p).line.echoMismatches = s.line.echoMismatches := by
  unfold State.dropRequests
  dsimp only
  split
  · split
    · exact State.echo_emptyHolding _ c
    · rfl
  · rfl

theorem State.echo_disown (s : State) (c : Channel) : (s.disown c).line.echoMismatches = s.line.echoMismatches := by
  cases c <;> rfl

theorem State.echo_leaveFrames (s : State) (c : Channel) :
    (s.leaveFrames c).line.echoMismatches = s.line.echoMismatches := by
  unfold State.leaveFrames
  rw [State.echo_disown]
  split
  · exact (State.echo_handNext _ c).trans (State.echo_dropRequests s c _)
  · exact State.echo_dropRequests s c _

theorem State.echo_freeSlot (s : State) (c : Channel) : (s.freeSlot c).line.echoMismatches = s.line.echoMismatches := by
  cases c <;> rfl

/-! ### A channel with nothing left to hand, or nowhere to hand it (R23) -/

/-- The next frame to hand has been handed, or the holding is taken. -/
def State.Handed (s : State) (c : Channel) : Prop := s.waitingFrames c = [] ∨ s.holdingEmpty c = false

theorem State.Handed.handNext (h : s.Handed c) : s.handNext c = s := by
  unfold State.handNext
  split
  · rfl
  · next f fs hw =>
    rcases h with h | h
    · exact absurd (hw.symm.trans h) nofun
    · rw [h, if_neg (by decide)]

theorem State.handed_handNext (s : State) : (s.handNext .s).Handed .s := by
  unfold State.handNext
  split
  · next hw => exact .inl hw
  · next f fs hw =>
    split
    · refine .inr ?_
      simp [State.holdingEmpty, State.frameWaiting_putHolding]
    · next h => exact .inr (by simpa using h)

theorem State.Handed.disown (h : s.Handed .s) : (s.disown .s).Handed .s := by
  rcases h with h | h
  · exact .inl (by rw [State.waitingFrames_disown, h, List.map_nil])
  · refine .inr ?_
    rw [← h]
    simp only [State.holdingEmpty, State.frameInProgress, State.frameWaiting, canOf]
    show ((s.line.driving.map TxFrame.disown).isNone && (s.line.holding.map TxFrame.disown).isNone) = _
    rw [Option.isNone_map, Option.isNone_map]

/-- The frames of a dialog left behind on line S wait only behind another (R44). -/
theorem State.handed_leaveFrames (h : s.waitingFrames .s = []) : (s.leaveFrames .s).Handed .s := by
  unfold State.leaveFrames
  refine State.Handed.disown ?_
  split
  · exact State.handed_handNext _
  · refine .inl ?_
    rw [State.waitingFrames_dropRequests, h, List.filter_nil]

end Sys2Proof.Machine

namespace Sys2Proof.Claim

open Sys2Proof.Machine

variable {s t u v : State} {c d : Channel} {i : ModuleIndex} {e : DialogEnd} {o : SweepOutcome} {p : Profile}

theorem EndsFrom.echo_endDialog (h : EndsFrom s c i e u) :
    (u.endDialog c e.outcome).line.echoMismatches = s.line.echoMismatches := by
  rw [h.endDialog_withSweep]
  exact (State.echo_freeSlot _ c).trans ((State.echo_leaveFrames u c).trans h.echo)

theorem EndsFrom.handed_endDialog (h : EndsFrom s .s i e u) (hw : s.waitingFrames .s = []) :
    (u.endDialog .s e.outcome).Handed .s := by
  have hl := State.handed_leaveFrames ((h.waitingFrames .s).trans hw)
  rw [h.endDialog_withSweep]
  exact hl

/-! ### A frame abandoned (R143) -/

/-- The state with another count of echo mismatches. -/
def withEcho (s : State) (n : Nat) : State := s.withLine { s.line with echoMismatches := n }

/-- A yield on a line S whose slot is FREE does not read the echo mismatches. -/
theorem yieldSettle_withEcho (hf : (s.slot .s).state = .free) (n : Nat) :
    (withEcho s n).yieldSettle .s = withEcho (s.yieldSettle .s) n := by
  have hreopen : ∀ u : State, (u.slot .s).state = .free →
      (withEcho u n).reopenIfClear .s = withEcho (u.reopenIfClear .s) n := by
    intro u hu
    have hcond : ((withEcho u n).shareState .s = .yielded ∧ (!(withEcho u n).yieldTrigger .s) = true) ↔
        (u.shareState .s = .yielded ∧ (!u.yieldTrigger .s) = true) := Iff.rfl
    have hnot : ∀ w : State, (w.slot .s).state = .free → w.resumeSlot .s = w := fun w hw =>
      State.resumeSlot_of_not_parked (by rw [hw]; decide)
    unfold State.reopenIfClear
    by_cases h : u.shareState .s = .yielded ∧ (!u.yieldTrigger .s) = true
    · rw [if_pos h, if_pos (hcond.mpr h)]
      rw [hnot _ (by exact hu), hnot _ (by exact hu)]
      rfl
    · rw [if_neg h, if_neg (fun hn => h (hcond.mp hn))]
  by_cases h : s.yieldReached .s
  · rw [State.yieldSettle_of_reached h, State.yieldSettle_of_reached (show (withEcho s n).yieldReached .s from h)]
    exact hreopen (((s.letGo .s).withShareState .s .yielded).notify (.channelEvent .s .yielded none)) hf
  · rw [State.yieldSettle_of_not_reached h,
      State.yieldSettle_of_not_reached (show ¬ (withEcho s n).yieldReached .s from h)]

theorem DialogOver.withEcho (h : DialogOver s .s i e v) (n : Nat) : DialogOver s .s i e (withEcho v n) :=
  { h with works := h.works.withLine _ }

/-- The mismatch counted where the line is not silenced for it (R143). -/
theorem countAbandoned_eq (h : s.line.echoMismatches < 2 ∨ s.setting .echoSilence = 0) :
    ∃ n, s.countAbandoned = withEcho s n := by
  unfold State.countAbandoned
  dsimp only
  split
  · exact ⟨_, rfl⟩
  · next hn =>
    have hoff : ¬ (s.withLine { s.line with echoMismatches := 0 }).setting .echoSilence = 1 := by
      show ¬ s.setting .echoSilence = 1
      rw [h.resolve_left hn]
      decide
    exact ⟨0, if_neg hoff⟩

/-- The request that line S sends is the one its slot awaits (R23). -/
theorem awaits_of_awaitedRequest (h : awaitedRequest s) :
    ∃ f, s.line.driving = some f ∧ (f.own && (s.slot .s).awaits f.request) = true := by
  obtain ⟨-, f, hf, hown, hreq⟩ := h
  refine ⟨f, hf, ?_⟩
  rw [hown, Bool.true_and]
  rcases hreq with ⟨hr, hst⟩ | ⟨hr, hst, hsub⟩ | ⟨⟨k, hr⟩, hst, hsub⟩ | ⟨hr, hst⟩ <;> rw [hr] <;>
    simp [Slot.awaits, *]

/-- The line in turnaround after an abandoned frame leaves the slot ready for the end of its wait (R143). -/
theorem abandoned_endsFrom (hm : (s.slot .s).module = some i) {f : TxFrame} (hf : s.line.driving = some f) (n : Nat)
    (o : SweepOutcome) : EndsFrom s .s i (endOf s .s o) (s.withLine (s.line.enterTurnaround n)) :=
  { EndsFrom.refl hm o with
    nothing := by
      rintro ⟨hn, -⟩
      simp [State.holdingEmpty, State.frameInProgress, canOf, hf] at hn
    echo := rfl }

/-- A frame abandoned ends the dialog of slot S as the expiry of its wait does (R30, R39, R43, R143). -/
theorem lineFrameAbandoned_over (hs : Settled s) (hm : (s.slot .s).module = some i) (ha : awaitedRequest s)
    (hw : s.waitingFrames .s = []) (hecho : s.line.echoMismatches < 2 ∨ s.setting .echoSilence = 0)
    (he : waitEnds s .s i e) : ∃ v, s.lineFrameAbandoned = v.closeStep ∧ DialogOver s .s i e v := by
  obtain ⟨f, hf, haw⟩ := awaits_of_awaitedRequest ha
  have hdriven : s.line.drivenFrame .sending = some f := (if_pos ha.1).trans hf
  have hfrom := abandoned_endsFrom hm hf (s.setting .turnaroundBits) .aborted
  obtain ⟨u, hu, heq⟩ := hfrom.waitExpired_ends rfl rfl he
  have hworks : s.Works (u.endDialog .s e.outcome) :=
    heq ▸ ((State.Works.refl s).withLine (s.line.enterTurnaround (s.setting .turnaroundBits))).waitExpired .s
  have hover := hu.over hworks
  have hx : s.lineFrameAbandoned = (((u.endDialog .s e.outcome).yieldSettle .s).countAbandoned).closeStep := by
    have habandon : (s.withLine (s.line.enterTurnaround (s.setting .turnaroundBits))).slotFrameAbandoned f =
        u.endDialog .s e.outcome := (if_pos haw).trans heq
    unfold State.lineFrameAbandoned
    rw [hdriven]
    dsimp only
    rw [habandon, (hu.handed_endDialog hw).handNext]
  have hcount := hu.echo_endDialog
  rw [hx]
  generalize u.endDialog .s e.outcome = x at *
  have hyield := State.YieldOnly.yieldSettle hover.free
  obtain ⟨n, hn⟩ := countAbandoned_eq (s := x.yieldSettle .s) (by
    rw [hyield.line, hcount, State.setting, hyield.settings, hover.works.settings]
    exact hecho)
  refine ⟨withEcho x n, ?_, hover.withEcho n⟩
  rw [hn, (hover.withEcho n).closeStep_eq hs, yieldSettle_withEcho hover.free]
  have hquiet : ∀ d, ¬ (withEcho (x.yieldSettle .s) n).yieldReached d := by
    intro d hr
    have hr' : (x.yieldSettle .s).yieldReached d := hr
    by_cases hd : d = .s
    · subst hd
      exact State.yieldSettle_not_reached x .s hr'
    · exact hover.others_not_reached hs d hd ((State.yieldReached_yieldSettle_other x hd).mp hr')
  rw [State.closeStep, State.yieldSettle_only (c := .a) (fun d _ => hquiet d), State.yieldSettle_of_not_reached (hquiet .a)]

/-! ### Every command that ends a dialog -/

theorem segmentOk_of {data : List Byte} (h0 : data ≠ []) (hl : data.length ≤ segmentCapacity c) : segmentOk c data = true := by
  have hpos := List.length_pos_iff.mpr h0
  unfold segmentOk
  cases c <;> simp only [segmentCapacity, Bool.and_eq_true, decide_eq_true_eq] at hl ⊢ <;> omega

theorem exec_service_over (hm : (s.slot c).module = some i) (hl : (s.slot c).listens = true)
    (hh : heard s c (s.entry i)) {x : Service} (he : Ends s c i e (s.deliver c x)) :
    ∃ v, s.serviceReceived c x = v.closeStep ∧ DialogOver s c i e v :=
  ⟨_, serviceReceived_heard hm hl hh x, he.over ((State.Works.refl s).deliver c x)⟩

theorem listens_of {x : SlotState} (h : (s.slot c).state = x) (hf : x ≠ .free) (hp : x ≠ .parked) :
    (s.slot c).listens = true := listens_of_state (h ▸ hf) (h ▸ hp)

theorem listens_of_identity (h : (s.slot c).state = .identifying ∨ ((s.slot c).state = .waking ∧ c ≠ .s)) :
    (s.slot c).listens = true :=
  h.elim (fun hi => listens_of hi nofun nofun) (fun hw => listens_of hw.1 nofun nofun)

/-- Every command that ends a dialog is the dialog over, and then the end of the step. -/
theorem endsDialog_over (hs : Settled s) (hm : (s.slot c).module = some i) {command : Instr}
    (he : endsDialog s c i e command) : ∃ v, exec command s = .next v.closeStep ∧ DialogOver s c i e v := by
  have lift : ∀ {t : State}, (∃ v, t = v.closeStep ∧ DialogOver s c i e v) →
      exec command s = .next t → ∃ v, exec command s = .next v.closeStep ∧ DialogOver s c i e v := by
    rintro t ⟨v, rfl, hv⟩ hx
    exact ⟨v, hx, hv⟩
  cases command <;> dsimp only [endsDialog] at he <;> try exact he.elim
  case eraseDone d =>
    obtain ⟨rfl, hh, hst, rfl⟩ := he
    exact lift (exec_service_over (x := .eraseDone) hm (listens_of hst nofun nofun) hh ⟨s, EndsFrom.refl hm _, eraseDone_ends hst⟩) rfl
  case deny d reason =>
    obtain ⟨rfl, hh, he⟩ := he
    have hl : (s.slot d).listens = true := by
      rcases he with ⟨hst, -⟩ | ⟨hst, -⟩ | ⟨hst, -⟩
      · exact listens_of_identity hst
      · exact listens_of hst nofun nofun
      · exact listens_of hst nofun nofun
    obtain ⟨o, rfl, ho⟩ : ∃ o, e = endOf s d o ∧
        ((((s.slot d).state = .identifying ∨ ((s.slot d).state = .waking ∧ d ≠ .s)) ∧ o = identityFails s d .denied)
        ∨ ((s.slot d).state = .reading ∧ o = if s.sweep.state = .halting then .aborted else .partialRead)
        ∨ ((s.slot d).state = .erasing ∧ o = .eraseDenied)) := by
      rcases he with ⟨hst, rfl⟩ | ⟨hst, rfl⟩ | ⟨hst, rfl⟩
      · exact ⟨_, rfl, .inl ⟨hst, rfl⟩⟩
      · exact ⟨_, rfl, .inr (.inl ⟨hst, rfl⟩)⟩
      · exact ⟨_, rfl, .inr (.inr ⟨hst, rfl⟩)⟩
    exact lift (exec_service_over (x := .deny reason) hm hl hh ⟨s, EndsFrom.refl hm o, deny_ends hm ho⟩) rfl
  case idReply d g clock flags =>
    obtain ⟨rfl, hh, h0, hf, he⟩ := he
    have hl : (s.slot d).listens = true :=
      he.elim (fun h => listens_of_identity h.1.1) (fun h => listens_of_identity h.1.1)
    exact lift (exec_service_over (x := .idReply g clock flags) hm hl hh (idReply_ends hm clock h0 hf he)) rfl
  case pageHead d page count length flags sum =>
    obtain ⟨rfl, hh, hst, hsub, p, hp, he⟩ := he
    exact lift (exec_service_over (x := .pageHead page count length flags sum) hm (listens_of hst nofun nofun) hh (onPageHead_ends hm hst hsub hp he)) rfl
  case segment d index data =>
    obtain ⟨rfl, hh, h0, hlen, hst, hsub, hres, h, p, hhead, hp, he⟩ := he
    have hok : segmentOk d data = true := segmentOk_of h0 (by cases d <;> exact hlen)
    exact lift (exec_service_over (x := .segment index data) hm (listens_of hst nofun nofun) hh (onSegment_ends hm hst hsub hres hhead hp he))
      (congrArg _ (if_pos hok))
  case responseTimerExpiry d =>
    obtain ⟨rfl, hres, he⟩ := he
    obtain ⟨w, hw⟩ := Option.ne_none_iff_exists'.mp hres
    have hx : s.responseExpired d = s.waitExpired d := by
      unfold State.responseExpired
      rw [hw]
    have hends : Ends s d i e (s.responseExpired d) := hx ▸ (EndsFrom.refl hm .aborted).waitExpired_ends rfl rfl he
    exact ⟨_, rfl, hends.over ((State.Works.refl s).responseExpired d)⟩
  case bootTimerExpiry d =>
    obtain ⟨rfl, hb, hst, hh, rfl⟩ := he
    exact ⟨_, rfl, (bootExpired_ends hm hb hst hh).over ((State.Works.refl s).bootTimerExpired d)⟩
  case referralTimerExpiry d =>
    obtain ⟨rfl, hr, rfl⟩ := he
    have hends : Ends s d i (endOf s d .unresolved) (s.referralExpired d) :=
      ⟨s, EndsFrom.refl hm _, referralExpired_ends hr⟩
    exact ⟨_, rfl, hends.over ((State.Works.refl s).referralExpired d)⟩
  case lineFrameAbandoned =>
    obtain ⟨rfl, ha, hw, hecho, he⟩ := he
    exact lift (lineFrameAbandoned_over hs hm ha hw hecho he) rfl

end Sys2Proof.Claim
end

section
/-! The endings of a dialog by its module's answer, by an expiry or by an abandoned frame (R14, R24, R30 to R44). -/

namespace Sys2Proof.Claim

open Sys2Proof.Machine

variable {s : State} {c : Channel} {i : ModuleIndex} {o : SweepOutcome}

/-- A dialog ended from the slot as it stands has ended with that outcome alone (R44). -/
theorem ended_endDialog (hs : Settled s) (hm : (s.slot c).module = some i) (ho : otherWork s c) (o : SweepOutcome) :
    Ended s (s.endDialog c o).closeStep c i o := by
  have hfrom := EndsFrom.refl hm o
  have hover : DialogOver s c i (endOf s c o) (s.endDialog c o) := hfrom.over ((State.Works.refl s).endDialog c o)
  have hy := hover.closeStep_yieldOnly hs ho
  have hent : (s.endDialog c o).entry i = { s.entry i with lastOutcome := some o, lastSweep := s.sweep.number } := by
    have := (congrArg (fun v => v.entry i) hfrom.endDialog_withSweep).trans (outcomeRecorded_entry s c i _ i)
    exact this.trans (if_pos rfl)
  have hhist : (s.endDialog c o).history = s.history :=
    (congrArg State.history hfrom.endDialog_withSweep).trans (outcomeRecorded_history s c i _)
  exact ⟨hover.endedWith hs ho, (State.entry_congr hy.table i).trans hent, hy.history.trans hhist⟩

/-- A service that ends the dialog from the slot as it stands. -/
theorem ended_service (hs : Settled s) (hm : (s.slot c).module = some i) (ho : otherWork s c)
    (hl : (s.slot c).listens = true) (hh : heard s c (s.entry i)) {x : Service} (hx : s.deliver c x = s.endDialog c o) :
    Ended s (s.serviceReceived c x) c i o := by
  rw [serviceReceived_heard hm hl hh, hx]
  exact ended_endDialog hs hm ho o

theorem denyEndsTheDialog : DenyEndsTheDialog := by
  intro s c i reason hs hm hh ho
  have hdeny : ∀ {o : SweepOutcome}, (s.slot c).listens = true → s.onDeny c = s.endDialog c o →
      ∃ t, exec (.deny c reason) s = .next t ∧ Ended s t c i o := fun hl hx =>
    ⟨_, rfl, ended_service (x := .deny reason) hs hm ho hl hh hx⟩
  refine ⟨fun hfirst => ?_, fun hread => ?_, fun herase => ?_⟩
  · have hout : SweepOutcome.denied = identityFails s c .denied := (if_pos hfirst.2).symm
    exact hdeny (listens_of_identity hfirst.1) (deny_ends hm (.inl ⟨hfirst.1, hout⟩))
  · exact hdeny (listens_of hread nofun nofun) (deny_ends hm (.inr (.inl ⟨hread, rfl⟩)))
  · exact hdeny (listens_of herase nofun nofun) (deny_ends hm (.inr (.inr ⟨herase, rfl⟩)))

theorem eraseDoneEndsErased : EraseDoneEndsErased := by
  intro s c i hs hm hh ho herase
  exact ⟨_, rfl, ended_service (x := .eraseDone) hs hm ho (listens_of herase nofun nofun) hh (eraseDone_ends herase)⟩

theorem referralExpiryEndsUnresolved : ReferralExpiryEndsUnresolved := by
  intro s c i hs hm hr ho
  refine ⟨(s.referralExpired c).closeStep, rfl, ?_⟩
  rw [referralExpired_ends hr]
  exact ended_endDialog hs hm ho .unresolved

theorem dialogsEndWithTheirOutcome : DialogsEndWithTheirOutcome := by
  intro s c i e command hs hm he ho
  obtain ⟨v, hx, hover⟩ := endsDialog_over hs hm he
  exact ⟨_, hx, hover.endedWith hs ho⟩

/-- Settles O37: every command that ends a dialog leaves it over, and the sweep then goes on with its other work. -/
theorem answersEndTheDialog : Obligations.AnswersEndTheDialog :=
  ⟨denyEndsTheDialog, eraseDoneEndsErased, referralExpiryEndsUnresolved, dialogsEndWithTheirOutcome⟩

end Sys2Proof.Claim
end

section
/-! The last page of a read: the dialog ends, or the erase that is due is asked (R35, R41, R42, R119). -/

namespace Sys2Proof.Claim

open Sys2Proof.Machine

variable {s : State} {c : Channel} {i : ModuleIndex} {p : Profile} {m : History × List MergeReport}

/-! ### The commands of a last page -/

theorem segmentOk_of_completes {h : PageHead} {index : BitVec 3} {data : List Byte}
    (hc : completesPage s c h index data) : segmentOk c data = true := by
  obtain ⟨⟨-, -, -, -, -, -, -, hlen, h0⟩, -⟩ := hc
  exact segmentOk_of h0 (hlen ▸ segmentBytes_le c _ _)

/-- The segment that completes the last page leaves the read complete (R40, R41). -/
theorem deliver_lastSegment {h : PageHead} {index : BitVec 3} {data : List Byte} (hm : (s.slot c).module = some i)
    (hp : s.slotProfile c = some p) (hc : completesPage s c h index data) (hlast : h.more = false) :
    s.deliver c (.segment index data) =
      (readCompleted s c i (pageMerged s c i p ((s.slot c).staging ++ data))).afterCompleteRead c := by
  refine (onSegment_completesPage hm hp hc).trans ?_
  rw [hlast, State.afterCommit, ← markGone_committed]
  rfl

/-- The head of an empty last page does so too (R35). -/
theorem deliver_emptyLastHead {page flags : Byte} (hm : (s.slot c).module = some i) (hp : s.slotProfile c = some p)
    (hst : (s.slot c).state = .reading) (hsub : (s.slot c).sub = .asked) (hpage : page.toNat = (s.slot c).page)
    (hlast : flags.getLsbD 0 = false) :
    s.deliver c (.pageHead page 0 0 flags 0) = (readCompleted s c i (s.history, [])).afterCompleteRead c := by
  have hok : ¬ headMalformed p (s.slot c) page 0 0 := by
    rintro (h | h | h | h)
    · exact h hpage
    · exact absurd h (by decide)
    · exact h (Nat.zero_mul _).symm
    · exact absurd h (by decide)
  refine (onPageHead_empty hm hst hsub hp hok).trans ?_
  rw [if_pos rfl, show bit flags 0 = false from hlast, State.afterCommit, ← markGone_committed]
  rfl

theorem exec_lastSegment {h : PageHead} {index : BitVec 3} {data : List Byte} (hm : (s.slot c).module = some i)
    (hh : heard s c (s.entry i)) (hc : completesPage s c h index data) :
    exec (.segment c index data) s = .next (s.deliver c (.segment index data)).closeStep := by
  rw [← serviceReceived_heard hm (listens_of hc.1.1 nofun nofun) hh]
  exact congrArg _ (if_pos (segmentOk_of_completes hc))

theorem exec_pageHead {page flags : Byte} (hm : (s.slot c).module = some i) (hh : heard s c (s.entry i))
    (hst : (s.slot c).state = .reading) :
    exec (.pageHead c page 0 0 flags 0) s = .next (s.deliver c (.pageHead page 0 0 flags 0)).closeStep := by
  rw [← serviceReceived_heard hm (listens_of hst nofun nofun) hh]
  rfl

/-! ### The read ends the dialog (R41, R44) -/

theorem readEnded (hs : Settled s) (hm : (s.slot c).module = some i) (hp : s.slotProfile c = some p) (ho : otherWork s c)
    (hn : ¬ eraseDueAfter s c p ((s.slot c).refused + m.2.count .refused))
    (hworks : s.Works ((readCompleted s c i m).afterCompleteRead c)) :
    ReadEnded s ((readCompleted s c i m).afterCompleteRead c).closeStep c i m := by
  rw [afterCompleteRead_of_not_due hp i m hn] at hworks ⊢
  generalize ho' : (if (s.slot c).refused + m.2.count .refused = 0 then SweepOutcome.complete else .storeFull) = o at *
  have hfrom := readCompleted_endsFrom hm m o
  have hover : DialogOver s c i (endAfterPage s c m o) ((readCompleted s c i m).endDialog c o) := hfrom.over hworks
  have hx : (readCompleted s c i m).endDialog c o = _ := hfrom.endDialog_withSweep
  have hhist : ((readCompleted s c i m).endDialog c o).history = goneMarked s i m.1 :=
    (congrArg State.history hx).trans (outcomeRecorded_history _ c i _)
  have hsweep : ((readCompleted s c i m).endDialog c o).sweep = _ := congrArg State.sweep hx
  rw [State.sweep_withSweep, outcomeRecorded_sweep] at hsweep
  generalize (readCompleted s c i m).endDialog c o = v at *
  have hy := hover.closeStep_yieldOnly hs ho
  obtain ⟨hslot, hout, hnum, -, -, -, -, hnotice, hbye, -, -, hothers, hown⟩ := hover.endedWith hs ho
  have hw : v.closeStep.sweep = _ := hy.sweep.trans hsweep
  refine ⟨hy.history.trans hhist, ⟨(congrArg Sweep.created hw :), (congrArg Sweep.updated hw :),
    (congrArg Sweep.refused hw :)⟩, hslot, by rw [ho']; exact hout, hnum, fun hroom => ?_, hbye, hothers, hown⟩
  rw [ho']
  simpa [endAfterPage] using hnotice hroom

theorem lastPageCompletesTheRead : LastPageCompletesTheRead := by
  intro s c i p hs hm hp hh ho
  refine ⟨fun h index data hc hlast hn => ?_, fun page flags hst hsub hpage hlast hn => ?_⟩
  · have hx := deliver_lastSegment hm hp hc hlast
    have hw := (State.Works.refl s).deliver c (.segment index data)
    rw [hx] at hw
    exact ⟨_, hx ▸ exec_lastSegment hm hh hc, readEnded hs hm hp ho hn hw⟩
  · have hx := deliver_emptyLastHead hm hp hst hsub hpage hlast
    have hw := (State.Works.refl s).deliver c (.pageHead page 0 0 flags 0)
    rw [hx] at hw
    exact ⟨_, hx ▸ exec_pageHead hm hh hst, readEnded hs hm hp ho hn hw⟩

/-! ### The erase asked (R42) -/

/-- The slot of a dialog that asks its erase (R42; log entry 14). -/
def eraseSlot (s : State) (c : Channel) (m : History × List MergeReport) : Slot :=
  Slot.ensureKeepAwake { pageCommitted (s.slot c) m with state := .erasing, sub := .asked } (s.setting .keepAwakePeriod)

theorem afterCompleteRead_of_due (hp : s.slotProfile c = some p) (hopen : s.shareState c = .opened)
    (hdue : eraseDueAfter s c p ((s.slot c).refused + m.2.count .refused)) :
    (readCompleted s c i m).afterCompleteRead c = ((readCompleted s c i m).withSlot c (eraseSlot s c m)).hand c .erase := by
  have hy : (readCompleted s c i m).yieldPending c = false := by
    show (s.shareState c == .yieldPending) = false
    rw [hopen]
    rfl
  rw [State.afterCompleteRead, if_pos ((eraseDue_readCompleted hp i m).mpr hdue), State.enterErase, hy,
    if_neg Bool.false_ne_true]
  dsimp only
  rw [slot_readCompleted]
  rfl

theorem eraseSlot_eq (s : State) (c : Channel) (h : (s.slot c).refused + m.2.count .refused = 0) :
    eraseSlot s c m = { s.slot c with
      state := .erasing, sub := .asked, response := none, staging := [], head := none, expected := 0, received := 0,
      outstanding := 0, attempt := 1, pagesRead := (s.slot c).pagesRead + 1, keepAwake := awake s c } := by
  have h0 : (s.slot c).refused = 0 := by omega
  unfold eraseSlot pageCommitted Slot.ensureKeepAwake awake
  dsimp only
  rw [h, h0]
  cases (s.slot c).keepAwake <;> rfl

theorem eraseAsked (hs : Settled s) (hm : (s.slot c).module = some i) (hp : s.slotProfile c = some p)
    (hopen : s.shareState c = .opened) (hdue : eraseDueAfter s c p ((s.slot c).refused + m.2.count .refused))
    (hworks : s.Works ((readCompleted s c i m).afterCompleteRead c)) :
    EraseAsked s ((readCompleted s c i m).afterCompleteRead c).closeStep c i m := by
  rw [afterCompleteRead_of_due hp hopen hdue] at hworks ⊢
  obtain ⟨-, -, -, hrefused, -⟩ := hdue
  have hfrom : EndsFrom s c i (endAfterPage s c m .complete) ((readCompleted s c i m).withSlot c (eraseSlot s c m)) := by
    refine (readCompleted_endsFrom hm m .complete).withContext ?_ ?_ ?_ <;>
      rw [eraseSlot_eq s c hrefused, slot_readCompleted]
    · rfl
    · rfl
    · exact (hrefused.trans (by omega : 0 = (s.slot c).refused)).symm
  have hf := State.FramesOf.hand ((readCompleted s c i m).withSlot c (eraseSlot s c m)) c .erase none
  have hslot : (((readCompleted s c i m).withSlot c (eraseSlot s c m)).hand c .erase).slot c = eraseSlot s c m :=
    (State.slot_congr hf.only.slots c).trans (State.slot_withSlot _ c _)
  have hother : ∀ d, d ≠ c →
      (((readCompleted s c i m).withSlot c (eraseSlot s c m)).hand c .erase).slot d = s.slot d := fun d hd =>
    (State.slot_congr hf.only.slots d).trans (hfrom.others d hd)
  have hsweep : (((readCompleted s c i m).withSlot c (eraseSlot s c m)).hand c .erase).sweep = sweepAfterRead s i m :=
    hf.only.sweep
  have hsettled : Settled (((readCompleted s c i m).withSlot c (eraseSlot s c m)).hand c .erase) := by
    refine hs.of_busy c ?_ ?_ ?_ hother (fun d _ => ?_) (hf.only.share.trans hfrom.share) ?_
    · rw [hslot, eraseSlot_eq s c hrefused]
      exact nofun
    · rw [hopen]
      exact nofun
    · rw [hopen]
      exact nofun
    · rw [State.workList, hsweep]
      rfl
    · exact congrArg (fun v => State.setting { s with settings := v } .socketChannels) hworks.settings
  rw [closeStep_settled hsettled]
  refine ⟨hf.only.history, hsweep, hslot.trans (eraseSlot_eq s c hrefused), fun hn => ?_, hf.only.table,
    hf.only.link.trans hfrom.link, hother, ownWork_of_works hworks⟩
  exact holds_hand (hfrom.nothing hn) hfrom.destination .erase

theorem dueEraseIsAsked : DueEraseIsAsked := by
  intro s c i p hs hm hp hh hopen
  refine ⟨fun h index data hc hlast hdue => ?_, fun page flags hst hsub hpage hlast hdue => ?_⟩
  · have hx := deliver_lastSegment hm hp hc hlast
    have hw := (State.Works.refl s).deliver c (.segment index data)
    rw [hx] at hw
    exact ⟨_, hx ▸ exec_lastSegment hm hh hc, eraseAsked hs hm hp hopen hdue hw⟩
  · have hx := deliver_emptyLastHead hm hp hst hsub hpage hlast
    have hw := (State.Works.refl s).deliver c (.pageHead page 0 0 flags 0)
    rw [hx] at hw
    exact ⟨_, hx ▸ exec_pageHead hm hh hst, eraseAsked hs hm hp hopen hdue hw⟩

/-- Settles O33: the last page leaves the read complete, and the erase decision then ends the dialog or asks the erase. -/
theorem lastPageCompletesOrErases : Obligations.LastPageCompletesOrErases := ⟨lastPageCompletesTheRead, dueEraseIsAsked⟩

end Sys2Proof.Claim
end

section
/-! The last dialog of a sweep ends the sweep: by its module, a timer, or a host's decline (R8, R12, R34, R76, R82). -/

namespace Sys2Proof.Claim

open Sys2Proof.Machine

variable {s t u v : State} {c d : Channel} {i : ModuleIndex} {e : DialogEnd} {g : Word16}

theorem modulesAndTimersEndTheSweep : ModulesAndTimersEndTheSweep := by
  intro s c i e command hs hl he hroom
  obtain ⟨v, hx, hover⟩ := endsDialog_over hs hl.1 he
  exact ⟨_, hx, hover.sweepEnded hs hl hroom, ownWork_of_works hover.works.closeStep⟩

/-! ### The binding list (R74 to R79) -/

theorem find_insertBinding (b : Binding) (bs : List Binding) :
    (insertBinding b bs).find? (fun x => x.tag == b.tag) = some b := by
  induction bs with
  | nil => simp [insertBinding]
  | cons x xs ih =>
    unfold insertBinding
    split
    · simp
    · split
      · simp
      · next hne => simp [Ne.symm hne, ih]

/-- A binding inserted replaces one for its tag, or makes the list longer (R75, R76). -/
theorem length_insertBinding (b : Binding) : ∀ {bs : List Binding},
    bs.Pairwise (fun x y => x.tag.toNat < y.tag.toNat) →
    (insertBinding b bs).length = if (bs.find? (fun x => x.tag == b.tag)).isSome then bs.length else bs.length + 1
  | [], _ => rfl
  | x :: xs, h => by
    obtain ⟨hx, hxs⟩ := List.pairwise_cons.mp h
    unfold insertBinding
    split
    · next hlt =>
      have hnone : (x :: xs).find? (fun y => y.tag == b.tag) = none := by
        rw [List.find?_eq_none]
        intro y hy htag
        have hyt : y.tag = b.tag := by simpa using htag
        rcases List.mem_cons.mp hy with rfl | hy
        · exact absurd (hyt ▸ hlt) (lt_irrefl _)
        · exact absurd ((hx y hy).trans (hyt ▸ hlt)) (lt_irrefl _)
      rw [hnone]
      rfl
    · split
      · next heq => simp [heq]
      · next hne =>
        have ih := length_insertBinding b hxs
        simp only [List.find?_cons, beq_eq_false_iff_ne.mpr (Ne.symm hne), List.length_cons, ih]
        split <;> rfl

theorem find_removeBinding (g : Word16) (bs : List Binding) :
    (removeBinding g bs).find? (fun x => x.tag == g) = none := by
  simp [removeBinding, List.find?_eq_none]

theorem lookup_of_binding {st : Store} {b : Binding} (h : st.binding g = some b) : st.lookup g = some b.target := by
  rw [Store.lookup, h]

/-- A lookup that no binding answers finds a profile or nothing (R79). -/
theorem lookup_of_unbound {st : Store} (h : st.binding g = none) : st.lookup g ≠ some .decline := by
  rw [Store.lookup, h]
  dsimp only
  split
  · exact nofun
  · cases romWithTag g <;> exact nofun

/-! ### The wake of the last slot (R34, R82) -/

theorem wakeSlot_of_free (h : (s.slot d).state = .free) (g : Word16) : s.wakeSlot d g = s := by
  have hw : (s.slot d).waitsOnReferral = false := by simp [Slot.waitsOnReferral, h]
  unfold State.wakeSlot
  dsimp only
  rw [hw, Bool.false_and, if_neg Bool.false_ne_true]

/-- A slot that waits on a tag whose lookup finds DECLINE ends its dialog UNSUPPORTED (R34, R82). -/
theorem wakeSlot_of_decline (hw : waitsOn (s.slot c) g) (hd : s.store.lookup g = some .decline) :
    s.wakeSlot c g = (s.resolve c (.declined g)).endDialog c .unsupported := by
  obtain ⟨hst, htag⟩ := hw
  have hwait : (s.slot c).waitsOnReferral = true := by simpa [Slot.waitsOnReferral] using hst
  unfold State.wakeSlot
  dsimp only
  rw [hwait, htag, hd]
  exact if_pos (by simp)

/-- With every other slot FREE the wake reaches this one alone. -/
theorem wakeWaiting_of_last (hf : ∀ d, d ≠ c → (s.slot d).state = .free)
    (hw : ∀ d, d ≠ c → ((s.wakeSlot c g).slot d).state = .free) : s.wakeWaiting g = s.wakeSlot c g := by
  simp only [State.wakeWaiting, allChannels, List.foldl_cons, List.foldl_nil]
  cases c
  · rw [wakeSlot_of_free (hw .b (by decide)), wakeSlot_of_free (hw .s (by decide))]
  · rw [wakeSlot_of_free (hf .a (by decide)), wakeSlot_of_free (hw .s (by decide))]
  · rw [wakeSlot_of_free (hf .a (by decide)), wakeSlot_of_free (hf .b (by decide))]

/-- The wake of the last dialog's slot by a decline ends the sweep (R8, R12, R34). -/
theorem declined_sweepEnded (hs : Settled u) (hl : lastDialog u c i) (hw : waitsOn (u.slot c) g)
    (hd : u.store.lookup g = some .decline) (hroom : u.link.noticesHeld < 11) :
    SweepEnded u (u.wakeWaiting g).closeStep i (endOf u c .unsupported) []
      ∧ (u.wakeWaiting g).closeStep.history = u.history := by
  have hfree : ∀ d, d ≠ c → (u.slot d).state = .free := by
    obtain ⟨-, -, -, hfree, -⟩ := hl
    exact hfree
  have hfrom : EndsFrom u c i (endOf u c .unsupported) (u.resolve c (.declined g)) :=
    (EndsFrom.refl hl.1 .unsupported).resolve _
  have hover : DialogOver u c i (endOf u c .unsupported) ((u.resolve c (.declined g)).endDialog c .unsupported) :=
    hfrom.over (((State.Works.refl u).resolve c _).endDialog c _)
  have hwake : u.wakeWaiting g = (u.resolve c (.declined g)).endDialog c .unsupported := by
    have hslot := wakeSlot_of_decline hw hd
    rw [wakeWaiting_of_last hfree (fun d hd => by rw [hslot, hover.others d hd]; exact hfree d hd), hslot]
  have hhist : ((u.resolve c (.declined g)).endDialog c .unsupported).history = u.history := by
    refine (congrArg State.history hfrom.endDialog_withSweep).trans ((outcomeRecorded_history _ c i _).trans ?_)
    unfold State.resolve
    split <;> rfl
  rw [hwake]
  refine ⟨hover.sweepEnded hs hl hroom, ?_⟩
  rw [hover.closeStep_of_last hs hl]
  exact hhist

/-- The end of a sweep seen from a state that differs in what a request had changed and in its reply (R167). -/
theorem SweepEnded.served {before : List OutFrame} (h : SweepEnded u t i e []) (hw : u.sweep = s.sweep)
    (ht : u.table = s.table) (ho : u.link.outbound = s.link.outbound ++ before) : SweepEnded s (served t) i e before := by
  have he := State.entry_congr ht
  unfold SweepEnded at h ⊢
  rw [hw, ho] at h
  simp only [he, List.append_nil] at h
  exact h

/-! ### The requests that decline (R70, R76) -/

theorem noticesHeld_reply (s : State) (k : Byte) (st : Status) (bs : List Byte) :
    (s.reply k st bs).link.noticesHeld = s.link.noticesHeld := by
  simp only [Link.noticesHeld, State.reply, State.withLink, List.filter_append, List.length_append]
  rfl

/-- A request that waking carries out whole: in service meanwhile, and given back (R167). -/
theorem exec_served {f : HostFrame} {carry : State → State} (h : Ready s) (hx : carry (s.withLink
    { s.link with inService := some f }) = t) : s.takeRequest f carry = served t := by
  rw [takeRequest_ready h, hx]
  rfl

theorem store_served (s : State) : (served s).store = s.store := rfl

theorem history_served (s : State) : (served s).history = s.history := rfl

/-- The state of a DECLINE before the wake: the list with the binding, and the reply (R76). -/
def declineBound (s : State) (f : HostFrame) (g : Word16) : State :=
  ((s.withLink { s.link with inService := some f }).withBindings (insertBinding ⟨g, .decline⟩ s.store.bindings)).reply
    0x0A .done [byte (insertBinding ⟨g, .decline⟩ s.store.bindings).length]

theorem handleDecline_eq {t1 t0 : Byte} {f : HostFrame} (h0 : beWord16 t1 t0 ≠ 0) (hf : beWord16 t1 t0 ≠ 0xFFFF)
    (hroom : s.store.binding (beWord16 t1 t0) ≠ none ∨ s.store.bindings.length < 16) :
    State.handleDecline [t1, t0] (s.withLink { s.link with inService := some f }) =
      ((declineBound s f (beWord16 t1 t0)).wakeWaiting (beWord16 t1 t0)).closeStep := by
  have htag : (!tagOk (beWord16 t1 t0)) = false := by
    simp only [tagOk, Bool.not_eq_false', Bool.and_eq_true, decide_eq_true_eq]
    exact ⟨h0, hf⟩
  have hr : s.store.roomFor (beWord16 t1 t0) = true := by
    simpa [Store.roomFor, Option.isSome_iff_ne_none] using hroom
  unfold State.handleDecline
  dsimp only
  rw [htag, if_neg Bool.false_ne_true]
  exact if_pos hr

/-- The state of a PROFILE_LOAD before the wake: the slot filled, and the reply (R70). -/
def profileLoaded (s : State) (f : HostFrame) (n : Fin 12) (p : Profile) : State :=
  ((s.withLink { s.link with inService := some f }).loadProfile n p).reply 0x06 .done (byte n.val :: s.releaseCounts n)

theorem profileInUse_eq_false {n : Fin 12} (h : ¬ loadedInUse s n) : s.profileInUse (.loaded n) = false := by
  have hc : ∀ d, s.slotUses d (.loaded n) = false := by
    refine fun d => Bool.eq_false_iff.mpr fun hu => h ⟨d, ?_⟩
    simpa [State.slotUses] using hu
  simp [State.profileInUse, allChannels, hc]

theorem handleProfileLoad_eq {payload : List Byte} {f : HostFrame} {n : Fin 12} {p : Profile}
    (hp : parseProfileLoad payload = some (n, p)) (hu : ¬ loadedInUse s n) :
    State.handleProfileLoad payload (s.withLink { s.link with inService := some f }) =
      ((profileLoaded s f n p).wakeWaiting p.tag).closeStep := by
  have hfree : (s.withLink { s.link with inService := some f }).profileInUse (.loaded n) = false :=
    profileInUse_eq_false hu
  unfold State.handleProfileLoad
  rw [hp]
  dsimp only
  rw [hfree, if_neg Bool.false_ne_true]
  rfl

/-- The entries a release returns to UNRESOLVED, as the statements say it (R72). -/
theorem table_released (s : State) (n : Fin 12) :
    unresolveWhere (Resolution.resolvedTo (.loaded n)) s.table = (released s n).table := by
  unfold unresolveWhere released
  refine congrArg (fun f => s.table.map f) (funext fun e => ?_)
  cases hr : e.resolution with
  | resolved r g => simp [Resolution.resolvedTo]
  | declined g => rfl
  | unresolved => rfl

theorem loadProfile_occupied {n : Fin 12} (p : Profile) (h : (s.store.loaded[n]).isSome = true) :
    s.loadProfile n p = { s with
      store := {
        loaded := s.store.loaded.set n (some p), bindings := s.store.bindings.filter (fun b => !b.names (.loaded n)) },
      table := (released s n).table } := by
  have hset : (s.store.loaded.set n none).set n (some p) = s.store.loaded.set n (some p) := by simp
  unfold State.loadProfile
  dsimp only
  rw [if_pos h, ← table_released, ← hset]
  rfl

theorem loadProfile_empty {n : Fin 12} (p : Profile) (h : ¬ (s.store.loaded[n]).isSome = true) :
    s.loadProfile n p = { s with store := { s.store with loaded := s.store.loaded.set n (some p) } } := by
  unfold State.loadProfile
  dsimp only
  rw [if_neg h]

/-- A profile loaded changes the store and, of the table, resolutions alone; its reply is queued (R70, R72). -/
theorem profileLoaded_eq (s : State) (f : HostFrame) (n : Fin 12) (p : Profile) :
    profileLoaded s f n p = { s with
      store := (s.loadProfile n p).store, table := (if (s.store.loaded[n]).isSome then released s n else s).table,
      link := (profileLoaded s f n p).link } := by
  unfold profileLoaded
  by_cases h : (s.store.loaded[n]).isSome = true
  · rw [loadProfile_occupied (s := s.withLink { s.link with inService := some f }) p h, loadProfile_occupied p h, if_pos h]
    rfl
  · rw [loadProfile_empty (s := s.withLink { s.link with inService := some f }) p h, loadProfile_empty p h, if_neg h]
    rfl

theorem releaseCounts_eq (s : State) (n : Fin 12) :
    s.releaseCounts n = if (s.store.loaded[n]).isSome then releaseNumbers s n else [0, 0] := by
  have hcount : (fun e : Entry => Resolution.resolvedTo (.loaded n) e.resolution) = fun e =>
      match e.resolution with | .resolved ref _ => ref == .loaded n | _ => false := by
    funext e
    cases e.resolution <;> rfl
  unfold State.releaseCounts releaseNumbers State.resolvedEntries countResolution
  rw [hcount]
  rfl

/-- A binding to DECLINE outlasts a profile loaded (R70, R72). -/
theorem binding_profileLoaded (f : HostFrame) (n : Fin 12) (p : Profile) (h : s.store.binding g = some ⟨g, .decline⟩) :
    (profileLoaded s f n p).store.binding g = some ⟨g, .decline⟩ := by
  have hfind : (s.store.bindings.filter (fun b => !b.names (.loaded n))).find? (fun b => b.tag == g) =
      some ⟨g, .decline⟩ := by
    rw [List.find?_filter]
    have hb : s.store.bindings.find? (fun b => b.tag == g) = some ⟨g, .decline⟩ := h
    rw [List.find?_eq_some_iff_append] at hb ⊢
    obtain ⟨ht, as, bs, hl, hn⟩ := hb
    refine ⟨by simp [Binding.names], as, bs, hl, fun a ha => ?_⟩
    have := hn a ha
    simp_all
  rw [profileLoaded_eq]
  by_cases ho : (s.store.loaded[n]).isSome = true
  · rw [loadProfile_occupied p ho]
    exact hfind
  · rw [loadProfile_empty p ho]
    exact h

theorem loaded_profileLoaded (s : State) (f : HostFrame) (n : Fin 12) (p : Profile) :
    (profileLoaded s f n p).store.loaded = s.store.loaded.set n (some p) := by
  rw [profileLoaded_eq]
  by_cases ho : (s.store.loaded[n]).isSome = true
  · rw [loadProfile_occupied p ho]
  · rw [loadProfile_empty p ho]

theorem outbound_profileLoaded (s : State) (f : HostFrame) (n : Fin 12) (p : Profile) :
    (profileLoaded s f n p).link.outbound =
      s.link.outbound ++ [.reply 0x86 .done (byte n.val :: s.releaseCounts n)] := by
  unfold profileLoaded
  by_cases h : (s.store.loaded[n]).isSome = true
  · rw [loadProfile_occupied (s := s.withLink { s.link with inService := some f }) p h]
    rfl
  · rw [loadProfile_empty (s := s.withLink { s.link with inService := some f }) p h]
    rfl

/-! ### A BIND carried out (R75) -/

/-- After a BIND with a list, the store's list is that one (R75). -/
theorem store_finishBind (s : State) (g : Word16) (bs : List Binding) :
    (s.finishBind g bs).store = { s.store with bindings := bs } := by
  have hkeep : ∀ u : State, (u.wakeWaiting g).closeStep.store = u.store := fun u =>
    (((State.Works.refl u).wakeWaiting g).closeStep).store
  unfold State.finishBind
  dsimp only
  rw [hkeep]
  split <;> rfl

/-! ### The obligation -/

theorem lastDialog_of_same (h : lastDialog s c i) (hslots : u.slots = s.slots) (hsweep : u.sweep = s.sweep)
    (hshare : u.share = s.share) (hset : u.settings = s.settings)
    (ha : (u.entry i).attention = (s.entry i).attention) : lastDialog u c i := by
  have hslot := State.slot_congr hslots
  have hlist := State.workList_congr (congrArg Sweep.lists hsweep)
  unfold lastDialog State.setting at h ⊢
  simpa only [hslot, hlist, hsweep, hset, ha, State.shareState_congr hshare] using h

/-- A request that leaves the slots, the sweep and the settings, and after which the tag's lookup finds DECLINE, ends
the sweep whose last dialog waits on that tag (R12, R34). -/
theorem declinedRequest_sweepEnded {base : State} {before : List OutFrame} (hs : Settled s) (hl : lastDialog s c i)
    (hw : waitsOn (s.slot c) g) (hroom : s.link.noticesHeld < 11) (hslots : u.slots = s.slots)
    (hsweep : u.sweep = s.sweep) (hshare : u.share = s.share) (hset : u.settings = s.settings)
    (hatt : (u.entry i).attention = (s.entry i).attention) (hfound : u.store.lookup g = some .decline)
    (hnotices : u.link.noticesHeld = s.link.noticesHeld) (hbase : base.sweep = s.sweep) (htable : u.table = base.table)
    (hout : u.link.outbound = base.link.outbound ++ before) :
    SweepEnded base (served (u.wakeWaiting g).closeStep) i (endOf s c .unsupported) before
      ∧ (served (u.wakeWaiting g).closeStep).history = u.history := by
  have hslot := State.slot_congr hslots
  have hsettled : Settled u := hs.of_same hslot (State.workList_congr (congrArg Sweep.lists hsweep))
    (congrArg Sweep.state hsweep) hshare (congrArg (fun v => State.setting { s with settings := v } .socketChannels) hset)
  obtain ⟨hend, hhist⟩ := declined_sweepEnded hsettled (lastDialog_of_same hl hslots hsweep hshare hset hatt)
    (by rwa [hslot]) hfound (hnotices.trans_lt hroom)
  have hends : endOf u c .unsupported = endOf s c .unsupported := by
    unfold endOf
    rw [hslot]
  rw [hends] at hend
  exact ⟨hend.served (hsweep.trans hbase.symm) htable hout, (history_served _).trans hhist⟩

/-- A DECLINE of the tag that the last dialog waits on ends the sweep (R12, R34, R76). -/
theorem decline_sweepEnded {t1 t0 : Byte} (hr : Ready s) (hs : Settled s) (hsound : StoreSound s.store)
    (hl : lastDialog s c i) (hw : waitsOn (s.slot c) g) (hroom : s.link.noticesHeld < 11)
    (ha : answersFor s g (.decline [t1, t0])) :
    ∃ t, exec (.decline [t1, t0]) s = .next t
      ∧ SweepEnded s t i (endOf s c .unsupported) [.reply 0x8A .done
          [byte (if (s.store.binding g).isSome then s.store.bindings.length else s.store.bindings.length + 1)]]
      ∧ t.history = s.history := by
  obtain ⟨rfl, h0, hf, hfits⟩ := ha
  have hbound : (declineBound s ⟨0x0A, [t1, t0]⟩ (beWord16 t1 t0)).store.binding (beWord16 t1 t0) =
      some ⟨beWord16 t1 t0, .decline⟩ := find_insertBinding ⟨beWord16 t1 t0, .decline⟩ s.store.bindings
  have hlen := length_insertBinding ⟨beWord16 t1 t0, .decline⟩ hsound.1
  have hout : (declineBound s ⟨0x0A, [t1, t0]⟩ (beWord16 t1 t0)).link.outbound = s.link.outbound ++ [.reply 0x8A .done
      [byte (if (s.store.binding (beWord16 t1 t0)).isSome then s.store.bindings.length
        else s.store.bindings.length + 1)]] := by
    unfold Store.binding
    rw [← hlen]
    rfl
  have hend := declinedRequest_sweepEnded (u := declineBound s ⟨0x0A, [t1, t0]⟩ (beWord16 t1 t0)) (base := s) hs hl hw
    hroom rfl rfl rfl rfl rfl (lookup_of_binding hbound) (noticesHeld_reply _ _ _ _) rfl rfl hout
  have hexec : exec (.decline [t1, t0]) s = .next (served
      ((declineBound s ⟨0x0A, [t1, t0]⟩ (beWord16 t1 t0)).wakeWaiting (beWord16 t1 t0)).closeStep) :=
    congrArg Host.Outcome.next (exec_served hr (handleDecline_eq h0 hf hfits))
  exact ⟨_, hexec, hend.1, hend.2⟩

/-- A profile loaded leaves each entry's attention flag (R72). -/
theorem attention_released (s : State) (n : Fin 12) (i : ModuleIndex) :
    ((released s n).entry i).attention = (s.entry i).attention := by
  simp only [released, State.entry, Fin.getElem_fin, Vector.getElem_map]
  split
  · split <;> rfl
  · rfl

/-- A PROFILE_LOAD whose tag is bound to DECLINE ends the sweep whose last dialog waits on it (R12, R34, R70). -/
theorem profileLoad_sweepEnded {payload : List Byte} {n : Fin 12} {p : Profile} (hr : Ready s) (hs : Settled s)
    (hl : lastDialog s c i) (hw : waitsOn (s.slot c) p.tag) (hroom : s.link.noticesHeld < 11)
    (hp : parseProfileLoad payload = some (n, p)) (hu : ¬ loadedInUse s n)
    (hb : s.store.binding p.tag = some ⟨p.tag, .decline⟩) :
    ∃ t, exec (.profileLoad payload) s = .next t
      ∧ SweepEnded (if (s.store.loaded[n]).isSome then released s n else s) t i (endOf s c .unsupported)
          [.reply 0x86 .done (byte n.val :: (if (s.store.loaded[n]).isSome then releaseNumbers s n else [0, 0]))]
      ∧ t.history = s.history ∧ t.store.loaded = s.store.loaded.set n (some p) := by
  have heq := profileLoaded_eq s ⟨0x06, payload⟩ n p
  have hlookup := lookup_of_binding (binding_profileLoaded ⟨0x06, payload⟩ n p hb)
  have hloaded := loaded_profileLoaded s ⟨0x06, payload⟩ n p
  have hout := outbound_profileLoaded s ⟨0x06, payload⟩ n p
  have hexec : exec (.profileLoad payload) s = .next (served
      ((profileLoaded s ⟨0x06, payload⟩ n p).wakeWaiting p.tag).closeStep) :=
    congrArg Host.Outcome.next (exec_served hr (handleProfileLoad_eq hp hu))
  generalize profileLoaded s ⟨0x06, payload⟩ n p = u at *
  have htable : u.table = (if (s.store.loaded[n]).isSome then released s n else s).table := (congrArg State.table heq :)
  have hatt : (u.entry i).attention = (s.entry i).attention := by
    rw [State.entry_congr htable]
    split
    · exact attention_released s n i
    · rfl
  have hnotices : u.link.noticesHeld = s.link.noticesHeld := by
    simp only [Link.noticesHeld, hout, List.filter_append, List.length_append]
    rfl
  have hbase : (if (s.store.loaded[n]).isSome then released s n else s).sweep = s.sweep ∧
      (if (s.store.loaded[n]).isSome then released s n else s).link = s.link := by
    split <;> exact ⟨rfl, rfl⟩
  obtain ⟨hend, hhist⟩ := declinedRequest_sweepEnded hs hl hw hroom (congrArg State.slots heq :)
    (congrArg State.sweep heq :) (congrArg State.share heq :) (congrArg State.settings heq :) hatt hlookup hnotices
    hbase.1 htable (by rw [hout, hbase.2, releaseCounts_eq])
  have hkeep : (served ((u.wakeWaiting p.tag).closeStep)).store = u.store :=
    (store_served _).trans (((State.Works.refl u).wakeWaiting p.tag).closeStep).store
  exact ⟨_, hexec, hend, hhist.trans (congrArg State.history heq :), (congrArg Store.loaded hkeep).trans hloaded⟩

/-- After a BIND that is carried out no lookup of its tag finds DECLINE (R75, R79). -/
theorem bind_lookup {t1 t0 b : Byte} (hr : Ready s) (ha : answersFor s g (.bind [t1, t0, b])) :
    ∃ t, exec (.bind [t1, t0, b]) s = .next t ∧ t.store.lookup g ≠ some .decline := by
  obtain ⟨rfl, h0, hf, ha⟩ := ha
  have htag : (!tagOk (beWord16 t1 t0)) = false := by
    simp only [tagOk, Bool.not_eq_false', Bool.and_eq_true, decide_eq_true_eq]
    exact ⟨h0, hf⟩
  have hdone : ∀ bs : List Binding,
      State.handleBind [t1, t0, b] (s.withLink { s.link with inService := some ⟨0x09, [t1, t0, b]⟩ }) =
        (s.withLink { s.link with inService := some ⟨0x09, [t1, t0, b]⟩ }).finishBind (beWord16 t1 t0) bs →
      ({ s.store with bindings := bs } : Store).lookup (beWord16 t1 t0) ≠ some .decline →
      ∃ t, exec (.bind [t1, t0, b]) s = .next t ∧ t.store.lookup (beWord16 t1 t0) ≠ some .decline := by
    intro bs hx hn
    refine ⟨_, congrArg Host.Outcome.next (exec_served hr hx), ?_⟩
    have hst := store_finishBind (s.withLink { s.link with inService := some ⟨0x09, [t1, t0, b]⟩ }) (beWord16 t1 t0) bs
    rw [store_served, hst]
    exact hn
  rcases ha with ⟨rfl, hbound⟩ | ⟨ref, hne, href, hprof, hfits⟩
  · refine hdone (removeBinding (beWord16 t1 t0) s.store.bindings) ?_ (lookup_of_unbound (find_removeBinding _ _))
    obtain ⟨x, hx⟩ := Option.ne_none_iff_exists'.mp hbound
    have hx' : (s.withLink { s.link with inService := some ⟨0x09, [t1, t0, 0xFF]⟩ }).store.binding (beWord16 t1 t0) =
      some x := hx
    unfold State.handleBind State.bindNone
    dsimp only
    rw [htag, if_neg Bool.false_ne_true, if_pos rfl, hx']
    rfl
  · refine hdone (insertBinding ⟨beWord16 t1 t0, .profile ref⟩ s.store.bindings) ?_ ?_
    · have hr : s.store.roomFor (beWord16 t1 t0) = true := by
        simpa [Store.roomFor, Option.isSome_iff_ne_none] using hfits
      have hp : ¬ (s.store.profile ref).isNone = true := by simpa using hprof
      unfold State.handleBind State.bindTo
      dsimp only
      rw [htag, if_neg Bool.false_ne_true, if_neg hne, href]
      exact (if_neg hp).trans (if_pos hr)
    · have hbound : ({ s.store with bindings := insertBinding ⟨beWord16 t1 t0, .profile ref⟩ s.store.bindings }
          : Store).binding (beWord16 t1 t0) = some ⟨beWord16 t1 t0, .profile ref⟩ :=
        find_insertBinding ⟨beWord16 t1 t0, .profile ref⟩ s.store.bindings
      rw [lookup_of_binding hbound]
      exact nofun

theorem hostDeclinesEndTheSweep : HostDeclinesEndTheSweep := by
  intro s c i g hr hs hsound hl hw hroom
  refine ⟨fun t1 t0 ha => decline_sweepEnded hr hs hsound hl hw hroom ha, fun payload n p hp hpt hu hb => ?_,
    fun t1 t0 b ha => bind_lookup hr ha⟩
  subst hpt
  exact profileLoad_sweepEnded hr hs hl hw hroom hp hu hb

/-- Settles O34: the last dialog over, the end of its step ends the sweep. -/
theorem lastDialogEndsTheSweep : Obligations.LastDialogEndsTheSweep :=
  ⟨modulesAndTimersEndTheSweep, hostDeclinesEndTheSweep⟩

end Sys2Proof.Claim
end

section
/-! Attention sweeps, and the appends of R17 and R18 (R17 to R20, R149, R150, R171). -/

namespace Sys2Proof.Claim

open Sys2Proof.Machine

variable {s t u v : State} {c d : Channel} {i j : ModuleIndex} {e : DialogEnd} {w : Nat}

/-! ### The attention check (R19) -/

/-- A module that an attention sweep starting now places on a list (R5, R19). -/
def attentionPlaces (s : State) : Prop := ∃ j, pulsed s j ∧ ¬ skippedByDefault s j

theorem inScope_attention (s : State) (i : ModuleIndex) : s.inScope .attention i = true ↔ pulsed s i := by
  simp [State.inScope, pulsed]

/-- The attention check, with a module to place, starts the sweep, which goes on (R12, R19). -/
theorem attentionCheck_places (hon : attentionOn s) (hidle : s.sweep.state = .idle) (hp : attentionPlaces s) :
    s.attentionCheck = s.startSweep .attention s.defaultOptions .attention ∧ ∃ c, s.attentionCheck.workList c ≠ [] := by
  obtain ⟨hkey, hsettled, hauto⟩ := hon
  obtain ⟨j, hj, hn⟩ := hp
  have hany : allModules.any (fun i => (s.entry i).inUse && (s.entry i).attention) = true :=
    List.any_eq_true.mpr ⟨j, List.mem_finRange j, by rw [hj.1, hj.2]; rfl⟩
  have hdue : s.attentionDue = true := by
    simp [State.attentionDue, hidle, hkey, hsettled, hauto, hany]
  have heq : s.attentionCheck = s.startSweep .attention s.defaultOptions .attention := if_pos hdue
  refine ⟨heq, (s.entry j).channel, heq ▸ List.ne_nil_of_mem (a := j) ?_⟩
  exact (State.mem_workList_startSweep _ _ _ _).mpr
    ⟨(inScope_attention s j).mpr hj, (skipsUnder_default_false s j).mpr hn, rfl⟩

/-- The sweep that the attention check starts is an attention sweep over the flagged entries (R4, R5, R19). -/
theorem startSweep_runs (s : State) :
    AttentionSweepRuns s (s.startSweep .attention s.defaultOptions .attention) := by
  have hw := s.startSweep_sweep .attention s.defaultOptions .attention
  have hent := s.startSweep_entry .attention s.defaultOptions .attention
  refine ⟨(congrArg Sweep.state hw :), (congrArg Sweep.kind hw :), (congrArg Sweep.number hw :),
    (congrArg Sweep.options hw :), (congrArg Sweep.haltTaken hw :), fun c i => ?_,
    s.workList_startSweep_ascending .attention s.defaultOptions .attention, fun i hi hsk => ?_, fun i hi hn => ?_⟩
  · refine (State.mem_workList_startSweep _ _ _ _).trans ?_
    exact and_congr (inScope_attention s i) (and_congr (skipsUnder_default_false s i) Iff.rfl)
  · have he := (hent i).trans (if_pos ⟨(inScope_attention s i).mpr hi, (skipsUnder_default s i).mpr hsk⟩)
    exact ⟨(congrArg Entry.attention he :), (congrArg Entry.lastOutcome he :), (congrArg Entry.lastSweep he :)⟩
  · rw [hent i, if_neg fun h => hn ((skipsUnder_default s i).mp h.2)]
    exact hi.2

/-- What the start of an attention sweep reads is alike in two states (R4, R5, R19). -/
structure SweepsAlike (s u : State) : Prop where
  number : u.sweep.number = s.sweep.number
  share : u.share = s.share
  options : u.setting .defaultOptions = s.setting .defaultOptions
  entries : ∀ j, (u.entry j).configured = (s.entry j).configured ∧ (u.entry j).attention = (s.entry j).attention

namespace SweepsAlike

theorem pulsed_iff (h : SweepsAlike s u) (j : ModuleIndex) : pulsed u j ↔ pulsed s j := by
  obtain ⟨hconf, hatt⟩ := h.entries j
  have huse : (u.entry j).inUse = (s.entry j).inUse := congrArg Prod.fst hconf
  rw [pulsed, pulsed, hatt, huse]

theorem skippedByDefault_iff (h : SweepsAlike s u) (j : ModuleIndex) : skippedByDefault u j ↔ skippedByDefault s j := by
  have hconf := (h.entries j).1
  simp only [Entry.configured, Prod.mk.injEq] at hconf
  obtain ⟨-, hc, -, hsl, -⟩ := hconf
  rw [skippedByDefault, skippedByDefault, hc, hsl, h.options, State.shareState_congr h.share]

theorem places (h : SweepsAlike s u) (hp : attentionPlaces s) : attentionPlaces u := by
  obtain ⟨j, hj, hn⟩ := hp
  exact ⟨j, (h.pulsed_iff j).mpr hj, fun hs => hn ((h.skippedByDefault_iff j).mp hs)⟩

theorem channel (h : SweepsAlike s u) (j : ModuleIndex) : (u.entry j).channel = (s.entry j).channel :=
  congrArg (fun x => x.2.1) (h.entries j).1

/-- A sweep that runs over the flagged entries of the one runs over those of the other. -/
theorem runs (h : SweepsAlike s u) (hr : AttentionSweepRuns u t) : AttentionSweepRuns s t := by
  simpa only [AttentionSweepRuns, h.pulsed_iff, h.skippedByDefault_iff, h.number, h.options, h.channel] using hr

end SweepsAlike

/-- The attention check on a settled state with a module to place: its sweep runs, and the end of the step recomputes the
outputs alone (R12, R19). -/
theorem attentionCheck_runs (hu : Settled u) (ha : SweepsAlike s u) (hon : attentionOn u) (hidle : u.sweep.state = .idle)
    (hp : attentionPlaces s) :
    u.attentionCheck.closeStep = (u.startSweep .attention u.defaultOptions .attention).recomputeOutputs
      ∧ AttentionSweepRuns s u.attentionCheck.closeStep := by
  obtain ⟨heq, c, hl⟩ := attentionCheck_places hon hidle (ha.places hp)
  rw [heq] at hl ⊢
  rw [hu.startSweep hl]
  exact ⟨rfl, ha.runs (startSweep_runs u)⟩

theorem outbound_startSweep (s : State) (k : SweepKind) (o : SweepOptions) (x : Scope) :
    s.link.outbound <+: (s.startSweep k o x).link.outbound := by
  rw [State.startSweep_link]
  exact prefix_foldl_notify _ _

/-! ### A pulse (R149, R150) -/

/-- The state with a module's attention flag set and ATTENTION queued (R150). -/
def pulseTaken (s : State) (i : ModuleIndex) : State :=
  (s.withEntry i { s.entry i with attention := true }).notify (.attention i)

theorem attentionSlotOf_eq {n : Nat} (hn : n < 16) (hl : 20 + 16 * n ≤ w) (hh : w ≤ 28 + 16 * n) :
    attentionSlotOf w = some n := by
  have hslot : (w - 20) / 16 = n := by omega
  rw [attentionSlotOf, if_pos (by omega), hslot]

theorem attentionEntry_eq {n : Nat} (hu : (s.entry i).inUse = true) (hc : (s.entry i).channel = .s)
    (hn : (s.entry i).attentionSlot = some n)
    (huniq : ∀ j, (s.entry j).inUse = true → (s.entry j).channel = .s → (s.entry j).attentionSlot = some n → j = i) :
    s.attentionEntry n = some i := by
  have hfind : (s.attentionEntry n).isSome := by
    rw [State.attentionEntry, State.findEntry, List.find?_isSome]
    exact ⟨i, List.mem_finRange i, by simp [hu, hc, hn]⟩
  obtain ⟨j, hj⟩ := Option.isSome_iff_exists.mp hfind
  have hp := List.find?_some hj
  simp only [Bool.and_eq_true, beq_iff_eq] at hp
  obtain ⟨hju, hjc, hjn⟩ := hp
  rw [hj, huniq j hju hjc hjn]

/-- The edge that ends a pulse of a module has it recognised; of the line, it moves what the sweep does not read (R149,
R150). -/
theorem exec_attentionPulse (hp : pulseOf s w i) :
    ∃ l : Line, exec (.attentionPulse w) s = .next ((s.withLine l).recognise i).closeStep := by
  obtain ⟨hcap, hlevel, n, hn, hlo, hhi, hu, hc, hsl, huniq⟩ := hp
  have hne : ¬ s.line.level = s.pulseEnd := by
    rw [hlevel, State.pulseEnd, State.polarityHigh]
    by_cases hpol : s.setting .attentionPolarity = 1 <;> simp [hpol]
  have hends : detectorStep s.polarityHigh s.pulseEnd s.line.detector = .ends := by
    rw [hcap, State.pulseEnd]
    cases s.polarityHigh <;> rfl
  have hmap : ∀ l, (s.withLine l).mapWidth w = (s.withLine l).recognise i := by
    intro l
    have he : (s.withLine l).attentionEntry n = some i := attentionEntry_eq (s := s.withLine l) hu hc hsl huniq
    rw [State.mapWidth, attentionSlotOf_eq hn hlo hhi]
    dsimp only
    rw [he]
  have hedge : ∃ l, (s.withLine { s.line with width := w, idleTime := s.line.idleOfWidth w }).lineEdge s.pulseEnd =
      ((s.withLine l).mapWidth w).closeStep := ⟨_, (if_neg hne).trans (if_pos hends)⟩
  obtain ⟨l, hl⟩ := hedge
  refine ⟨l, congrArg Host.Outcome.next ((if_pos hcap).trans (hl.trans ?_))⟩
  rw [hmap]

theorem pulseTaken_entry (s : State) (i j : ModuleIndex) :
    (pulseTaken s i).entry j = if j = i then { s.entry i with attention := true } else s.entry j := by
  split
  · next hj => exact hj ▸ State.entry_withEntry _ _ _
  · next hj => simpa [pulseTaken, State.entry] using Vector.getElem_set_ne _ _ (Fin.val_ne_of_ne (Ne.symm hj))

theorem Settled.pulseTaken (h : Settled s) (l : Line) (i : ModuleIndex) : Settled (pulseTaken (s.withLine l) i) :=
  h.of_same (fun _ => rfl) (fun _ => rfl) rfl rfl rfl

/-! ### The four places of the attention check (R19, R20, R171) -/

/-- A pulse in IDLE starts an attention sweep (R19, R150). -/
theorem idlePulse_runs (hs : Settled s) (hon : attentionOn s) (hidle : s.sweep.state = .idle) (hp : pulseOf s w i)
    (hplaces : attentionPlaces (s.withEntry i { s.entry i with attention := true })) :
    ∃ t, exec (.attentionPulse w) s = .next t
      ∧ AttentionSweepRuns (s.withEntry i { s.entry i with attention := true }) t
      ∧ (s.link.noticesHeld < 12 → s.link.outbound ++ [.notice (.attention i)] <+: t.link.outbound) := by
  obtain ⟨l, hx⟩ := exec_attentionPulse hp
  have hcheck : (s.withLine l).recognise i = (pulseTaken (s.withLine l) i).attentionCheck := if_pos hidle
  have halike : SweepsAlike (s.withEntry i { s.entry i with attention := true }) (pulseTaken (s.withLine l) i) :=
    ⟨rfl, rfl, rfl, fun _ => ⟨rfl, rfl⟩⟩
  obtain ⟨heq, hruns⟩ := attentionCheck_runs (hs.pulseTaken l i) halike hon hidle hplaces
  rw [← hcheck] at heq hruns
  refine ⟨_, hx, hruns, fun hroom => ?_⟩
  have hlink : (pulseTaken (s.withLine l) i).link.outbound = s.link.outbound ++ [.notice (.attention i)] :=
    congrArg Link.outbound (Link.notify_room hroom _)
  rw [heq, ← hlink]
  exact outbound_startSweep _ _ _ _

/-- The end of a sweep with reason FINISHED runs the attention check (R12, R19). -/
theorem lastDialog_attention (hs : Settled s) (hon : attentionOn s) (hm : (s.slot c).module = some i) {command : Instr}
    (he : endsDialog s c i e command) (hrun : s.sweep.state = .running) (hhalt : s.sweep.haltTaken = false)
    (hlists : ∀ d, s.workList d = []) (hfree : ∀ d, d ≠ c → (s.slot d).state = .free)
    (hflag : (s.entry i).attention = false) (hyield : s.shareState c ≠ .yieldPending) (hp : attentionPlaces s) :
    ∃ t, exec command s = .next t ∧ AttentionSweepRuns s t ∧ ∀ d, (t.slot d).state = .free := by
  obtain ⟨v, hx, hover⟩ := endsDialog_over hs hm he
  have hvhalt : v.sweep.haltTaken = false := (congrArg Sweep.haltTaken hover.sweep :).trans hhalt
  have hdone := hover.sweepDone (by rw [hrun]; exact nofun) hlists hfree hflag
  have halike : SweepsAlike s (v.endSweep .finished) := by
    refine ⟨(congrArg Sweep.number hover.sweep :), hover.share, hover.setting_eq _, fun j => ?_⟩
    show (v.entry j).configured = _ ∧ (v.entry j).attention = _
    by_cases hj : j = i
    · obtain ⟨r, hr⟩ := hover.entry
      rw [hj, hr]
      exact ⟨rfl, rfl⟩
    · rw [hover.entries j hj]
      exact ⟨rfl, rfl⟩
  have hvon : attentionOn (v.endSweep .finished) := by
    obtain ⟨hkey, hsettled, hauto⟩ := hon
    have hk : v.key = s.key := hover.works.key
    exact ⟨(congrArg Key.on hk).trans hkey, (congrArg Key.settled hk).trans hsettled, (hover.setting_eq _).trans hauto⟩
  obtain ⟨heq, k, hl⟩ := attentionCheck_places hvon rfl (halike.places hp)
  have hclose : v.closeStep = ((v.endSweep .finished).startSweep .attention (v.endSweep .finished).defaultOptions
      .attention).recomputeOutputs := by
    rw [hover.closeStep_eq hs, hover.yieldSettle_of_not_pending hyield, State.settleSweep_finished hdone hvhalt,
      State.settleSweep_of_not_done (State.sweepDone_of_listed hl), heq]
  refine ⟨_, hx, ?_, fun d => ?_⟩
  · rw [hclose]
    exact halike.runs (startSweep_runs _)
  · rw [hclose, State.slot_recomputeOutputs, State.slot_congr (State.startSweep_slots _ _ _ _) d]
    exact (((State.sweepDone_iff v).mp hdone).2 d).2

/-- The settle expiry with no key-on sweep to start runs the attention check (R20, R178). -/
theorem settleExpiry_attention {left : Nat} (hs : Settled s) (hleft : s.key.settle = some left) (hkey : s.key.on = true)
    (hauto : s.setting .autoAttention = 1) (hkeyOn : s.setting .autoKeyOn = 0) (hksw : s.straps.ksw = false)
    (hidle : s.sweep.state = .idle) (hp : attentionPlaces s) :
    ∃ t, exec .settleTimerExpiry s = .next t ∧ AttentionSweepRuns s t
      ∧ t.key = { s.key with settle := none, settled := true } := by
  have hcalled : s.keyOnSweepCalled = false := by simp [State.keyOnSweepCalled, hkeyOn, hksw]
  obtain ⟨heq, hruns⟩ := attentionCheck_runs hs.settleOver (s := s) ⟨rfl, rfl, rfl, fun _ => ⟨rfl, rfl⟩⟩
    ⟨hkey, rfl, hauto⟩ hidle hp
  have hx := settleExpired_eq hleft
  rw [hcalled, Bool.false_and, if_neg Bool.false_ne_true] at hx
  refine ⟨_, hx, hruns, ?_⟩
  rw [heq, State.key_recomputeOutputs, State.startSweep_key]
  rfl

/-- The state after the reply of a SETTINGS_PUT of AUTO_ATTENTION, with the setting on (R171). -/
def attentionTurnedOn (s : State) : State :=
  ((s.withLink { s.link with inService := some ⟨0x0C, [0x01, 0x00, 0x01]⟩ }).reply 0x0C .done
    [0x01, 0x00, 0x01, 0x00, 0x01]).withSetting .autoAttention 1

theorem setting_withSetting_other (s : State) (v : Word16) {x y : SettingId} (h : x.index ≠ y.index) :
    (s.withSetting y v).setting x = s.setting x := by
  simpa [State.setting, State.withSetting] using congrArg BitVec.toNat
    (Vector.getElem_set_ne (xs := s.settings) (x := v) y.index.isLt x.index.isLt (Fin.val_ne_of_ne (Ne.symm h)))

theorem setting_withSetting_same (s : State) (v : Word16) (x : SettingId) : (s.withSetting x v).setting x = v.toNat := by
  simp [State.setting, State.withSetting]

theorem handleSettingsPut_autoAttention (hold : s.setting .autoAttention = 0)
    (hA : s.setting .requestBaseA ≠ s.setting .responseBaseA) (hB : s.setting .requestBaseB ≠ s.setting .responseBaseB) :
    State.handleSettingsPut [0x01, 0x00, 0x01]
        (s.withLink { s.link with inService := some ⟨0x0C, [0x01, 0x00, 0x01]⟩ }) =
      ((attentionTurnedOn s).attentionCheck.settleSweep 3).closeStep := by
  have hcollide : ∀ k, (s.withLink { s.link with inService := some ⟨0x0C, [0x01, 0x00, 0x01]⟩ }).basesCollide
      [(.autoAttention, 1)] k = false := by
    intro k
    cases k
    · exact beq_eq_false_iff_ne.mpr hA
    · exact beq_eq_false_iff_ne.mpr hB
  have hput : ∀ u : State, u.setting .autoAttention = 0 →
      u.putSettings [(.autoAttention, 1)] = (u.withSetting .autoAttention 1).attentionCheck.settleSweep 3 := by
    intro u hu
    have hstored : u.putSettings [(.autoAttention, 1)] = u.putSetting .autoAttention 1 := rfl
    rw [hstored, State.putSetting, hu]
    rfl
  have hparse : parsePairs [0x01, 0x00, 0x01] = some [(.autoAttention, 1)] := rfl
  have hadjust : adjustPairs [(.autoAttention, 1)] = some [(.autoAttention, 1)] := rfl
  rw [State.handleSettingsPut, hparse]
  dsimp only
  rw [if_neg (by decide), hadjust]
  dsimp only
  rw [hcollide, hcollide, if_neg (by decide), if_pos rfl, hput]
  · rfl
  · exact hold

theorem AttentionSweepRuns.served (h : AttentionSweepRuns s t) : AttentionSweepRuns s (served t) := h

theorem outbound_served (s : State) : (served s).link.outbound = s.link.outbound := rfl

/-- A SETTINGS_PUT that turns AUTO_ATTENTION on runs the attention check after its reply (R19, R171). -/
theorem settingsPut_attention (hs : Settled s) (hr : Ready s) (hkey : s.key.on = true) (hsettled : s.key.settled = true)
    (hold : s.setting .autoAttention = 0) (hidle : s.sweep.state = .idle)
    (hA : s.setting .requestBaseA ≠ s.setting .responseBaseA) (hB : s.setting .requestBaseB ≠ s.setting .responseBaseB)
    (hp : attentionPlaces s) :
    ∃ t, exec (.settingsPut [0x01, 0x00, 0x01]) s = .next t ∧ AttentionSweepRuns s t
      ∧ s.link.outbound ++ [.reply 0x8C .done [0x01, 0x00, 0x01, 0x00, 0x01]] <+: t.link.outbound := by
  have hexec : exec (.settingsPut [0x01, 0x00, 0x01]) s =
      .next (served ((attentionTurnedOn s).attentionCheck.settleSweep 3).closeStep) :=
    congrArg Host.Outcome.next (exec_served hr (handleSettingsPut_autoAttention hold hA hB))
  have hset : ∀ x : SettingId, x.index ≠ 0 → (attentionTurnedOn s).setting x = s.setting x :=
    fun x hx => setting_withSetting_other (y := .autoAttention) _ 1 hx
  have hon : attentionOn (attentionTurnedOn s) := ⟨hkey, hsettled, setting_withSetting_same _ 1 .autoAttention⟩
  have hsettle : Settled (attentionTurnedOn s) :=
    hs.of_same (fun _ => rfl) (fun _ => rfl) rfl rfl (hset _ (by decide))
  have halike : SweepsAlike s (attentionTurnedOn s) := ⟨rfl, rfl, hset _ (by decide), fun _ => ⟨rfl, rfl⟩⟩
  have hout : (attentionTurnedOn s).link.outbound =
      s.link.outbound ++ [.reply 0x8C .done [0x01, 0x00, 0x01, 0x00, 0x01]] := rfl
  have hstate : (attentionTurnedOn s).sweep.state = .idle := hidle
  generalize attentionTurnedOn s = u at *
  obtain ⟨-, k, hl⟩ := attentionCheck_places hon hstate (halike.places hp)
  obtain ⟨heq, hruns⟩ := attentionCheck_runs hsettle halike hon hstate hp
  rw [State.settleSweep_of_not_done (State.sweepDone_of_listed hl)] at hexec
  refine ⟨_, hexec, hruns.served, ?_⟩
  rw [outbound_served, heq, ← hout]
  exact outbound_startSweep _ _ _ _

theorem attentionCheckStartsASweep : AttentionCheckStartsASweep := fun _ hs =>
  ⟨fun _ _ hon hidle hp hplaces => idlePulse_runs hs hon hidle hp hplaces,
    fun _ _ _ _ hon hm he hrun hhalt hlists hfree hflag hyield hplaces =>
      lastDialog_attention hs hon hm he hrun hhalt hlists hfree hflag hyield hplaces,
    fun _ hleft hkey hauto hkeyOn hksw hidle hplaces =>
      settleExpiry_attention hs hleft hkey hauto hkeyOn hksw hidle hplaces,
    fun hr hkey hsettled hold hidle hA hB hplaces =>
      settingsPut_attention hs hr hkey hsettled hold hidle hA hB hplaces⟩

/-! ### Appends (R17, R18) -/

/-- A pulse taken leaves the sweep, the slots and all else that R17 reads. -/
theorem appends_pulseTaken (s : State) (l : Line) (i : ModuleIndex) :
    (pulseTaken (s.withLine l) i).appends i = s.appends i := by
  refine appends_congr rfl (fun _ => rfl) rfl ?_
  rw [pulseTaken_entry, if_pos rfl]
  rfl

/-- The sweep after a module appended, or weighed and left (R17). -/
theorem withAppended_pulseTaken (s : State) (l : Line) (i : ModuleIndex) :
    withAppended (pulseTaken (s.withLine l) i) i = withAppended s i := by
  have hent := pulseTaken_entry (s.withLine l) i i
  rw [if_pos rfl] at hent
  have hch : ((pulseTaken (s.withLine l) i).entry i).channel = (s.entry i).channel := (congrArg Entry.channel hent :)
  unfold withAppended
  rw [hch]
  rfl

theorem withAppended_listed (s : State) (i : ModuleIndex) :
    (s.withSweep (withAppended s i)).workList (s.entry i).channel ≠ [] := by
  show (s.sweep.lists.set (s.entry i).channel (s.workList (s.entry i).channel ++ [i])).get (s.entry i).channel ≠ []
  rw [PerChannel.get_set_same]
  simp

/-- A module weighed on a settled state: the end of the step recomputes the outputs alone (R12, R17). -/
theorem Settled.weighAppend_closeStep (h : Settled s) (i : ModuleIndex) :
    (s.weighAppend i).closeStep = (s.weighAppend i).recomputeOutputs := by
  rw [weighAppend_eq]
  refine State.closeStep_of_quiet h.not_reached ?_
  split
  · exact State.sweepDone_of_listed (withAppended_listed s i)
  · exact h.2.1

/-- A pulse while a sweep runs or halts appends its module where R17 says so (R17, R150). -/
theorem busyPulse (hs : Settled s) (hbusy : s.sweep.state ≠ .idle) (hp : pulseOf s w i) :
    ∃ t, exec (.attentionPulse w) s = .next t
      ∧ (appendsNow s i → t.sweep = withAppended s i) ∧ (¬ appendsNow s i → t.sweep = s.sweep)
      ∧ t.entry i = { s.entry i with attention := true } ∧ (∀ j, j ≠ i → t.entry j = s.entry j)
      ∧ t.link = (noticed s (.attention i)).link ∧ t.slots = s.slots ∧ t.history = s.history := by
  obtain ⟨l, hx⟩ := exec_attentionPulse hp
  have hweigh : (s.withLine l).recognise i = (pulseTaken (s.withLine l) i).weighAppend i := if_neg hbusy
  rw [hweigh, (hs.pulseTaken l i).weighAppend_closeStep i, weighAppend_eq, appends_pulseTaken,
    withAppended_pulseTaken] at hx
  have hent := pulseTaken_entry (s.withLine l) i
  refine ⟨_, hx, fun ha => ?_, fun hn => ?_, (hent i).trans (if_pos rfl), fun j hj => (hent j).trans (if_neg hj), rfl, rfl, rfl⟩
  · exact if_pos ((appends_iff s i).mpr ha)
  · exact if_neg (fun ha => hn ((appends_iff s i).mp ha))

/-- The end of a dialog for a module flagged again weighs its append (R18). -/
theorem endedDialog_appends (hs : Settled s) {command : Instr} (he : endsDialog s c i e command)
    (hm : (s.slot c).module = some i) (ho : otherWork s c) (hflag : (s.entry i).attention = true) :
    ∃ t, exec command s = .next t ∧ (t.entry i).attention = true ∧ t.slot c = {}
      ∧ (appendsNow (reachedOver s c i) i →
          t.sweep.lists = (withAppended (reachedOver s c i) i).lists
            ∧ t.sweep.appended = (withAppended (reachedOver s c i) i).appended)
      ∧ (¬ appendsNow (reachedOver s c i) i →
          t.sweep.lists = s.sweep.lists ∧ t.sweep.appended = s.sweep.appended) := by
  obtain ⟨v, hx, hover⟩ := endsDialog_over hs hm he
  have hy := hover.closeStep_yieldOnly hs ho
  have hlists : v.closeStep.sweep.lists = (overSweep s c i).lists :=
    (congrArg Sweep.lists hy.sweep).trans (congrArg Sweep.lists hover.sweep :)
  have happended : v.closeStep.sweep.appended = (overSweep s c i).appended :=
    (congrArg Sweep.appended hy.sweep).trans (congrArg Sweep.appended hover.sweep :)
  obtain ⟨r, hr⟩ := hover.entry
  refine ⟨_, hx, ?_, (State.slot_congr hy.slots c).trans hover.slot, fun ha => ?_, fun hn => ?_⟩
  · rw [State.entry_congr hy.table, hr]
    exact hflag
  · have hover' : overSweep s c i = withAppended (reachedOver s c i) i := if_pos ⟨hflag, (appends_iff _ i).mpr ha⟩
    rw [hlists, happended, hover']
    exact ⟨rfl, rfl⟩
  · have hover' : overSweep s c i = s.sweep := if_neg fun ha => hn ((appends_iff _ i).mp ha.2)
    rw [hlists, happended, hover']
    exact ⟨rfl, rfl⟩

theorem pulsesAppendReachedModules : PulsesAppendReachedModules := fun _ _ hs =>
  ⟨fun _ hbusy hp => busyPulse hs hbusy hp, fun _ _ _ he hm ho hflag _ => endedDialog_appends hs he hm ho hflag⟩

/-- Settles O40: the attention check by the start of its sweep, the appends by R17 read before and after a dialog. -/
theorem attentionSweepsAndAppends : Obligations.AttentionSweepsAndAppends :=
  ⟨attentionCheckStartsASweep, pulsesAppendReachedModules⟩

end Sys2Proof.Claim
end

section
/-! What a halt does to the slots, channel by channel (R13, R14). -/

namespace Sys2Proof.Claim

open Sys2Proof.Machine

variable {s t u v : State} {c d : Channel} {i : ModuleIndex} {p q : Channel → Prop}

/-! ### What the halt of one slot leaves -/

/-- The slot of a channel, its frames and its controller are the same in two states. -/
structure SameAt (c : Channel) (s t : State) : Prop where
  slot : t.slot c = s.slot c
  waiting : t.waitingFrames c = s.waitingFrames c
  can : ∀ k : CanChannel, k.toChannel = c → t.canCtl k = s.canCtl k
  line : c = .s → t.line = s.line

namespace SameAt

theorem refl (c : Channel) (s : State) : SameAt c s s := ⟨rfl, rfl, fun _ _ => rfl, fun _ => rfl⟩

theorem trans (h : SameAt c s t) (k : SameAt c t u) : SameAt c s u :=
  ⟨k.slot.trans h.slot, k.waiting.trans h.waiting, fun x hx => (k.can x hx).trans (h.can x hx),
    fun hc => (k.line hc).trans (h.line hc)⟩

theorem of_framesOf (h : State.FramesOf d s t) (hc : c ≠ d) : SameAt c s t :=
  ⟨State.slot_congr h.only.slots c, h.waiting c hc, fun k hk => h.can k (hk ▸ hc),
    fun hs => h.line fun hd => hc (hs.trans hd.symm)⟩

theorem frameWaiting (h : SameAt c s t) : t.frameWaiting c = s.frameWaiting c := by
  cases c
  · rw [State.frameWaiting, State.frameWaiting]
    dsimp only [canOf]
    rw [h.can .a rfl]
  · rw [State.frameWaiting, State.frameWaiting]
    dsimp only [canOf]
    rw [h.can .b rfl]
  · exact congrArg Line.holding (h.line rfl)

theorem frameInProgress (h : SameAt c s t) : t.frameInProgress c = s.frameInProgress c := by
  cases c
  · rw [State.frameInProgress, State.frameInProgress]
    dsimp only [canOf]
    rw [h.can .a rfl]
  · rw [State.frameInProgress, State.frameInProgress]
    dsimp only [canOf]
    rw [h.can .b rfl]
  · exact congrArg Line.driving (h.line rfl)

theorem destination (h : SameAt c s t) {x y : Entry} (he : y.configured = x.configured) :
    destinationOf t c y = destinationOf s c x := by
  simp only [Entry.configured, Prod.mk.injEq] at he
  obtain ⟨-, -, ha, -, -, -, -, -, hl, -⟩ := he
  cases c
  · show Destination.can ((t.canCtl .a).requestBase + _) = .can ((s.canCtl .a).requestBase + _)
    rw [h.can .a rfl, ha]
  · show Destination.can ((t.canCtl .b).requestBase + _) = .can ((s.canCtl .b).requestBase + _)
    rw [h.can .b rfl, ha]
  · show Destination.line _ _ = .line _ _
    rw [ha, hl]

end SameAt

/-- A module has its ABORTED in the running sweep (R8). -/
def abortedIn (s : State) (i : ModuleIndex) : Prop :=
  (s.entry i).lastOutcome = some .aborted ∧ (s.entry i).lastSweep = s.sweep.number ∧ s.sweep.reached[i] = true

/-- `t` is `s` after slots have been halted, none of them on a channel that `p` names (R14). -/
structure Halts (p : Channel → Prop) (s t : State) : Prop where
  same : ∀ c, p c → SameAt c s t
  slots : ∀ c, t.slot c = s.slot c ∨ (t.slot c).state = .free
  share : t.share = s.share
  sweep : t.sweep = { s.sweep with reached := t.sweep.reached, counts := t.sweep.counts }
  marks : ∀ i, abortedIn s i → abortedIn t i
  entries : ∀ i, s.inSlot i = false → t.entry i = s.entry i
  history : t.history = s.history

namespace Halts

theorem refl (p : Channel → Prop) (s : State) : Halts p s s :=
  ⟨fun c _ => .refl c s, fun _ => .inl rfl, rfl, rfl, fun _ => id, fun _ _ => rfl, rfl⟩

theorem inSlot (h : Halts p s t) (hi : s.inSlot i = false) : t.inSlot i = false := by
  have hne : ∀ c, (decide ((t.slot c).state ≠ .free) && (t.slot c).module == some i) = false := by
    intro c
    have hs : (decide ((s.slot c).state ≠ .free) && (s.slot c).module == some i) = false := by
      simp only [State.inSlot, allChannels, List.any_cons, List.any_nil, Bool.or_eq_false_iff] at hi
      obtain ⟨ha, hb, hs, -⟩ := hi
      cases c <;> assumption
    rcases h.slots c with hc | hc
    · rwa [hc]
    · rw [hc]
      rfl
  simp only [State.inSlot, allChannels, List.any_cons, List.any_nil, hne, Bool.or_false]

theorem trans (h : Halts p s t) (k : Halts p t u) : Halts p s u where
  same c hc := (h.same c hc).trans (k.same c hc)
  slots c := by
    rcases k.slots c with hu | hu
    · rw [hu]
      exact h.slots c
    · exact .inr hu
  share := k.share.trans h.share
  sweep := by rw [k.sweep, h.sweep]
  marks i hi := k.marks i (h.marks i hi)
  entries i hi := (k.entries i (h.inSlot hi)).trans (h.entries i hi)
  history := k.history.trans h.history

theorem mono (h : Halts p s t) (hq : ∀ c, q c → p c) : Halts q s t := { h with same := fun c hc => h.same c (hq c hc) }

theorem abortedIn_of_same (hw : t.sweep = s.sweep) (ht : t.table = s.table) (h : abortedIn s i) : abortedIn t i := by
  rw [abortedIn, hw, State.entry_congr ht]
  exact h

theorem of_framesOf (h : State.FramesOf d s t) : Halts (· ≠ d) s t where
  same _ hc := .of_framesOf h hc
  slots c := .inl (State.slot_congr h.only.slots c)
  share := h.only.share
  sweep := by rw [h.only.sweep]
  marks _ := abortedIn_of_same h.only.sweep h.only.table
  entries i _ := State.entry_congr h.only.table i
  history := h.only.history

theorem withSlot_clear (s : State) (d : Channel) : Halts (· ≠ d) s (s.withSlot d {}) where
  same c hc := ⟨State.slot_withSlot_other s hc {}, rfl, fun _ _ => rfl, fun _ => rfl⟩
  slots c := by
    by_cases hc : c = d
    · subst hc
      exact .inr (congrArg Slot.state (State.slot_withSlot s c {}))
    · exact .inl (State.slot_withSlot_other s hc {})
  share := rfl
  sweep := rfl
  marks _ := id
  entries _ _ := rfl
  history := rfl

theorem freeSlot (s : State) (d : Channel) : Halts (· ≠ d) s (s.freeSlot d) :=
  (withSlot_clear s d).trans (of_framesOf (.freeSlot s d))

/-- The ABORTED of the module that a slot holds (R8). -/
theorem recordOutcome (hb : (s.slot d).state ≠ .free) (hm : (s.slot d).module = some i) (pages refused : Nat) :
    Halts (· ≠ d) s (s.recordOutcome i .aborted pages refused) := by
  have hother : ∀ j, j ≠ i → (s.recordOutcome i .aborted pages refused).entry j = s.entry j := fun j hj => by
    simpa [State.recordOutcome, State.entry] using Vector.getElem_set_ne _ _ (Fin.val_ne_of_ne (Ne.symm hj))
  have hself : (s.recordOutcome i .aborted pages refused).entry i =
      { s.entry i with lastOutcome := some .aborted, lastSweep := s.sweep.number } := State.entry_withEntry _ _ _
  have hreached : (s.recordOutcome i .aborted pages refused).sweep.reached = s.sweep.reached.set i true := rfl
  refine ⟨fun _ _ => ⟨rfl, rfl, fun _ _ => rfl, fun _ => rfl⟩, fun _ => .inl rfl, rfl, rfl, fun j hj => ?_, fun j hj => ?_,
    rfl⟩
  · obtain ⟨ho, hn, hr⟩ := hj
    by_cases hji : j = i
    · subst hji
      refine ⟨congrArg Entry.lastOutcome hself, congrArg Entry.lastSweep hself, ?_⟩
      rw [hreached]
      simp
    · refine ⟨(congrArg Entry.lastOutcome (hother j hji)).trans ho, (congrArg Entry.lastSweep (hother j hji)).trans hn, ?_⟩
      rw [hreached]
      exact (Vector.getElem_set_ne _ _ (Fin.val_ne_of_ne (Ne.symm hji))).trans hr
  · refine hother j fun hji => ?_
    subst hji
    have hin : s.inSlot j = true := List.any_eq_true.mpr ⟨d, by cases d <;> simp [allChannels], by simp [hb, hm]⟩
    exact absurd (hj.symm.trans hin) (by decide)

/-- A dialog that ends ABORTED while no sweep runs appends nothing (R14, R17). -/
theorem endDialog (hb : (s.slot d).state ≠ .free) (hn : s.sweep.state ≠ .running) :
    Halts (· ≠ d) s (s.endDialog d .aborted) := by
  have hf := s.leaveFrames_frames d
  have hslot : (s.leaveFrames d).slot d = s.slot d := State.slot_congr hf.only.slots d
  have hw : (s.leaveFrames d).sweep = s.sweep := hf.only.sweep
  rw [State.endDialog_eq]
  refine (of_framesOf hf).trans ?_
  generalize s.leaveFrames d = u at *
  unfold State.passOutcome
  dsimp only
  split
  · exact freeSlot u d
  · next i hm =>
    have hrec : Halts (· ≠ d) u ((u.recordOutcome i .aborted (u.slot d).pagesRead (u.slot d).refused).freeSlot d) :=
      (recordOutcome (by rwa [hslot]) hm _ _).trans (freeSlot _ d)
    have happ : ((u.recordOutcome i .aborted (u.slot d).pagesRead (u.slot d).refused).freeSlot d).appends i = false := by
      rw [Bool.eq_false_iff, Ne, appends_iff]
      rintro ⟨hr, -⟩
      rw [(congrArg Sweep.state hrec.sweep :), hw] at hr
      exact hn hr
    rw [weighAppend_eq, happ]
    split <;> exact hrec

end Halts

/-! ### The halt of one slot (R14) -/

/-- A slot that a halt ends at once: REFERRED, PARKED or at a boundary (R14). -/
def haltEnds (s : State) (c : Channel) : Prop :=
  (s.slot c).state = .referred ∨ (s.slot c).state = .parked ∨ ((s.slot c).state ≠ .free ∧ ¬ inExchangeUnit s c)

theorem haltEnds.busy (h : haltEnds s c) : (s.slot c).state ≠ .free := by
  rcases h with h | h | h
  · rw [h]
    decide
  · rw [h]
    decide
  · exact h.1

theorem inExchange_iff (s : State) (c : Channel) : s.inExchange c = true ↔ inExchangeUnit s c := by
  unfold State.inExchange inExchangeUnit
  cases s.frameInProgress c <;> simp [Option.isSome_iff_ne_none, or_assoc]

theorem frameInProgress_withdraw (s : State) (c : Channel) : (s.withdraw c).frameInProgress c = s.frameInProgress c := by
  have hk : ∀ k : CanChannel, (s.withdraw k.toChannel).frameInProgress k.toChannel = s.frameInProgress k.toChannel := by
    intro k
    have ho : canOf k.toChannel = some k := by cases k <;> rfl
    simp only [State.frameInProgress, ho, State.canCtl_withdraw]
    cases (s.canCtl k).holding <;> rfl
  cases c
  · exact hk .a
  · exact hk .b
  · rfl

theorem frameWaiting_withdraw (s : State) (c : Channel) : (s.withdraw c).frameWaiting c = none :=
  State.frameWaiting_emptyHolding _ c

theorem slot_withdraw (s : State) (c d : Channel) : (s.withdraw c).slot d = s.slot d :=
  State.slot_congr (State.FramesOf.withdraw s c).only.slots d

theorem inExchange_withdraw (s : State) (c : Channel) : (s.withdraw c).inExchange c = s.inExchange c := by
  unfold State.inExchange
  rw [slot_withdraw, frameInProgress_withdraw]

theorem haltSlot_of_free (h : (s.slot c).state = .free) : s.haltSlot c = s := by
  unfold State.haltSlot
  rw [h]

/-- A slot that a halt ends: its unstarted frames withdrawn unless it is PARKED, its dialog ended (R14). -/
theorem haltSlot_of_ends (h : haltEnds s c) :
    s.haltSlot c = (if (s.slot c).state = .parked then s else s.withdraw c).endDialog c .aborted := by
  have hex : (s.slot c).state ≠ .referred → (s.slot c).state ≠ .parked → (s.withdraw c).inExchange c = false := by
    intro hr hp
    rw [inExchange_withdraw, Bool.eq_false_iff, Ne, inExchange_iff]
    exact (h.resolve_left hr |>.resolve_left hp).2
  have hfree : (s.slot c).state ≠ .free := h.busy
  unfold State.haltSlot
  cases hst : (s.slot c).state <;> rw [hst] at hex hfree
  case free => exact absurd rfl hfree
  case parked => rfl
  case referred => rfl
  all_goals
    dsimp only
    rw [hex nofun nofun]
    rfl

/-- A slot that a halt leaves to its exchange unit keeps all but its unstarted frames (R14). -/
theorem haltSlot_of_exchange (he : inExchangeUnit s c) (hr : (s.slot c).state ≠ .referred)
    (hp : (s.slot c).state ≠ .parked) (hf : (s.slot c).state ≠ .free) : s.haltSlot c = s.withdraw c := by
  have hex : (s.withdraw c).inExchange c = true := by
    rw [inExchange_withdraw, inExchange_iff]
    exact he
  unfold State.haltSlot
  cases hst : (s.slot c).state
  case free => exact absurd hst hf
  case parked => exact absurd hst hp
  case referred => exact absurd hst hr
  all_goals exact if_pos hex

theorem haltEnds_or (s : State) (c : Channel) :
    (s.slot c).state = .free ∨ haltEnds s c
      ∨ (inExchangeUnit s c ∧ (s.slot c).state ≠ .referred ∧ (s.slot c).state ≠ .parked ∧ (s.slot c).state ≠ .free) := by
  by_cases hf : (s.slot c).state = .free
  · exact .inl hf
  · by_cases hr : (s.slot c).state = .referred
    · exact .inr (.inl (.inl hr))
    · by_cases hp : (s.slot c).state = .parked
      · exact .inr (.inl (.inr (.inl hp)))
      · by_cases he : inExchangeUnit s c
        · exact .inr (.inr ⟨he, hr, hp, hf⟩)
        · exact .inr (.inl (.inr (.inr ⟨hf, he⟩)))

/-- The halt of a slot leaves the other channels (R14). -/
theorem Halts.haltSlot (s : State) (d : Channel) (hn : s.sweep.state ≠ .running) : Halts (· ≠ d) s (s.haltSlot d) := by
  rcases haltEnds_or s d with h | h | ⟨he, hr, hp, hf⟩
  · rw [haltSlot_of_free h]
    exact .refl _ s
  · have hfree : (s.slot d).state ≠ .free := h.busy
    rw [haltSlot_of_ends h]
    split
    · exact .endDialog hfree hn
    · exact (of_framesOf (.withdraw s d)).trans (.endDialog (by rwa [slot_withdraw])
        (by rwa [(State.FramesOf.withdraw s d).only.sweep]))
  · rw [haltSlot_of_exchange he hr hp hf]
    exact of_framesOf (.withdraw s d)

/-- A slot that a halt ends holds no module from then on: its module is ABORTED, with BYE on an OPEN channel (R14). -/
theorem haltSlot_ended (h : haltEnds s c) (hm : (s.slot c).module = some i) :
    (s.haltSlot c).slot c = {} ∧ abortedIn (s.haltSlot c) i
      ∧ (s.shareState c = .opened → s.frameInProgress c = none → (s.slot c).state ≠ .parked →
          (s.haltSlot c).frameWaiting c = some ⟨.bye, destinationOf s c (s.entry i), none, false⟩)
      ∧ (s.shareState c ≠ .opened → (s.haltSlot c).waitingFrames c = [] ∨ (s.slot c).state = .parked) := by
  rw [haltSlot_of_ends h]
  obtain ⟨w, hw, hwm, hkeep⟩ : ∃ w, (if (s.slot c).state = .parked then s else s.withdraw c) = w
      ∧ (w.slot c).module = some i
      ∧ ((s.slot c).state ≠ .parked → w = s.withdraw c) := by
    refine ⟨_, rfl, ?_, fun hp => if_neg hp⟩
    split
    · exact hm
    · rwa [slot_withdraw]
  rw [hw]
  have hover : DialogOver w c i (endOf w c .aborted) (w.endDialog c .aborted) :=
    (EndsFrom.refl hwm .aborted).over ((State.Works.refl w).endDialog c _)
  obtain ⟨r, hr⟩ := hover.entry
  refine ⟨hover.slot, ⟨(congrArg Entry.lastOutcome hr :), ?_, ?_⟩, fun ho hf hp => ?_, fun ho => ?_⟩
  · exact (congrArg Entry.lastSweep hr :).trans (congrArg Sweep.number hover.sweep :).symm
  · rw [hover.sweep]
    simp
  · obtain rfl := hkeep hp
    have hframes := State.FramesOf.withdraw s c
    have hempty : nothingWaits (s.withdraw c) c := by
      refine ⟨?_, State.waitingFrames_withdraw s c⟩
      rw [State.holdingEmpty, frameInProgress_withdraw, frameWaiting_withdraw, hf]
      rfl
    have hbye := hover.bye ((State.shareState_congr hframes.only.share c).trans ho) hempty
    rw [holds_iff_frameWaiting.mp hbye, State.entry_congr hframes.only.table]
    congr 2
    cases c
    · show Destination.can (((s.withdraw CanChannel.a.toChannel).canCtl .a).requestBase + _) = _
      rw [State.canCtl_withdraw]
      rfl
    · show Destination.can (((s.withdraw CanChannel.b.toChannel).canCtl .b).requestBase + _) = _
      rw [State.canCtl_withdraw]
      rfl
    · rfl
  · by_cases hp : (s.slot c).state = .parked
    · exact .inr hp
    · obtain rfl := hkeep hp
      have hout := (hover.withoutBye (by rwa [State.shareState_congr (State.FramesOf.withdraw s c).only.share])).1
      rw [stillToHand, State.waitingFrames_withdraw] at hout
      exact .inl hout

end Sys2Proof.Claim
end

section
/-! A halt taken while a sweep runs, over the three slots and the end of the step (R12 to R14). -/

namespace Sys2Proof.Claim

open Sys2Proof.Machine

variable {s t u v : State} {c d : Channel} {i : ModuleIndex} {p : Channel → Prop}

/-! ### The three slots (R14) -/

/-- The slots halted in turn, with the controller HALTING already (R14). -/
def haltSlots (s : State) : State := ((s.haltSlot .a).haltSlot .b).haltSlot .s

theorem Halts.beside (hn : s.sweep.state ≠ .running) (hd : c ≠ d) : Halts (· = c) s (s.haltSlot d) :=
  (Halts.haltSlot s d hn).mono fun _ hx => hx ▸ hd

theorem Halts.not_running (h : Halts p s t) (hn : s.sweep.state ≠ .running) : t.sweep.state ≠ .running := by
  rwa [(congrArg Sweep.state h.sweep :)]

/-- Around the halt of one slot the halts of the others leave its channel alone (R14). -/
theorem haltSlots_around (hn : s.sweep.state ≠ .running) (c : Channel) :
    ∃ u, s.Works u ∧ Halts (· = c) s u ∧ Halts (· = c) (u.haltSlot c) (haltSlots s) := by
  have hna := (Halts.haltSlot s .a hn).not_running hn
  have hnb := (Halts.haltSlot (s.haltSlot .a) .b hna).not_running hna
  unfold haltSlots
  cases c
  · exact ⟨s, .refl s, .refl _ s, (Halts.beside hna (by decide)).trans (.beside hnb (by decide))⟩
  · exact ⟨s.haltSlot .a, (State.Works.refl s).haltSlot .a, .beside hn (by decide), .beside hnb (by decide)⟩
  · exact ⟨(s.haltSlot .a).haltSlot .b, ((State.Works.refl s).haltSlot .a).haltSlot .b, (Halts.beside hn (by decide)).trans (.beside hna (by decide)), .refl _ _⟩

/-- The three slots halted: what a halt leaves of them (R14). -/
theorem Halts.haltSlots (hn : s.sweep.state ≠ .running) : Halts (fun _ => False) s (haltSlots s) := by
  have hna := (Halts.haltSlot s .a hn).not_running hn
  have hnb := (Halts.haltSlot (s.haltSlot .a) .b hna).not_running hna
  have hmono : ∀ {d : Channel} {x y : State}, Halts (· ≠ d) x y → Halts (fun _ => False) x y :=
    fun h => h.mono fun _ => False.elim
  exact ((hmono (.haltSlot s .a hn)).trans (hmono (.haltSlot _ .b hna))).trans (hmono (.haltSlot _ .s hnb))

theorem State.Works.haltSlots (s : State) : s.Works (haltSlots s) :=
  (((State.Works.refl s).haltSlot .a).haltSlot .b).haltSlot .s

theorem haltSlots_of_free (h : ∀ c, (s.slot c).state = .free) : haltSlots s = s := by
  rw [haltSlots, haltSlot_of_free (h .a), haltSlot_of_free (h .b), haltSlot_of_free (h .s)]

theorem SameAt.inExchangeUnit_iff (h : SameAt c s t) : inExchangeUnit t c ↔ inExchangeUnit s c := by
  rw [inExchangeUnit, inExchangeUnit, h.slot, h.frameInProgress]

theorem SameAt.haltEnds_iff (h : SameAt c s t) : haltEnds t c ↔ haltEnds s c := by
  rw [haltEnds, haltEnds, h.slot, h.inExchangeUnit_iff]

/-- A slot left to its exchange unit stays as it is (R14). -/
theorem haltSlots_kept (hn : s.sweep.state ≠ .running) (he : inExchangeUnit s c) (hr : (s.slot c).state ≠ .referred)
    (hp : (s.slot c).state ≠ .parked) (hf : (s.slot c).state ≠ .free) : (haltSlots s).slot c = s.slot c := by
  obtain ⟨u, -, hu, ht⟩ := haltSlots_around hn c
  have hsu := hu.same c rfl
  rw [(ht.same c rfl).slot, haltSlot_of_exchange (hsu.inExchangeUnit_iff.mpr he) (by rwa [hsu.slot])
    (by rwa [hsu.slot]) (by rwa [hsu.slot]), slot_withdraw, hsu.slot]

/-- The module of a slot that the halt ends is ABORTED, with BYE on an OPEN channel (R14). -/
theorem haltSlots_ended (hn : s.sweep.state ≠ .running) (h : haltEnds s c) (hm : (s.slot c).module = some i) :
    (haltSlots s).slot c = {} ∧ abortedIn (haltSlots s) i
      ∧ (s.shareState c = .opened → s.frameInProgress c = none → (s.slot c).state ≠ .parked →
          (haltSlots s).frameWaiting c = some ⟨.bye, destinationOf s c (s.entry i), none, false⟩)
      ∧ (s.shareState c ≠ .opened → (haltSlots s).waitingFrames c = [] ∨ (s.slot c).state = .parked) := by
  obtain ⟨u, hworks, hu, ht⟩ := haltSlots_around hn c
  have hsu := hu.same c rfl
  have hst := ht.same c rfl
  obtain ⟨hslot, hmark, hbye, hwait⟩ := haltSlot_ended (hsu.haltEnds_iff.mpr h) (by rwa [hsu.slot])
  rw [State.shareState_congr hu.share, hsu.slot] at hbye hwait
  rw [hsu.frameInProgress, hsu.destination (hworks.configured i)] at hbye
  rw [hst.slot, hst.frameWaiting, hst.waiting]
  exact ⟨hslot, ht.marks i hmark, hbye, hwait⟩

theorem slot_endDialog (s : State) (c : Channel) (o : SweepOutcome) : (s.endDialog c o).slot c = {} := by
  have hfree : ∀ u : State, (u.freeSlot c).slot c = {} := fun u => State.slot_freeSlot u c
  rw [State.endDialog_eq]
  unfold State.passOutcome
  dsimp only
  split
  · exact hfree _
  · rw [weighAppend_eq]
    split <;> exact hfree _

/-- No slot is PARKED after a halt (R14). -/
theorem haltSlots_not_parked (hn : s.sweep.state ≠ .running) (c : Channel) : ((haltSlots s).slot c).state ≠ .parked := by
  obtain ⟨u, -, -, ht⟩ := haltSlots_around hn c
  rw [(ht.same c rfl).slot]
  rcases haltEnds_or u c with hf | he | ⟨he, hr, hp, hf⟩
  · rw [haltSlot_of_free hf, hf]
    decide
  · rw [haltSlot_of_ends he, slot_endDialog]
    decide
  · rwa [haltSlot_of_exchange he hr hp hf, slot_withdraw]

/-! ### The end of the step (R12, R156) -/

/-- With no slot PARKED the yields of the end of a step reach FREE slots alone (R156). -/
theorem yieldsOnly (hp : ∀ c, (s.slot c).state ≠ .parked) : s.YieldOnly (allChannels.foldl State.yieldSettle s) := by
  have hone : ∀ {x : State}, s.YieldOnly x → ∀ c, s.YieldOnly (x.yieldSettle c) := by
    intro x hx c
    by_cases hr : x.yieldReached c
    · have hslot := State.slot_congr hx.slots c
      refine hx.trans (.yieldSettle ?_)
      exact hr.2.resolve_right (by rw [hslot]; exact hp c)
    · rwa [State.yieldSettle_of_not_reached hr]
  exact hone (hone (hone (.refl s) .a) .b) .s

/-- The controller after the end of a step under a halt with no list left: IDLE where every slot is FREE (R12, R13). -/
def haltedSweep (s : State) : Sweep :=
  { s.sweep with state := if s.sweepDone then .idle else .halting, haltTaken := !s.sweepDone }

/-- The end of a step under a halt changes shares, notices and the sweep controller alone (R12, R156). -/
theorem closeStep_of_halting (hstate : s.sweep.state = .halting) (htaken : s.sweep.haltTaken = true)
    (hp : ∀ c, (s.slot c).state ≠ .parked) :
    s.closeStep.sweep = haltedSweep s ∧ s.closeStep.slots = s.slots ∧ s.closeStep.table = s.table
      ∧ s.closeStep.toHand = s.toHand ∧ s.closeStep.history = s.history
      ∧ ∀ c, s.closeStep.frameWaiting c = s.frameWaiting c := by
  have hy := yieldsOnly hp
  have hdone := hy.sweepDone
  unfold State.closeStep haltedSweep
  generalize allChannels.foldl State.yieldSettle s = y at *
  cases hd : s.sweepDone
  · rw [State.settleSweep_of_not_done (hdone.trans hd)]
    have hsame : { s.sweep with state := .halting, haltTaken := true } = s.sweep := by
      rw [← hstate, ← htaken]
    exact ⟨hy.sweep.trans hsame.symm, hy.slots, hy.table, hy.toHand, hy.history, hy.waiting⟩
  · rw [State.settleSweep_halted (hdone.trans hd) ((congrArg Sweep.haltTaken hy.sweep).trans htaken)]
    refine ⟨?_, hy.slots, hy.table, hy.toHand, hy.history, hy.waiting⟩
    show { y.sweep with state := .idle, haltTaken := false } = _
    rw [hy.sweep]
    rfl

/-! ### HALT (R13) -/

/-- The state of a HALT as its halt is taken: the reply queued, the controller HALTING, the lists empty (R13). -/
def haltBegun (s : State) : State :=
  ((s.withLink { s.link with inService := some ⟨0x10, []⟩ }).reply 0x10 .done).withSweep
    { s.sweep with state := .halting, haltTaken := true, lists := ⟨[], [], []⟩ }

/-- A HALT while no sweep runs is its reply alone (R13). -/
theorem exec_halt_ignored (hr : Ready s) (hn : s.sweep.state ≠ .running) :
    exec (.halt []) s = .next (answered s 0x90 .done) :=
  congrArg Host.Outcome.next (takeRequest_reply hr _ _ 0x10 .done [] (if_neg hn))

theorem exec_halt (hr : Ready s) (hrun : s.sweep.state = .running) :
    exec (.halt []) s = .next (served (haltSlots (haltBegun s)).closeStep) :=
  congrArg Host.Outcome.next (exec_served hr (if_pos hrun))

theorem haltBegun_not_running (s : State) : (haltBegun s).sweep.state ≠ .running := nofun

theorem noticesHeld_haltBegun (s : State) : (haltBegun s).link.noticesHeld = s.link.noticesHeld :=
  noticesHeld_reply (s.withLink { s.link with inService := some ⟨0x10, []⟩ }) 0x10 .done []

/-- The controller of a halt, after its step (R12, R13). -/
theorem halted_sweep (s : State) :
    ∃ t, haltSlots (haltBegun s) = t ∧ t.closeStep.sweep = haltedSweep t ∧ t.sweep.lists = ⟨[], [], []⟩
      ∧ t.sweep.number = s.sweep.number ∧ t.closeStep.slots = t.slots ∧ t.closeStep.table = t.table
      ∧ t.closeStep.toHand = t.toHand ∧ t.closeStep.history = s.history
      ∧ (∀ c, t.closeStep.frameWaiting c = t.frameWaiting c)
      ∧ (t.sweepDone = true ↔ ∀ c, (t.slot c).state = .free) := by
  have hh := Halts.haltSlots (haltBegun_not_running s)
  have hstate : (haltSlots (haltBegun s)).sweep.state = .halting := (congrArg Sweep.state hh.sweep :)
  have hlists : (haltSlots (haltBegun s)).sweep.lists = ⟨[], [], []⟩ := (congrArg Sweep.lists hh.sweep :)
  obtain ⟨hw, hslots, htable, hhand, hhist, hwait⟩ := closeStep_of_halting hstate
    (congrArg Sweep.haltTaken hh.sweep :) (haltSlots_not_parked (haltBegun_not_running s))
  refine ⟨_, rfl, hw, hlists, (congrArg Sweep.number hh.sweep :), hslots, htable, hhand, hhist.trans hh.history, hwait, ?_⟩
  rw [State.sweepDone_iff, hstate]
  refine ⟨fun h c => (h.2 c).2, fun h => ⟨nofun, fun c => ⟨?_, h c⟩⟩⟩
  rw [State.workList, hlists]
  cases c <;> rfl

/-- With every slot FREE a halt ends the sweep within its step (R12, R13). -/
theorem halt_of_free (hs : Settled s) (hf : ∀ c, (s.slot c).state = .free) :
    (haltSlots (haltBegun s)).closeStep = ((haltBegun s).endSweep .halted).recomputeOutputs := by
  have hquiet : ∀ c, ¬ (haltBegun s).yieldReached c := hs.not_reached
  have hdone : (haltBegun s).sweepDone = true :=
    (State.sweepDone_iff _).mpr ⟨nofun, fun c => ⟨by cases c <;> rfl, hf c⟩⟩
  rw [haltSlots_of_free (s := haltBegun s) hf, State.closeStep, State.yieldSettle_only (c := .a) (fun d _ => hquiet d),
    State.yieldSettle_of_not_reached (hquiet .a), State.settleSweep_halted hdone rfl]

/-! ### The obligation -/

/-- With every slot FREE the sweep controller and the notices after a HALT (R12, R13). -/
theorem halt_of_free_ends (hs : Settled s) (hf : ∀ c, (s.slot c).state = .free) :
    (haltSlots (haltBegun s)).closeStep.sweep = { s.sweep with state := .idle, haltTaken := false, lists := ⟨[], [], []⟩ }
      ∧ (s.link.noticesHeld < 12 → (haltSlots (haltBegun s)).closeStep.link.outbound = s.link.outbound ++
          [.reply 0x90 .done [],
            .notice (.sweepEnd .halted s.sweep.number s.sweep.kind s.sweep.counts s.sweep.created
              s.sweep.updated s.sweep.refused)]) := by
  rw [halt_of_free hs hf]
  refine ⟨rfl, fun hroom => ?_⟩
  have hout : (haltBegun s).link.outbound = s.link.outbound ++ [.reply 0x90 .done []] := rfl
  have hlink := congrArg Link.outbound (Link.notify_room (l := (haltBegun s).link)
    ((noticesHeld_haltBegun s).trans_lt hroom) (.sweepEnd .halted s.sweep.number s.sweep.kind s.sweep.counts
      s.sweep.created s.sweep.updated s.sweep.refused))
  refine hlink.trans ?_
  rw [hout, List.append_assoc]
  rfl

/-- `t` is `s` after a HALT taken while a sweep ran, by its lists, its slots and what it reports (R12 to R14). -/
structure HaltTaken (s t : State) : Prop where
  outbound : s.link.outbound ++ [.reply 0x90 .done []] <+: t.link.outbound
  lists : t.sweep.lists = ⟨[], [], []⟩
  idle : (∀ c, (t.slot c).state = .free) → t.sweep.state = .idle ∧ t.sweep.haltTaken = false
  halting : ∀ c, (t.slot c).state ≠ .free → t.sweep.state = .halting ∧ t.sweep.haltTaken = true
  entries : ∀ i, s.inSlot i = false → t.entry i = s.entry i
  kept : ∀ c, inExchangeUnit s c → (s.slot c).state ≠ .referred → (s.slot c).state ≠ .parked →
    (s.slot c).state ≠ .free → t.slot c = s.slot c
  ended : ∀ c i, (s.slot c).module = some i → haltEnds s c → t.slot c = {} ∧ abortedIn t i
  frames : ∀ c i, (s.slot c).module = some i → haltEnds s c →
    (s.shareState c = .opened → s.frameInProgress c = none → (s.slot c).state ≠ .parked →
        holds s t c (s.entry i) .bye none false)
      ∧ (s.shareState c ≠ .opened → t.waitingFrames c = [] ∨ (s.slot c).state = .parked)
  number : t.sweep.number = s.sweep.number
  own : t.store = s.store ∧ t.clock = s.clock ∧ t.settings = s.settings ∧ t.key = s.key ∧ t.history = s.history

theorem haltedSweep_eq (s : State) :
    (haltedSweep s).lists = s.sweep.lists ∧ (haltedSweep s).number = s.sweep.number
      ∧ (haltedSweep s).reached = s.sweep.reached := ⟨rfl, rfl, rfl⟩

theorem haltedSweep_idle (h : s.sweepDone = true) : (haltedSweep s).state = .idle ∧ (haltedSweep s).haltTaken = false := by
  simp [haltedSweep, h]

theorem haltedSweep_halting (h : ¬ s.sweepDone = true) :
    (haltedSweep s).state = .halting ∧ (haltedSweep s).haltTaken = true := by
  simp [haltedSweep, Bool.not_eq_true _ ▸ h]

/-- What a HALT does while a sweep runs (R12 to R14). -/
theorem haltTaken (s : State) : HaltTaken s (haltSlots (haltBegun s)).closeStep := by
  have hn := haltBegun_not_running s
  have hworks : (haltBegun s).Works (haltSlots (haltBegun s)).closeStep := (State.Works.haltSlots _).closeStep
  have hreply : (haltBegun s).link.outbound = s.link.outbound ++ [.reply 0x90 .done []] := rfl
  have hkept : ∀ c, inExchangeUnit s c → (s.slot c).state ≠ .referred → (s.slot c).state ≠ .parked →
      (s.slot c).state ≠ .free → (haltSlots (haltBegun s)).slot c = s.slot c := fun c => haltSlots_kept hn
  have hended := fun (c : Channel) (i : ModuleIndex) (hm : (s.slot c).module = some i) (he : haltEnds s c) =>
    haltSlots_ended (s := haltBegun s) (c := c) (i := i) hn he hm
  have hentries : ∀ i, s.inSlot i = false → (haltSlots (haltBegun s)).entry i = s.entry i :=
    (Halts.haltSlots hn).entries
  obtain ⟨x, hx, hsweep, hlists, hnum, hslots, htable, hhand, hhist, hwait, hdone⟩ := halted_sweep s
  rw [hx] at hworks hkept hended hentries ⊢
  obtain ⟨hwlists, hwnum, hwreached⟩ := haltedSweep_eq x
  have hslot := State.slot_congr hslots
  have hent := State.entry_congr htable
  generalize x.closeStep = z at *
  have hstore : z.store = s.store := hworks.store
  have hclock : z.clock = s.clock := hworks.clock
  have hset : z.settings = s.settings := hworks.settings
  have hkey : z.key = s.key := hworks.key
  have hout := outbound_of_works hworks
  rw [hreply] at hout
  refine ⟨hout, ?_, fun hf => ?_, fun c hb => ?_, fun i hi => (hent i).trans (hentries i hi),
    fun c he hr hp hf => (hslot c).trans (hkept c he hr hp hf), fun c i hm he => ?_, fun c i hm he => ⟨fun ho hf hp => ?_, fun ho => ?_⟩,
    ?_, hstore, hclock, hset, hkey, hhist⟩
  · rw [hsweep, hwlists, hlists]
  · rw [hsweep]
    exact haltedSweep_idle (hdone.mpr fun c => by rw [← hslot]; exact hf c)
  · rw [hsweep]
    exact haltedSweep_halting fun hd => hb (by rw [hslot]; exact hdone.mp hd c)
  · obtain ⟨hfree, ⟨ho, hl, hr⟩, -⟩ := hended c i hm he
    refine ⟨(hslot c).trans hfree, ?_⟩
    rw [abortedIn, hent, hsweep, hwnum, hwreached]
    exact ⟨ho, hl, hr⟩
  · obtain ⟨-, -, hbye, -⟩ := hended c i hm he
    exact holds_iff_frameWaiting.mpr ((hwait c).trans (hbye ho hf hp))
  · obtain ⟨-, -, -, hnone⟩ := hended c i hm he
    have hz : z.waitingFrames c = x.waitingFrames c := congrArg (fun h : PerChannel (List TxFrame) => h.get c) hhand
    rw [hz]
    exact hnone ho
  · rw [hsweep, hwnum, hnum]

theorem sweep_served (s : State) : (Claim.served s).sweep = s.sweep := rfl

theorem HaltTaken.served (h : HaltTaken s t) : HaltTaken s (served t) := { h with }

/-- Settles O24: the slots halted in turn, each leaving the other channels alone, then the end of the step. -/
theorem haltStopsTheSweep : Obligations.HaltStopsTheSweep := by
  intro s hr hs
  refine ⟨exec_halt_ignored hr, fun hrun => ⟨_, exec_halt hr hrun, ?_⟩⟩
  have hfree := halt_of_free_ends hs
  have h := (haltTaken s).served
  rw [← outbound_served, ← sweep_served] at hfree
  generalize served (haltSlots (haltBegun s)).closeStep = t at *
  refine ⟨h.outbound, fun c => ?_, h.idle, h.halting, h.entries, fun c he hst => ?_, fun c i hm he => ?_, hfree, h.own⟩
  · rw [State.workList, h.lists]
    cases c <;> rfl
  · refine h.kept c he ?_ ?_ ?_ <;> rcases hst with hst | hst | hst | hst <;> rw [hst] <;> decide
  · obtain ⟨hclear, ho, hl, hreached⟩ := h.ended c i hm he
    exact ⟨hclear, ho, hl.trans h.number, hreached, h.frames c i hm he⟩

end Sys2Proof.Claim
end

section
/-! What cannot happen changes nothing (R24, R30, R129, R130): services a slot ignores or does not hear, and the expiries of
stopped timers. -/

namespace Sys2Proof.Claim

open Sys2Proof.Machine

variable {s : State} {c : Channel} {i : ModuleIndex}

/-! ### Services ignored (R24, R30) -/

theorem onIdReply_ignored {g : Word16} (clock : ClockBytes) (flags : Byte)
    (h : ((s.slot c).state ≠ .identifying ∧ ¬ ((s.slot c).state = .waking ∧ c ≠ .s)) ∨ g = 0 ∨ g = 0xFFFF) :
    s.onIdReply c g clock flags = s := by
  refine if_neg fun hn => ?_
  obtain ⟨htake, htag⟩ := Bool.and_eq_true_iff.mp hn
  rcases h with ⟨hi, hw⟩ | rfl | rfl
  · simp only [Slot.takesIdentity, Bool.or_eq_true, Bool.and_eq_true, beq_iff_eq, decide_eq_true_eq] at htake
    exact htake.elim hi hw
  · exact absurd htag (by decide)
  · exact absurd htag (by decide)

theorem onSegment_ignored {index : BitVec 3} {data : List Byte}
    (h : ¬ ((s.slot c).state = .reading ∧ (s.slot c).sub = .drawing ∧ (s.slot c).outstanding ≠ 0)) :
    s.onSegment c index data = s :=
  if_neg fun ⟨hst, hsub, hout, _⟩ => h ⟨hst, hsub, Nat.pos_iff_ne_zero.mp hout⟩

theorem onHoldOn_ignored {n : Byte}
    (h : ((s.slot c).state ≠ .identifying ∧ (s.slot c).state ≠ .reading ∧ (s.slot c).state ≠ .erasing)
      ∨ (s.slot c).response = none ∨ n = 0 ∨ 8 ≤ (s.slot c).holdOns) : s.onHoldOn c n.toNat = s := by
  unfold State.onHoldOn
  dsimp only
  split
  · rfl
  · next w hw =>
    refine if_neg fun ⟨hst, hn, h8⟩ => ?_
    rcases h with ⟨hi, hr, he⟩ | hnone | rfl | hmany
    · exact hst.elim hi (fun hst => hst.elim hr he)
    · exact absurd (hnone.symm.trans hw) nofun
    · exact hn rfl
    · omega

theorem onDeny_ignored (h : (s.slot c).state = .free ∨ (s.slot c).state = .parked ∨ (s.slot c).state = .referred
      ∨ ((s.slot c).state = .waking ∧ c = .s)) : s.onDeny c = s := by
  unfold State.onDeny
  rcases h with h | h | h | ⟨h, rfl⟩ <;> simp [h]

/-- A service that the slot ignores leaves a settled state as it was. -/
theorem serviceReceived_ignored (hs : Settled s) {v : Service} (h : s.deliver c v = s) : s.serviceReceived c v = s := by
  unfold State.serviceReceived
  rw [h, closeStep_settled hs, ite_self]

/-- A service that does not reach the slot has no effect (R129, R130). -/
theorem serviceReceived_unheard (hm : (s.slot c).module = some i) (hh : ¬ heard s c (s.entry i)) (v : Service) :
    s.serviceReceived c v = s := by
  have hcan : ∀ k : Can, ¬ ((k.errorState = .active ∨ k.errorState = .passive)
      ∧ (∀ a : BitVec 5, k.testerHold = some a → a.toNat ≠ (s.entry i).address)) →
      (k.onLine && !k.holds (s.slotAddress c)) = false := by
    intro k hk
    rw [Bool.and_eq_false_iff, ← Bool.not_eq_true, onLine_iff, slotAddress_eq hm, Bool.not_eq_false']
    refine (Classical.not_and_iff_not_or_not.mp hk).imp_right fun hhold => ?_
    obtain ⟨a, ha, heq⟩ : ∃ a : BitVec 5, k.testerHold = some a ∧ a.toNat = (s.entry i).address := by simpa using hhold
    simp [Can.holds, ha, heq]
  refine if_neg ?_
  rw [Bool.not_eq_true, State.reaches, Bool.and_eq_false_iff]
  right
  cases c
  · exact hcan _ hh
  · exact hcan _ hh
  · exact absurd trivial hh

theorem ignoredServicesChangeNothing : IgnoredServicesChangeNothing := by
  intro s c hs
  refine ⟨fun g clock flags h => ?_, fun page count length flags sum h => ?_, fun index data h => ?_, fun n h => ?_,
    fun reason h => ?_, fun h => ?_, fun i hm hh => ⟨?_, ?_, ?_, ?_, ?_, ?_⟩⟩
  · exact congrArg Host.Outcome.next (serviceReceived_ignored (v := .idReply g clock flags) hs (onIdReply_ignored clock flags h))
  · exact congrArg Host.Outcome.next (serviceReceived_ignored (v := .pageHead page count length flags sum) hs (if_neg h))
  · have hx := serviceReceived_ignored (v := .segment index data) hs (onSegment_ignored h)
    exact congrArg Host.Outcome.next ((congrArg (fun t => if segmentOk c data then t else s) hx).trans (ite_self s))
  · exact congrArg Host.Outcome.next (serviceReceived_ignored (v := .holdOn n) hs (onHoldOn_ignored h))
  · exact congrArg Host.Outcome.next (serviceReceived_ignored (v := .deny reason) hs (onDeny_ignored h))
  · exact congrArg Host.Outcome.next (serviceReceived_ignored (v := .eraseDone) hs (if_neg h))
  · exact fun g clock flags => congrArg Host.Outcome.next (serviceReceived_unheard hm hh _)
  · exact fun page count length flags sum => congrArg Host.Outcome.next (serviceReceived_unheard hm hh _)
  · intro index data
    have hx := serviceReceived_unheard hm hh (.segment index data)
    exact congrArg Host.Outcome.next ((congrArg (fun t => if segmentOk c data then t else s) hx).trans (ite_self s))
  · exact fun n => congrArg Host.Outcome.next (serviceReceived_unheard hm hh _)
  · exact fun reason => congrArg Host.Outcome.next (serviceReceived_unheard hm hh _)
  · exact congrArg Host.Outcome.next (serviceReceived_unheard hm hh _)

/-! ### Timers that do not run -/

theorem withCan_same (s : State) (k : CanChannel) : s.withCan k (s.canCtl k) = s := by cases k <;> rfl

theorem responseExpired_stopped (h : (s.slot c).response = none) : s.responseExpired c = s := by
  unfold State.responseExpired
  rw [h]

theorem bootTimerExpired_stopped (h : (s.slot c).boot = none) : s.bootTimerExpired c = s := by
  unfold State.bootTimerExpired
  rw [h]

theorem keepAwakeExpired_stopped (h : (s.slot c).keepAwake = none) : s.keepAwakeExpired c = s := by
  unfold State.keepAwakeExpired
  rw [h]

theorem referralExpired_stopped (h : (s.slot c).referral = none) : s.referralExpired c = s := by
  unfold State.referralExpired
  rw [h]

theorem holdExpired_stopped (h : (s.shareOf c).hold = none) : s.holdExpired c = s := by
  unfold State.holdExpired
  rw [h]

theorem gapExpired_stopped {k : CanChannel} (h : (s.canCtl k).gap = none) : s.gapExpired k = s := by
  unfold State.gapExpired Can.gapExpired
  rw [h]
  exact withCan_same s k

theorem windowExpired_stopped {k : CanChannel} (h : (s.canCtl k).window = none) : s.windowExpired k = s := by
  unfold State.windowExpired Can.windowExpired
  rw [h]
  exact withCan_same s k

theorem stuckExpired_stopped (h : s.line.stuckTimer = none) : s.stuckExpired = s := by
  unfold State.stuckExpired
  rw [h]

theorem stuckCleared_stopped {l : Line} (h : l.stuckClear = none) : l.stuckCleared = l := by
  unfold Line.stuckCleared
  rw [h]

/-- The release timer does not run while it is stopped, nor while the line is LOW (R151). -/
theorem releaseExpired_stopped {l : Line} (h : l.release = none ∨ l.level = .low) : l.releaseExpired = l := by
  unfold Line.releaseExpired
  split
  · next hr hl => exact absurd h (by simp [hr, hl])
  · rfl

theorem hostGapExpired_stopped (h : s.link.assembler.gap = none) : s.hostGapExpired = s := by
  unfold State.hostGapExpired
  rw [h]

theorem settleExpired_stopped (h : s.key.settle = none) : s.settleExpired = s := by
  unfold State.settleExpired
  rw [h]

theorem stoppedTimersDoNotExpire : StoppedTimersDoNotExpire := by
  intro s hs
  have hclose : ∀ {t : State}, t = s → (.next t.closeStep : Host.Outcome State Fault Refusal) = .next s := fun h =>
    congrArg _ ((congrArg State.closeStep h).trans (closeStep_settled hs))
  refine ⟨fun c => ⟨fun h => hclose (responseExpired_stopped h), fun h => hclose (bootTimerExpired_stopped h),
    fun h => congrArg Host.Outcome.next (keepAwakeExpired_stopped h), fun h => hclose (referralExpired_stopped h),
    fun h => congrArg Host.Outcome.next (holdExpired_stopped h)⟩,
    fun k => ⟨fun h => congrArg Host.Outcome.next (gapExpired_stopped h), fun h => congrArg Host.Outcome.next (windowExpired_stopped h)⟩,
    fun h => congrArg Host.Outcome.next (if_neg h), fun h => congrArg Host.Outcome.next (stuckExpired_stopped h),
    fun h => congrArg (fun l => Host.Outcome.next (s.withLine l)) (stuckCleared_stopped h),
    fun h => congrArg (fun l => Host.Outcome.next (s.withLine l)) (releaseExpired_stopped h),
    fun h => congrArg Host.Outcome.next (hostGapExpired_stopped h), fun h => congrArg Host.Outcome.next (settleExpired_stopped h)⟩

/-- Settles O54: an ignored service and a stopped timer each leave the state as it was, and there is nothing to settle. -/
theorem whatCannotHappenChangesNothing : Obligations.WhatCannotHappenChangesNothing :=
  ⟨ignoredServicesChangeNothing, stoppedTimersDoNotExpire⟩

end Sys2Proof.Claim
end

section
/-! A dialog that goes on (R14, R23, R25 to R42, R46): what each boundary of the dialog does where no halt has been taken, and
what the step that hands a request leaves. -/

namespace Sys2Proof.Machine

theorem State.withSlot_withSlot (s : State) (c : Channel) (x y : Slot) :
    (s.withSlot c x).withSlot c y = s.withSlot c y := by
  cases c <;> rfl

theorem State.withEntry_same (s : State) (i : ModuleIndex) : s.withEntry i (s.entry i) = s :=
  congrArg (fun v => { s with table := v }) (Vector.set_getElem_self i.isLt)

/-- The resolution of the module in a slot written (R54). -/
theorem State.resolve_eq {s : State} {c : Channel} {i : ModuleIndex} (h : (s.slot c).module = some i) (x : Resolution) :
    s.resolve c x = s.withEntry i { s.entry i with resolution := x } := by
  unfold State.resolve
  rw [h]

/-- What stands beside the frames of a channel does not matter to the requests dropped. -/
theorem State.dropRequests_beside (s : State) (c : Channel) (p : TxFrame → Bool) (sl : PerChannel Slot)
    (tb : Vector Entry 48) (h : History) (l : Link) :
    ({ s with slots := sl, table := tb, history := h, link := l } : State).dropRequests c p =
      { s.dropRequests c p with slots := sl, table := tb, history := h, link := l } := by
  have hempty : ∀ u : State, ({ u with slots := sl, table := tb, history := h, link := l } : State).emptyHolding c =
      { u.emptyHolding c with slots := sl, table := tb, history := h, link := l } := by
    intro u
    cases c <;> simp only [State.emptyHolding, canOf]
    · cases hk : (u.canCtl .a).holding <;> simp [State.canCtl, State.withCan] at hk ⊢ <;> simp [hk]
    · cases hk : (u.canCtl .b).holding <;> simp [State.canCtl, State.withCan] at hk ⊢ <;> simp [hk]
    · rfl
  unfold State.dropRequests
  dsimp only
  generalize hu : s.withWaitingFrames c ((s.waitingFrames c).filter (fun f => !f.isOwnRequest)) = u
  have hw : ({ s with slots := sl, table := tb, history := h, link := l } : State).withWaitingFrames c
      ((({ s with slots := sl, table := tb, history := h, link := l } : State).waitingFrames c).filter
        (fun f => !f.isOwnRequest)) = { u with slots := sl, table := tb, history := h, link := l } :=
    congrArg (fun v : State => { v with slots := sl, table := tb, history := h, link := l }) hu
  rw [hw]
  have hf : ({ u with slots := sl, table := tb, history := h, link := l } : State).frameWaiting c = u.frameWaiting c := by
    cases c <;> rfl
  rw [hf, hempty u]
  split
  · split <;> rfl
  · rfl

end Sys2Proof.Machine

namespace Sys2Proof.Claim

open Sys2Proof.Machine

variable {s t u v : State} {c d : Channel} {i : ModuleIndex} {e : DialogEnd} {o : SweepOutcome}

/-! ### The step that hands a request -/

/-- `t` is `u`, in which the dialog of a channel has gone on, with a request handed. -/
structure Hands (s : State) (c : Channel) (i : ModuleIndex) (u : State) (r : TxRequest) (n : Option Nat) (t : State) :
    Prop where
  slot : t.slot c = u.slot c
  others : ∀ d, d ≠ c → t.slot d = s.slot d ∧ t.waitingFrames d = s.waitingFrames d
  can : ∀ k : CanChannel, k.toChannel ≠ c → t.canCtl k = s.canCtl k
  line : c ≠ .s → t.line = s.line
  share : t.share = s.share
  sweep : t.sweep = u.sweep
  link : t.link = u.link
  table : t.table = u.table
  history : t.history = u.history
  holds : nothingWaits s c → holds s t c (s.entry i) r n
  own : OwnWork s t

/-- A request handed, after which nothing is left to settle. -/
structure Asked (s : State) (c : Channel) (i : ModuleIndex) (u : State) (r : TxRequest) (n : Option Nat) (t : State) :
    Prop extends Hands s c i u r n t where
  closed : t.closeStep = t

theorem Hands.sameBeyond {r : TxRequest} {n : Option Nat} (h : Hands s c i u r n t) (hw : u.sweep = s.sweep)
    (hl : u.link = s.link) : SameBeyond s t c :=
  ⟨h.others, h.can, h.line, h.share, h.sweep.trans hw, h.link.trans hl, h.own⟩

theorem setting_of_works (h : s.Works u) (x : SettingId) : u.setting x = s.setting x :=
  congrArg (fun v => State.setting { s with settings := v } x) h.settings

/-- A busy slot on an OPEN channel, beside whose dialog the part has done no more than merge a page, leaves nothing to settle. -/
theorem EndsFrom.settled (h : EndsFrom s c i e u) (hs : Settled s) (ho : s.shareState c = .opened)
    (hb : (u.slot c).state ≠ .free) (hw : s.Works u) : Settled u := by
  refine hs.of_busy c hb ?_ ?_ h.others (fun d _ => ?_) h.share (setting_of_works hw _)
  · rw [ho]
    exact nofun
  · rw [ho]
    exact nofun
  · rw [State.workList, h.sweep]
    rfl

/-- A frame handed with nothing before it is the one in the holding, with its earliest start (R23, R132). -/
theorem EndsFrom.holds_hand (h : EndsFrom s c i e u) (hn : nothingWaits s c) (r : TxRequest) (n : Option Nat) :
    holds s (u.hand c r n) c (s.entry i) r n := by
  obtain ⟨he, hw⟩ := h.nothing hn
  rw [State.hand_empty he hw, h.destination, holds_iff_frameWaiting, State.frameWaiting_putHolding]

theorem EndsFrom.hands (h : EndsFrom s c i e u) (hline : u.line = s.line) (hw : s.Works u) (r : TxRequest)
    (n : Option Nat) : Hands s c i u r n (u.hand c r n) := by
  have hf := State.FramesOf.hand u c r n
  have hslot : ∀ d, (u.hand c r n).slot d = u.slot d := fun d => State.slot_congr hf.only.slots d
  exact {
    slot := hslot c
    others := fun d hd => ⟨(hslot d).trans (h.others d hd), (hf.waiting d hd).trans (h.waitingFrames d)⟩
    can := fun k hk => (hf.can k hk).trans (congrArg (fun v => PerCan.get v k) h.can)
    line := fun hc => (hf.line hc).trans hline
    share := hf.only.share.trans h.share
    sweep := hf.only.sweep
    link := hf.only.link
    table := hf.only.table
    history := hf.only.history
    holds := fun hn => h.holds_hand hn r n
    own := ownWork_of_works (hw.hand c r n) }

/-- A request handed by a dialog that goes on, on an OPEN channel (R23). -/
theorem EndsFrom.asked (h : EndsFrom s c i e u) (hs : Settled s) (ho : s.shareState c = .opened)
    (hb : (u.slot c).state ≠ .free) (hline : u.line = s.line) (hw : s.Works u) (r : TxRequest) (n : Option Nat) :
    Asked s c i u r n (u.hand c r n) := by
  have hf := State.FramesOnly.hand u c r n
  refine { h.hands hline hw r n with closed := closeStep_settled ?_ }
  exact (h.settled hs ho hb hw).of_same (State.slot_congr hf.slots)
    (State.workList_congr (congrArg Sweep.lists hf.sweep)) (congrArg Sweep.state hf.sweep) hf.share
    (congrArg (fun v => State.setting { s with settings := v } .socketChannels) hf.settings)

/-! ### The boundaries of a dialog, no halt taken (R14, R46) -/

theorem EndsFrom.not_halting (h : EndsFrom s c i e u) (hh : s.sweep.state ≠ .halting) : ¬ u.halting = true :=
  fun hn => hh (h.halting.mp hn)

theorem EndsFrom.yieldPending_iff (h : EndsFrom s c i e u) : u.yieldPending c = true ↔ s.shareState c = .yieldPending := by
  rw [State.yieldPending, h.shareState, beq_iff_eq]

/-- At a boundary without a halt the slot parks on a yielding channel, and otherwise goes on (R14, R46). -/
theorem EndsFrom.boundary (h : EndsFrom s c i e u) (hh : s.sweep.state ≠ .halting) (x y z : State) :
    (if u.halting then x else if u.yieldPending c then y else z) = if s.shareState c = .yieldPending then y else z := by
  rw [if_neg (h.not_halting hh)]
  exact if_congr h.yieldPending_iff rfl rfl

/-- The keep-awake timer runs once a dialog has entered READING, REFERRED or ERASING (R27; log entry 14). -/
theorem ensureKeepAwake_eq {x : Slot} (hx : x.keepAwake = (s.slot c).keepAwake) :
    x.ensureKeepAwake (s.setting .keepAwakePeriod) = { x with keepAwake := awake s c } := by
  obtain ⟨_, _, _, _, _, _, _, _, _, _, _, _, _, _, _, _, _, _, _, _, _, _, k, _⟩ := x
  dsimp only at hx
  subst hx
  unfold Slot.ensureKeepAwake awake
  cases (s.slot c).keepAwake <;> rfl

/-- A slot that asks for a page (R32, R41; log entry 14). -/
def askingSlot (s : State) (c : Channel) (x : Slot) (page : Nat) : Slot :=
  { x with page, state := .reading, sub := .asked, attempt := 1, keepAwake := awake s c }

theorem EndsFrom.enterPage_eq (h : EndsFrom s c i e u) (hh : s.sweep.state ≠ .halting) (hw : s.Works u)
    (hk : (u.slot c).keepAwake = (s.slot c).keepAwake) (page : Nat) :
    u.enterPage c page =
      if s.shareState c = .yieldPending then (u.withSlot c { u.slot c with page }).park c .page
      else (u.withSlot c (askingSlot s c (u.slot c) page)).hand c (.askPage page) := by
  have hu : EndsFrom s c i e (u.withSlot c { u.slot c with page }) := h.withContext rfl rfl rfl
  have hx := ensureKeepAwake_eq (s := s) (c := c)
    (x := { u.slot c with page, state := .reading, sub := .asked, attempt := 1 }) hk
  unfold State.enterPage
  dsimp only
  rw [hu.boundary hh, State.slot_withSlot, State.withSlot_withSlot, setting_of_works (hw.withSlot c _)]
  exact congrArg (fun y => ite _ _ ((u.withSlot c y).hand c (.askPage page))) hx

/-- A profile found for a tag (R32, R34). -/
theorem EndsFrom.settleFound_eq (h : EndsFrom s c i e u) (hh : s.sweep.state ≠ .halting) (hw : s.Works u)
    (hk : (u.slot c).keepAwake = (s.slot c).keepAwake) (ref : ProfileRef) :
    u.settleFound c ref =
      if s.shareState c = .yieldPending then
        (u.withSlot c { u.slot c with profile := some ref, referral := none, page := 0 }).park c .page
      else (u.withSlot c (askingSlot s c { u.slot c with profile := some ref, referral := none } 0)).hand c
        (.askPage 0) := by
  have hu : EndsFrom s c i e (u.withSlot c { u.slot c with profile := some ref, referral := none }) :=
    h.withContext rfl rfl rfl
  have hx := hu.enterPage_eq hh (hw.withSlot c _) (by rw [State.slot_withSlot]; exact hk) 0
  rw [State.slot_withSlot, State.withSlot_withSlot, State.withSlot_withSlot] at hx
  exact hx

/-- A slot that enters REFERRED with a new referral timer (R33). -/
def referredSlot (s : State) (x : Slot) : Slot :=
  { x with state := .referred, sub := .asked, referral := some (s.setting .referralTimeout * 1000) }

theorem EndsFrom.refer_eq (h : EndsFrom s c i e u) (hh : s.sweep.state ≠ .halting) (hw : s.Works u) (g : Word16) :
    u.refer c g =
      if s.shareState c = .yieldPending then
        (((u.resolve c .unresolved).notify (.referral i g)).withSlot c (referredSlot s (u.slot c))).park c .refer
      else ((u.resolve c .unresolved).notify (.referral i g)).enterReferred c (referredSlot s (u.slot c)) := by
  have hu := h.resolve .unresolved
  have hn : EndsFrom s c i _ _ := hu.notify (.referral i g)
  have hslot : ((u.resolve c .unresolved).notify (.referral i g)).slot c = u.slot c := by
    rw [State.resolve_eq h.module]
    rfl
  unfold State.refer
  dsimp only
  rw [hu.module]
  dsimp only
  rw [hn.boundary hh, hslot, setting_of_works ((hw.resolve c _).notify _)]
  rfl

/-- A page attempt fails for the first time (R39). -/
theorem EndsFrom.failAttempt_eq (h : EndsFrom s c i e u) (hh : s.sweep.state ≠ .halting) (ha : (u.slot c).attempt = 1) :
    u.failAttempt c =
      if s.shareState c = .yieldPending then (u.withSlot c (u.slot c).stopResponse).park c .page
      else (u.withSlot c { (u.slot c).stopResponse.clearPage with attempt := 2, sub := .asked }).hand c
        (.askPage (u.slot c).page) := by
  have hu : EndsFrom s c i e (u.withSlot c (u.slot c).stopResponse) := h.withContext rfl rfl rfl
  have ha' : (u.slot c).stopResponse.attempt = 1 := ha
  unfold State.failAttempt
  dsimp only
  rw [State.slot_withSlot, if_neg (hu.not_halting hh), if_neg (not_not_intro ha'), State.withSlot_withSlot]
  exact if_congr hu.yieldPending_iff rfl rfl

/-- A burst is over and the page needs more, or its head has been taken (R37). -/
theorem EndsFrom.nextBurst_eq (h : EndsFrom s c i e u) (hh : s.sweep.state ≠ .halting) :
    u.nextBurst c = if s.shareState c = .yieldPending then u.park c .page else u.startBurst c :=
  h.boundary hh _ _ _

/-- The wait of an ASK_ID is over, with attempts left (R30). -/
theorem EndsFrom.identityExpired_eq (h : EndsFrom s c i e u) (hh : s.sweep.state ≠ .halting)
    (hn : (u.slot c).idAttempt < 1 + (u.entry i).retries) :
    u.identityExpired c =
      if s.shareState c = .yieldPending then
        (u.withSlot c (u.slot c).stopResponse).park c (u.slot c).identityResume
      else (u.withSlot c (u.slot c).stopResponse).nextIdentityAttempt c := by
  have hu : EndsFrom s c i e (u.withSlot c (u.slot c).stopResponse) := h.withContext rfl rfl rfl
  unfold State.identityExpired
  dsimp only
  rw [if_neg (hu.not_halting hh), hu.slotEntry, State.slot_withSlot, if_pos (by exact hn)]
  exact if_congr hu.yieldPending_iff rfl rfl

/-- The boot wait is over (R29). -/
theorem EndsFrom.bootExpired_eq (h : EndsFrom s c i e u) (hh : s.sweep.state ≠ .halting) (hst : (u.slot c).state = .waking) :
    u.bootExpired c =
      if s.shareState c = .yieldPending then
        (u.withSlot c { u.slot c with boot := none }).park c (u.slot c).identityResume
      else (u.withSlot c { u.slot c with boot := none, state := .identifying }).hand c .askId := by
  have hu : EndsFrom s c i e (u.withSlot c { u.slot c with boot := none }) := h.withContext rfl rfl rfl
  unfold State.bootExpired
  dsimp only
  rw [State.slot_withSlot, if_neg (not_not_intro hst), hu.boundary hh, State.withSlot_withSlot]
  rfl

/-- An erase that is due (R42). -/
theorem EndsFrom.enterErase_eq (h : EndsFrom s c i e u) (hw : s.Works u)
    (hk : (u.slot c).keepAwake = (s.slot c).keepAwake) :
    u.enterErase c =
      if s.shareState c = .yieldPending then u.park c .erase
      else (u.withSlot c { u.slot c with state := .erasing, sub := .asked, keepAwake := awake s c }).hand c .erase := by
  have hx := ensureKeepAwake_eq (s := s) (c := c) (x := { u.slot c with state := .erasing, sub := .asked }) hk
  unfold State.enterErase
  dsimp only
  rw [setting_of_works hw, hx]
  exact if_congr h.yieldPending_iff rfl rfl

end Sys2Proof.Claim
end

section
/-! The first identity reply of a dialog (R24, R31 to R33, R80, R81): the tag settled by a profile, a decline or a referral. -/

namespace Sys2Proof.Claim

open Sys2Proof.Machine

variable {s t u v : State} {c d : Channel} {i : ModuleIndex} {e : DialogEnd} {o : SweepOutcome} {g : Word16}
  {ref : ProfileRef}

theorem not_yieldPending_of_opened (h : s.shareState c = .opened) : ¬ s.shareState c = .yieldPending := by
  rw [h]
  exact nofun

theorem noticed_eq_notify (s : State) (n : Notice) : noticed s n = s.notify n := rfl

/-- A dialog ended from a slot made ready, beside which nothing has changed, has ended with that outcome alone (R44). -/
theorem EndsFrom.ended (h : EndsFrom s c i (endOf s c o) u) (hent : u.entry i = s.entry i) (hhist : u.history = s.history)
    (hw : s.Works u) (hs : Settled s) (ho : otherWork s c) : Ended s (u.endDialog c o).closeStep c i o := by
  have hover : DialogOver s c i (endOf s c o) (u.endDialog c o) := h.over (hw.endDialog c o)
  have hx : u.endDialog c o = _ := h.endDialog_withSweep
  have hy := hover.closeStep_yieldOnly hs ho
  have he : (u.endDialog c o).entry i = { s.entry i with lastOutcome := some o, lastSweep := s.sweep.number } := by
    have hr := (congrArg (fun v => v.entry i) hx).trans (outcomeRecorded_entry u c i _ i)
    rw [if_pos rfl, hent, h.sweep] at hr
    exact hr
  have hk : (u.endDialog c o).history = s.history :=
    (congrArg State.history hx).trans ((outcomeRecorded_history u c i _).trans hhist)
  exact ⟨hover.endedWith hs ho, (State.entry_congr hy.table i).trans he, hy.history.trans hk⟩

/-! ### The tag settled (R32, R80) -/

theorem resolve_same (h : (u.slot c).module = some i) {x : Resolution} (hx : (u.entry i).resolution = x) :
    u.resolve c x = u := by
  rw [State.resolve_eq h, ← hx]
  exact u.withEntry_same i

/-- A tag that is served resolves the entry to its profile, which is then in use (R32, R80). -/
theorem EndsFrom.settleProfile_served (h : EndsFrom s c i e u) (ht : u.entry i = s.entry i) (hst : u.store = s.store)
    (hg : tagServed s i g ref) : u.settleProfile c g = (u.resolve c (.resolved ref g)).settleFound c ref := by
  rcases hg with hq | ⟨hr, hd, hp⟩
  · rw [resolve_same h.module (ht ▸ hq), h.settleProfile_eq ht, hq]
    exact if_pos rfl
  · rw [h.settleProfile_lookup ht hr hd, settleLookup_profile (hst ▸ hp)]

/-- A tag that is declined makes or keeps the entry DECLINED and ends the dialog (R32). -/
theorem EndsFrom.settleProfile_declined (h : EndsFrom s c i e u) (ht : u.entry i = s.entry i) (hst : u.store = s.store)
    (hg : tagDeclined s i g) : u.settleProfile c g = (u.resolve c (.declined g)).endDialog c .unsupported := by
  by_cases hd : (s.entry i).resolution = .declined g
  · rw [resolve_same h.module (ht ▸ hd), h.settleProfile_eq ht, hd]
    exact if_pos rfl
  · obtain ⟨hr, hl⟩ := hg.resolve_left hd
    rw [h.settleProfile_lookup ht hr hd, settleLookup_decline (hst ▸ hl)]

/-- A tag that is found nowhere is referred (R33, R81). -/
theorem EndsFrom.settleProfile_unknown (h : EndsFrom s c i e u) (ht : u.entry i = s.entry i) (hst : u.store = s.store)
    (hg : tagUnknown s i g) : u.settleProfile c g = u.refer c g := by
  obtain ⟨hr, hd, hl⟩ := hg
  rw [h.settleProfile_lookup ht hr hd, settleLookup_none (hst ▸ hl)]

/-! ### Page 0 asked, or REFERRED entered, on an OPEN channel -/

/-- A profile found asks page 0 with it (R32). -/
theorem EndsFrom.foundAsked (h : EndsFrom s c i e u) (hs : Settled s) (ho : s.shareState c = .opened)
    (hh : s.sweep.state ≠ .halting) (hline : u.line = s.line) (hw : s.Works u)
    (hk : (u.slot c).keepAwake = (s.slot c).keepAwake) (ref : ProfileRef) :
    Asked s c i (u.withSlot c (askingSlot s c { u.slot c with profile := some ref, referral := none } 0)) (.askPage 0) none
      (u.settleFound c ref) := by
  rw [h.settleFound_eq hh hw hk, if_neg (not_yieldPending_of_opened ho)]
  have hu : EndsFrom s c i e
      (u.withSlot c (askingSlot s c { u.slot c with profile := some ref, referral := none } 0)) :=
    h.withContext rfl rfl rfl
  refine hu.asked hs ho ?_ hline (hw.withSlot c _) _ _
  rw [State.slot_withSlot]
  exact nofun

/-- A slot that enters REFERRED on an OPEN channel: its requests not yet started are dropped (R33; log entry 57). -/
theorem enterReferred_eq {x y : Slot} (hx : x.keepAwake = (s.slot c).keepAwake) (tb : Vector Entry 48) (h : History)
    (l : Link) :
    ({ s with slots := s.slots.set c y, table := tb, history := h, link := l } : State).enterReferred c x =
      { requestsDropped s c with
        slots := s.slots.set c { x with keepAwake := awake s c }, table := tb, history := h, link := l } := by
  have hu : ({ s with slots := s.slots.set c y, table := tb, history := h, link := l } : State).withSlot c
      { x with keepAwake := awake s c } =
      { s with slots := s.slots.set c { x with keepAwake := awake s c }, table := tb, history := h, link := l } := by
    cases c <;> rfl
  unfold State.enterReferred
  rw [show State.setting ({ s with slots := s.slots.set c y, table := tb, history := h, link := l } : State)
      .keepAwakePeriod = s.setting .keepAwakePeriod from rfl, ensureKeepAwake_eq hx, hu, State.dropRequests_beside,
    dropRequests_eq_requestsDropped]

/-- A slot that is REFERRED on an OPEN channel leaves nothing to settle. -/
theorem closeStep_referred (hs : Settled s) (ho : s.shareState c = .opened) {x : Slot} (hx : x.state = .referred)
    (tb : Vector Entry 48) (h : History) (l : Link) :
    ({ requestsDropped s c with slots := s.slots.set c x, table := tb, history := h, link := l } : State).closeStep =
      { requestsDropped s c with slots := s.slots.set c x, table := tb, history := h, link := l } := by
  have hf := State.FramesOnly.dropRequests s c TxFrame.isOwnRequest
  rw [dropRequests_eq_requestsDropped] at hf
  refine closeStep_settled (hs.of_busy c ?_ ?_ ?_ (fun d hd => State.slot_withSlot_other s hd x)
    (fun d _ => State.workList_congr (congrArg Sweep.lists hf.sweep) d) hf.share
    (congrArg (fun v => State.setting { s with settings := v } .socketChannels) hf.settings))
  · show ((s.withSlot c x).slot c).state ≠ .free
    rw [State.slot_withSlot, hx]
    exact nofun
  · rw [ho]
    exact nofun
  · rw [ho]
    exact nofun

/-! ### An identity reply taken (R24, R31) -/

theorem slot_identityTaken (s : State) (c : Channel) (g : Word16) (clock : ClockBytes) (flags : Byte) :
    (identityTaken s c g clock flags).slot c = identifiedSlot s c g clock flags := State.slot_withSlot s c _

/-- The slot with the facts of a first identity reply, and SIGHTED clear on its module's records (R31, R118). -/
def firstIdentity (s : State) (c : Channel) (i : ModuleIndex) (g : Word16) (clock : ClockBytes) (flags : Byte) : State :=
  (identityTaken s c g clock flags).withHistory (unsighted s.history i)

theorem slot_firstIdentity (s : State) (c : Channel) (i : ModuleIndex) (g : Word16) (clock : ClockBytes) (flags : Byte) :
    (firstIdentity s c i g clock flags).slot c = identifiedSlot s c g clock flags := slot_identityTaken s c g clock flags

theorem onIdReply_eq (ht : (s.slot c).takesIdentity c = true) (h0 : g ≠ 0) (hf : g ≠ 0xFFFF) (clock : ClockBytes)
    (flags : Byte) : s.onIdReply c g clock flags = s.acceptIdentity c g clock flags := by
  refine if_pos ?_
  rw [ht, Bool.true_and, tagOk, Bool.and_eq_true, decide_eq_true_eq, decide_eq_true_eq]
  exact ⟨h0, hf⟩

theorem onIdReply_first (hm : (s.slot c).module = some i) (ha : awaitsFirstReply s c) (h0 : g ≠ 0) (hf : g ≠ 0xFFFF)
    (clock : ClockBytes) (flags : Byte) :
    s.onIdReply c g clock flags = (firstIdentity s c i g clock flags).settleProfile c g := by
  rw [onIdReply_eq (takesIdentity_of ha.1) h0 hf]
  unfold State.acceptIdentity
  dsimp only
  rw [ha.2, if_neg Bool.false_ne_true]
  split
  · next j hj =>
    cases hj.symm.trans hm
    rfl
  · next hj => exact absurd (hj.symm.trans hm) nofun

theorem onIdReply_resumed (ha : awaitsResumedReply s c) (h0 : g ≠ 0) (hf : g ≠ 0xFFFF) (clock : ClockBytes)
    (flags : Byte) :
    s.onIdReply c g clock flags =
      (identityTaken s c g clock flags).settleResumed c g ((s.slot c).tag == some g) := by
  rw [onIdReply_eq (takesIdentity_of ha.1) h0 hf]
  unfold State.acceptIdentity
  dsimp only
  rw [ha.2, if_pos rfl]
  rfl

/-- The identity reply of a module that is heard, as its slot takes it (R24). -/
theorem exec_idReply (hm : (s.slot c).module = some i) (hh : heard s c (s.entry i))
    (ha : (s.slot c).state = .identifying ∨ ((s.slot c).state = .waking ∧ c ≠ .s)) (g : Word16) (clock : ClockBytes)
    (flags : Byte) : exec (.idReply c g clock flags) s = .next (s.onIdReply c g clock flags).closeStep :=
  congrArg Host.Outcome.next (serviceReceived_heard hm (listens_of_identity ha) hh (.idReply g clock flags))

theorem firstIdentity_endsFrom (hm : (s.slot c).module = some i) (g : Word16) (clock : ClockBytes) (flags : Byte)
    (o : SweepOutcome) : EndsFrom s c i (endOf s c o) (firstIdentity s c i g clock flags) :=
  (identityTaken_endsFrom hm g clock flags o).withHistory _

theorem identityTaken_works (s : State) (c : Channel) (g : Word16) (clock : ClockBytes) (flags : Byte) :
    s.Works (identityTaken s c g clock flags) := (State.Works.refl s).withSlot c _

theorem firstIdentity_works (s : State) (c : Channel) (i : ModuleIndex) (g : Word16) (clock : ClockBytes) (flags : Byte) :
    s.Works (firstIdentity s c i g clock flags) := (identityTaken_works s c g clock flags).clearSighted i

/-! ### The obligations -/

/-- Settles O28: a served tag resolves the entry, and its profile asks page 0. -/
theorem idReplyLeadsToPageZero : Obligations.IdReplyLeadsToPageZero := by
  intro s c i g clock flags ref hs ha hm hh h0 hf ho hn hg
  have hfrom := firstIdentity_endsFrom hm g clock flags .complete
  have hw := firstIdentity_works s c i g clock flags
  have hx := onIdReply_first hm ha h0 hf clock flags
  have hslot := slot_firstIdentity s c i g clock flags
  rw [hfrom.settleProfile_served rfl rfl hg, State.resolve_eq hfrom.module] at hx
  have hres : EndsFrom s c i (endOf s c .complete) _ := hfrom.resolve (.resolved ref g)
  have hworks := hw.withResolution i (.resolved ref g)
  rw [State.resolve_eq hfrom.module] at hres
  generalize hu : (firstIdentity s c i g clock flags).withEntry i
    { (firstIdentity s c i g clock flags).entry i with resolution := .resolved ref g } = u at *
  have hus : u.slot c = identifiedSlot s c g clock flags := hu ▸ hslot
  have hk : (u.slot c).keepAwake = (s.slot c).keepAwake := by
    rw [hus]
    rfl
  have hask := hres.foundAsked hs ho hn (hu ▸ rfl) hworks hk ref
  refine ⟨u.settleFound c ref, ?_, ?_, ?_, fun j hj => ?_, ?_, hask.holds, hask.sameBeyond (hu ▸ rfl) (hu ▸ rfl)⟩
  · rw [exec_idReply hm hh ha.1, hx, hask.closed]
  · rw [hask.slot, State.slot_withSlot, hus]
    rfl
  · rw [State.entry_congr hask.table i, ← hu]
    exact State.entry_withEntry _ i _
  · rw [State.entry_congr hask.table j]
    exact hres.entries j hj
  · exact hask.history.trans (hu ▸ rfl)

theorem idReplyFoundNowhereRefers : IdReplyFoundNowhereRefers := by
  intro s c i g clock flags hs ha hm hh h0 hf' ho hn hr hd hl
  have hfrom := firstIdentity_endsFrom hm g clock flags .complete
  have hslot := slot_firstIdentity s c i g clock flags
  have hrefer := hfrom.refer_eq hn (firstIdentity_works s c i g clock flags) g
  have hv : ((firstIdentity s c i g clock flags).withEntry i
      { (firstIdentity s c i g clock flags).entry i with resolution := .unresolved }).notify (.referral i g) =
      { s with
        slots := s.slots.set c (identifiedSlot s c g clock flags),
        table := s.table.set i { s.entry i with resolution := .unresolved }, history := unsighted s.history i,
        link := s.link.notify (.referral i g) } := rfl
  rw [if_neg (not_yieldPending_of_opened ho), State.resolve_eq hfrom.module, hslot, hv,
    enterReferred_eq (by exact rfl)] at hrefer
  have hf := State.FramesOnly.dropRequests s c TxFrame.isOwnRequest
  rw [dropRequests_eq_requestsDropped] at hf
  rw [exec_idReply hm hh ha.1, onIdReply_first hm ha h0 hf' clock flags,
    hfrom.settleProfile_unknown rfl rfl ⟨hr, hd, hl⟩, hrefer, closeStep_referred hs ho (by exact rfl), noticed_eq_notify]
  simp only [State.notify, State.withLink, hf.link]
  rfl

theorem idReplyDeclinedIsUnsupported : IdReplyDeclinedIsUnsupported := by
  intro s c i g clock flags hs ha hm hh h0 hf ho hg
  have hfrom := firstIdentity_endsFrom hm g clock flags .complete
  have hx := (onIdReply_first hm ha h0 hf clock flags).trans (hfrom.settleProfile_declined rfl rfl hg)
  rw [State.resolve_eq hfrom.module] at hx
  refine ⟨_, exec_idReply hm hh ha.1 g clock flags, ?_⟩
  rw [hx]
  generalize hb : ({ s with
    table := s.table.set i { s.entry i with resolution := .declined g }, history := unsighted s.history i } : State) = b
  have hmb : (b.slot c).module = some i := hb ▸ hm
  have hu : (firstIdentity s c i g clock flags).withEntry i
      { (firstIdentity s c i g clock flags).entry i with resolution := .declined g } =
      b.withSlot c (identifiedSlot s c g clock flags) := hb ▸ rfl
  have hu' : EndsFrom b c i (endOf b c .unsupported) (b.withSlot c (identifiedSlot s c g clock flags)) :=
    (EndsFrom.refl hmb .unsupported).withContext (hb ▸ rfl) (hb ▸ rfl) (hb ▸ rfl)
  rw [hu]
  exact hu'.ended rfl rfl ((State.Works.refl b).withSlot c _) (hb ▸ hs) (hb ▸ ho)

/-- Settles O29: a tag found nowhere puts the slot in REFERRED, a declined one ends the dialog. -/
theorem idReplyRefersOrDeclines : Obligations.IdReplyRefersOrDeclines :=
  ⟨idReplyFoundNowhereRefers, idReplyDeclinedIsUnsupported⟩

end Sys2Proof.Claim
end

section
/-! The slot's timers (R25 to R30, R43): the wait that HOLD_ON extends, and what the expiries of the response, boot and
keep-awake timers do where the dialog goes on or ends. -/

namespace Sys2Proof.Claim

open Sys2Proof.Machine

variable {s t u v : State} {c d : Channel} {i : ModuleIndex} {e : DialogEnd} {o : SweepOutcome}

/-- A state is settled when it differs from a settled one in nothing that the settling reads of a slot, a list, the sweep
controller and the share unit. -/
theorem Settled.of_states (h : Settled s) (hslot : ∀ d, (t.slot d).state = (s.slot d).state)
    (hlist : ∀ d, t.workList d = s.workList d) (hsweep : t.sweep.state = s.sweep.state) (hshare : t.share = s.share)
    (hset : t.settings = s.settings) : Settled t := by
  obtain ⟨hy, hd, ht, hp⟩ := h
  have hss : ∀ d, t.shareState d = s.shareState d := State.shareState_congr hshare
  have hsock : ∀ d, t.isSocket d = s.isSocket d := fun d =>
    congrArg (fun v => State.isSocket { s with settings := v } d) hset
  refine ⟨fun d hd => ?_, ?_, ?_, ?_⟩
  · rw [hslot]
    exact hy d (hss d ▸ hd)
  · rw [← hd]
    simp only [State.sweepDone, hsweep, hslot, hlist]
  · rw [hshare, ht]
    simp only [State.tgntValue, hsock, hss]
  · rw [hshare, hp]
    simp only [State.pneedValue, hss, hslot, hlist]

/-- A context rewritten in the state it is in leaves nothing to settle. -/
theorem Settled.withContext (h : Settled s) {x : Slot} (hx : x.state = (s.slot c).state) : Settled (s.withSlot c x) := by
  refine h.of_states (fun d => ?_) (fun _ => rfl) rfl rfl rfl
  by_cases hd : d = c
  · subst hd
    rw [State.slot_withSlot, hx]
  · rw [State.slot_withSlot_other s hd]

/-! ### HOLD_ON (R26) -/

theorem onHoldOn_honoured {n : Byte} {w : ResponseTimer}
    (hst : (s.slot c).state = .identifying ∨ (s.slot c).state = .reading ∨ (s.slot c).state = .erasing)
    (hr : (s.slot c).response = some w) (h8 : (s.slot c).holdOns < 8) (hn : n ≠ 0) :
    s.onHoldOn c n.toNat =
      s.withSlot c { s.slot c with response := some (w.extend n.toNat), holdOns := (s.slot c).holdOns + 1 } := by
  have hn' : n.toNat ≠ 0 := fun h => hn (BitVec.eq_of_toNat_eq h)
  unfold State.onHoldOn
  dsimp only
  split
  · next h => exact absurd (h.symm.trans hr) nofun
  · next w' h =>
    cases h.symm.trans hr
    exact if_pos ⟨hst, hn', h8⟩

theorem holdOnExtendsTheWait : HoldOnExtendsTheWait := by
  intro s c i n w hs hst hm hh hr h8 hn
  have hl : (s.slot c).listens = true := by rcases hst with h | h | h <;> exact listens_of h nofun nofun
  have hx : s.deliver c (.holdOn n) = _ := onHoldOn_honoured hst hr h8 hn
  refine congrArg Host.Outcome.next ((serviceReceived_heard hm hl hh (.holdOn n)).trans ?_)
  rw [hx, closeStep_settled (hs.withContext (by exact rfl))]
  rfl

/-! ### The wait of a request over (R25, R30, R43) -/

theorem responseExpired_running (h : (s.slot c).response ≠ none) : s.responseExpired c = s.waitExpired c := by
  obtain ⟨w, hw⟩ := Option.ne_none_iff_exists'.mp h
  unfold State.responseExpired
  rw [hw]

theorem waitExpired_identifying (h : (s.slot c).state = .identifying) : s.waitExpired c = s.identityExpired c := by
  unfold State.waitExpired
  rw [h]

theorem waitExpired_reading (h : (s.slot c).state = .reading) : s.waitExpired c = s.failAttempt c := by
  unfold State.waitExpired
  rw [h]

theorem waitExpired_erasing (h : (s.slot c).state = .erasing) : s.waitExpired c = s.endDialog c .eraseDenied := by
  unfold State.waitExpired
  rw [h]

/-- The slot of a dialog that tries its identity again: in WAKING again for a sleepy module (R30). -/
def retrySlot (m : Entry) (x : Slot) : Slot :=
  if m.sleepy then { x with idAttempt := x.idAttempt + 1, state := .waking, keepAwake := none }
  else { x with idAttempt := x.idAttempt + 1 }

/-- On CAN the next attempt starts no earlier than one effective gap after the expiry (R132). -/
def earliestRetry (s : State) (c : Channel) : Option Nat := (canOf c).map (fun k => (s.canCtl k).effectiveGap)

theorem wakeRequest_eq (c : Channel) : wakeRequest c = if c = .s then .wake else .askId := by
  cases c <;> rfl

/-- The next identity attempt (R30). -/
theorem EndsFrom.nextIdentityAttempt_eq (h : EndsFrom s c i e u) :
    u.nextIdentityAttempt c =
      (u.withSlot c (retrySlot (u.entry i) (u.slot c))).hand c (firstRequest c (u.entry i)) (earliestRetry u c) := by
  unfold State.nextIdentityAttempt retrySlot firstRequest
  rw [h.slotEntry, wakeRequest_eq]
  dsimp only [Option.getD_some]
  by_cases hs : (u.entry i).sleepy = true
  · rw [if_pos hs, if_pos hs, if_congr (and_iff_right hs) rfl rfl]
    rfl
  · rw [if_neg hs, if_neg hs, if_neg (fun hn => hs hn.1)]
    rfl

theorem retrySlot_busy {m : Entry} {x : Slot} (hx : x.state = .identifying) : (retrySlot m x).state ≠ .free := by
  unfold retrySlot
  split
  · exact nofun
  · rw [hx]
    exact nofun

theorem retrySlot_keeps (m : Entry) (x : Slot) :
    (retrySlot m x).module = x.module ∧ (retrySlot m x).pagesRead = x.pagesRead
      ∧ (retrySlot m x).refused = x.refused := by
  unfold retrySlot
  split <;> exact ⟨rfl, rfl, rfl⟩

/-- The identity asked again on an OPEN channel (R30). -/
theorem EndsFrom.identityRetried (h : EndsFrom s c i e u) (hs : Settled s) (ho : s.shareState c = .opened)
    (hh : s.sweep.state ≠ .halting) (hent : u.entry i = s.entry i) (hline : u.line = s.line) (hw : s.Works u)
    (hst : (u.slot c).state = .identifying) (hn : (u.slot c).idAttempt < 1 + (s.entry i).retries) :
    Asked s c i (u.withSlot c (retrySlot (s.entry i) (u.slot c).stopResponse)) (firstRequest c (s.entry i))
      (earliestRetry s c) (u.identityExpired c) := by
  have hstop : EndsFrom s c i e (u.withSlot c (u.slot c).stopResponse) := h.withContext rfl rfl rfl
  obtain ⟨hmod, hpages, hrefused⟩ := retrySlot_keeps (s.entry i) (u.slot c).stopResponse
  have hu : EndsFrom s c i e (u.withSlot c (retrySlot (s.entry i) (u.slot c).stopResponse)) :=
    h.withContext hmod hpages hrefused
  have hent' : (u.withSlot c (u.slot c).stopResponse).entry i = s.entry i := hent
  have hgap : earliestRetry (u.withSlot c (u.slot c).stopResponse) c = earliestRetry s c :=
    congrArg (fun v => earliestRetry { s with can := v } c) h.can
  have hx : u.identityExpired c =
      (u.withSlot c (retrySlot (s.entry i) (u.slot c).stopResponse)).hand c (firstRequest c (s.entry i))
        (earliestRetry s c) := by
    rw [h.identityExpired_eq hh (hent ▸ hn), if_neg (not_yieldPending_of_opened ho), hstop.nextIdentityAttempt_eq,
      hent', hgap, State.slot_withSlot, State.withSlot_withSlot]
  rw [hx]
  refine hu.asked hs ho ?_ hline (hw.withSlot c _) _ _
  rw [State.slot_withSlot]
  exact retrySlot_busy hst

/-- The wait of an ASK_ID is over on its last attempt (R30, R48). -/
theorem EndsFrom.identityExpired_last (h : EndsFrom s c i e u) (hh : s.sweep.state ≠ .halting)
    (hx : u.slot c = s.slot c) (hn : 1 + (u.entry i).retries ≤ (s.slot c).idAttempt) :
    u.identityExpired c = (u.withSlot c (u.slot c).stopResponse).endDialog c (identityFails s c .noAnswer) := by
  have hu : EndsFrom s c i e (u.withSlot c (u.slot c).stopResponse) := h.withContext rfl rfl rfl
  have hout : (s.slot c).stopResponse.identityFailure .noAnswer = identityFails s c .noAnswer :=
    identityFailure_eq s c .noAnswer
  unfold State.identityExpired
  dsimp only
  rw [if_neg (hu.not_halting hh), hu.slotEntry, State.slot_withSlot, hx, if_neg (by exact not_lt.mpr hn), hout]

/-- An identity that fails on its last attempt ends the dialog (R30, R48). -/
theorem identityExpired_ended (hs : Settled s) (hm : (s.slot c).module = some i) (hh : s.sweep.state ≠ .halting)
    (hn : 1 + (s.entry i).retries ≤ (s.slot c).idAttempt) (ho : otherWork s c) :
    Ended s (s.identityExpired c).closeStep c i (identityFails s c .noAnswer) := by
  have hfrom := EndsFrom.refl hm (identityFails s c .noAnswer)
  have hstop : EndsFrom s c i (endOf s c (identityFails s c .noAnswer)) (s.withSlot c (s.slot c).stopResponse) :=
    hfrom.withContext rfl rfl rfl
  rw [hfrom.identityExpired_last hh rfl hn]
  exact hstop.ended rfl rfl ((State.Works.refl s).withSlot c _) hs ho

theorem responseExpiryRetriesOrEnds : ResponseExpiryRetriesOrEnds := by
  intro s c i hs hm hr ho hh earliest
  have hexec : exec (.responseTimerExpiry c) s = .next (s.waitExpired c).closeStep :=
    congrArg (fun v : State => Host.Outcome.next v.closeStep) (responseExpired_running hr)
  refine ⟨fun hst hn => ?_, fun hst hn hid how => ?_, fun hst how => ?_⟩
  · have hask := (EndsFrom.refl hm .noAnswer).identityRetried hs ho hh rfl rfl (State.Works.refl s) hst hn
    have hgap : earliestRetry s c = earliest := by
      have heff : ∀ k : Can, k.effectiveGap = if k.verdict = .busy then 4 * k.pace else k.pace := by
        intro k
        unfold Can.effectiveGap
        cases k.verdict <;> rfl
      cases c
      · exact congrArg some (heff _)
      · exact congrArg some (heff _)
      · rfl
    rw [waitExpired_identifying hst] at hexec
    refine ⟨_, hexec.trans (congrArg Host.Outcome.next hask.closed), ?_, fun hnw => hgap ▸ hask.holds hnw, hask.sameBeyond rfl rfl,
      hask.table, hask.history⟩
    rw [hask.slot, State.slot_withSlot]
    rfl
  · have hend := identityExpired_ended hs hm hh hn how
    rw [show identityFails s c .noAnswer = .noAnswer from if_pos hid] at hend
    exact ⟨_, hexec.trans (by rw [waitExpired_identifying hst]), hend⟩
  · exact ⟨_, hexec.trans (by rw [waitExpired_erasing hst]), ended_endDialog hs hm how .eraseDenied⟩

/-- Settles O35: HOLD_ON moves the response timer alone, and its expiry asks again or ends the dialog. -/
theorem waitsAreExtendedAndExpire : Obligations.WaitsAreExtendedAndExpire :=
  ⟨holdOnExtendsTheWait, responseExpiryRetriesOrEnds⟩

/-! ### The boot and keep-awake timers (R27, R29) -/

theorem bootTimerExpired_running (h : (s.slot c).boot ≠ none) : s.bootTimerExpired c = s.bootExpired c := by
  obtain ⟨n, hn⟩ := Option.ne_none_iff_exists'.mp h
  unfold State.bootTimerExpired
  rw [hn]

theorem bootExpiryAsksIdentity : BootExpiryAsksIdentity := by
  intro s c i hs hm hst hb ho hh
  have hfrom := EndsFrom.refl hm .noAnswer
  have hu : EndsFrom s c i (endOf s c .noAnswer) (s.withSlot c { s.slot c with boot := none, state := .identifying }) :=
    hfrom.withContext rfl rfl rfl
  have hask := hu.asked hs ho (by rw [State.slot_withSlot]; exact nofun) rfl ((State.Works.refl s).withSlot c _) .askId none
  have hx : (s.bootTimerExpired c).closeStep =
      (s.withSlot c { s.slot c with boot := none, state := .identifying }).hand c .askId := by
    rw [bootTimerExpired_running hb, hfrom.bootExpired_eq hh hst, if_neg (not_yieldPending_of_opened ho)]
    exact hask.closed
  exact ⟨_, congrArg Host.Outcome.next hx, hask.slot.trans (State.slot_withSlot s c _), hask.holds,
    hask.sameBeyond rfl rfl, hask.table, hask.history⟩

/-- A keep-awake timer that has just reloaded (R27). -/
def reloadedSlot (k : AutoTimer) (x : Slot) : Slot := { x with keepAwake := some ⟨k.period, k.period⟩ }

theorem keepAwakeExpired_sends {k : AutoTimer} (h : (s.slot c).keepAwake = some k)
    (hw : s.shareState c = .opened ∧ nothingWaits s c) :
    s.keepAwakeExpired c = (s.withSlot c (reloadedSlot k (s.slot c))).hand c .stay := by
  unfold State.keepAwakeExpired reloadedSlot
  rw [h]
  exact if_pos hw

theorem keepAwakeExpired_reloads {k : AutoTimer} (h : (s.slot c).keepAwake = some k)
    (hw : ¬ (s.shareState c = .opened ∧ nothingWaits s c)) :
    s.keepAwakeExpired c = s.withSlot c (reloadedSlot k (s.slot c)) := by
  unfold State.keepAwakeExpired reloadedSlot
  rw [h]
  exact if_neg hw

theorem keepAwakeExpirySendsStay : KeepAwakeExpirySendsStay := by
  intro s c i k hm hk
  have hu : EndsFrom s c i (endOf s c .complete) (s.withSlot c (reloadedSlot k (s.slot c))) :=
    (EndsFrom.refl hm .complete).withContext rfl rfl rfl
  have hw := (State.Works.refl s).withSlot c (reloadedSlot k (s.slot c))
  by_cases ho : s.shareState c = .opened ∧ nothingWaits s c
  · have hask := hu.hands rfl hw .stay none
    exact ⟨_, congrArg Host.Outcome.next (keepAwakeExpired_sends hk ho), hask.slot.trans (State.slot_withSlot s c _),
      fun _ => hask.holds, fun hn => absurd ho hn, hask.sameBeyond rfl rfl, hask.table, hask.history⟩
  · exact ⟨_, congrArg Host.Outcome.next (keepAwakeExpired_reloads hk ho), State.slot_withSlot s c _,
      fun h1 h2 => absurd ⟨h1, h2⟩ ho, fun _ => ⟨rfl, rfl, rfl⟩,
      ⟨fun d hd => ⟨State.slot_withSlot_other s hd _, rfl⟩, fun _ _ => rfl, fun _ => rfl, rfl, rfl, rfl,
        ownWork_of_works hw⟩, rfl, rfl⟩

/-- Settles O36: a boot wait that is over asks identity; the keep-awake timer reloads, with a STAY where nothing waits. -/
theorem bootAndKeepAwakeExpiries : Obligations.BootAndKeepAwakeExpiries :=
  ⟨bootExpiryAsksIdentity, keepAwakeExpirySendsStay⟩

end Sys2Proof.Claim
end

section
/-! Pages (R35 to R41): the attempt that fails, the bursts that draw a page, and the page committed whole. -/

namespace Sys2Proof.Claim

open Sys2Proof.Machine

variable {s t u v : State} {c d : Channel} {i : ModuleIndex} {e : DialogEnd} {o : SweepOutcome} {p : Profile}
  {m : History × List MergeReport}

/-! ### A page attempt fails (R39) -/

theorem failAttempt_stopped (s : State) (c : Channel) :
    (s.withSlot c (s.slot c).stopResponse).failAttempt c = s.failAttempt c := by
  have hx : (s.withSlot c (s.slot c).stopResponse).withSlot c
      ((s.withSlot c (s.slot c).stopResponse).slot c).stopResponse = s.withSlot c (s.slot c).stopResponse := by
    rw [State.slot_withSlot, State.withSlot_withSlot]
    rfl
  unfold State.failAttempt
  dsimp only
  rw [hx]

theorem pageSlot_stopped (x : Slot) : PageSlot x x.stopResponse := rfl

/-- The slot that asks its page a second time (R39). -/
def repeatedSlot (x : Slot) : Slot := { x.stopResponse.clearPage with attempt := 2, sub := .asked }

theorem repeatedSlot_of_pageSlot {x y : Slot} (hy : PageSlot x y) : repeatedSlot y = repeatedSlot x := by
  rw [(hy : y = _)]
  rfl

/-- The last failure of a page attempt (R39). -/
theorem EndsFrom.failAttempt_last (h : EndsFrom s c i e u) (hh : s.sweep.state ≠ .halting) (ha : (u.slot c).attempt ≠ 1) :
    u.failAttempt c = (u.withSlot c (u.slot c).stopResponse).endDialog c .partialRead := by
  have hu : EndsFrom s c i e (u.withSlot c (u.slot c).stopResponse) := h.withContext rfl rfl rfl
  have ha' : (u.slot c).stopResponse.attempt ≠ 1 := ha
  unfold State.failAttempt
  dsimp only
  rw [State.slot_withSlot, if_neg (hu.not_halting hh), if_pos ha']

/-- A failed attempt, from a slot in which only the page's own items have moved (R39). -/
theorem attemptFailed_of {y : Slot} (hy : PageSlot (s.slot c) y) (hs : Settled s) (hst : (s.slot c).state = .reading)
    (hm : (s.slot c).module = some i) (ho : s.shareState c = .opened) (hh : s.sweep.state ≠ .halting) :
    AttemptFailed s c i (.next ((s.withSlot c y).failAttempt c).closeStep) := by
  have hu : EndsFrom s c i (endOf s c .partialRead) (s.withSlot c y) := EndsFrom.of_pageSlot hy hm .partialRead
  have hatt : ((s.withSlot c y).slot c).attempt = (s.slot c).attempt := by
    rw [State.slot_withSlot]
    exact (congrArg Slot.attempt (hy : y = _) :)
  refine ⟨fun ha => ?_, fun ha how => ?_⟩
  · have hrep : EndsFrom s c i (endOf s c .partialRead) (s.withSlot c (repeatedSlot (s.slot c))) :=
      (EndsFrom.refl hm .partialRead).withContext rfl rfl rfl
    have hask := hrep.asked hs ho (by
      rw [State.slot_withSlot]
      exact fun hn => nomatch hst.symm.trans hn) rfl ((State.Works.refl s).withSlot c _) (.askPage (s.slot c).page) none
    have hx : (s.withSlot c y).failAttempt c =
        (s.withSlot c (repeatedSlot (s.slot c))).hand c (.askPage (s.slot c).page) := by
      rw [hu.failAttempt_eq hh (hatt.trans ha), if_neg (not_yieldPending_of_opened ho), State.slot_withSlot,
        State.withSlot_withSlot, ← repeatedSlot_of_pageSlot hy, show (s.slot c).page = y.page from
          (congrArg Slot.page (hy : y = _) :).symm]
      rfl
    rw [hx, hask.closed]
    exact ⟨_, rfl, hask.slot.trans (State.slot_withSlot s c _), hask.holds, hask.sameBeyond rfl rfl, hask.table,
      hask.history⟩
  · have hstop : EndsFrom s c i (endOf s c .partialRead) ((s.withSlot c y).withSlot c ((s.withSlot c y).slot c).stopResponse) :=
      hu.withContext rfl rfl rfl
    rw [hu.failAttempt_last hh (hatt ▸ ha)]
    exact ⟨_, rfl, hstop.ended rfl rfl (((State.Works.refl s).withSlot c y).withSlot c _) hs how⟩

theorem exec_segment_heard {index : BitVec 3} {data : List Byte} (hm : (s.slot c).module = some i)
    (hst : (s.slot c).state = .reading) (hh : heard s c (s.entry i)) (h0 : data ≠ [])
    (hl : data.length ≤ segmentCapacity c) :
    exec (.segment c index data) s = .next (s.onSegment c index data).closeStep := by
  have hx : s.serviceReceived c (.segment index data) = (s.onSegment c index data).closeStep :=
    serviceReceived_heard hm (listens_of hst nofun nofun) hh _
  rw [← hx]
  exact congrArg Host.Outcome.next (if_pos (segmentOk_of h0 hl))

theorem exec_pageHead_heard {page count : Byte} {length : Word16} {flags : Byte} {sum : Word16}
    (hm : (s.slot c).module = some i) (hst : (s.slot c).state = .reading) (hh : heard s c (s.entry i)) :
    exec (.pageHead c page count length flags sum) s =
      .next (s.onPageHead c page.toNat count.toNat length.toNat (bit flags 0) sum).closeStep :=
  congrArg Host.Outcome.next
    (serviceReceived_heard hm (listens_of hst nofun nofun) hh (.pageHead page count length flags sum))

/-- The head of an empty page with the asked number passes its checks (R35). -/
theorem emptyHead_passes {page : Byte} (hpage : page.toNat = (s.slot c).page) :
    ¬ headMalformed p (s.slot c) page 0 0 := by
  rintro (h | h | h | h)
  · exact h hpage
  · exact absurd h (by decide)
  · exact h (Nat.zero_mul _).symm
  · exact absurd h (by decide)

/-- Settles O30: every failure of a page attempt leads to the one rule of R39. -/
theorem pageAttemptsFail : Obligations.PageAttemptsFail := by
  intro s c i p hs hst hm hp hheard ho hh
  have hfail : ∀ {y : Slot}, PageSlot (s.slot c) y →
      AttemptFailed s c i (.next ((s.withSlot c y).failAttempt c).closeStep) :=
    fun hy => attemptFailed_of hy hs hst hm ho hh
  have hplain : AttemptFailed s c i (.next (s.failAttempt c).closeStep) := by
    rw [← failAttempt_stopped]
    exact hfail (pageSlot_stopped _)
  refine ⟨fun hsub page count length flags sum hbad => ?_, fun hsub hout hres h index data hhead hmis h0 hl => ?_,
    fun h index data hends hsum => ?_, fun hsub page flags sum hpage hsum => ?_, fun hres => ?_⟩
  · rw [exec_pageHead_heard hm hst hheard, onPageHead_malformed hst hsub hp hbad]
    exact hplain
  · rw [exec_segment_heard hm hst hheard h0 (by cases c <;> exact hl), onSegment_misfits hst hsub hres hhead hout hmis]
    exact hplain
  · have hx := onSegment_endsPage hends
    obtain ⟨-, -, -, -, hhead, -, -, hlen, h0⟩ := hends
    have hy := pageSlot_takeSegment (s.slot c) data
    rw [exec_segment_heard hm hst hheard h0 (hlen ▸ segmentBytes_le c _ _), hx,
      checkSum_eq hy hm hp hhead, if_neg (by exact hsum)]
    exact hfail hy
  · have hx := onPageHead_empty (more := bit flags 0) (sum := sum) hm hst hsub hp (emptyHead_passes (p := p) hpage)
    rw [if_neg hsum] at hx
    rw [exec_pageHead_heard hm hst hheard, hx]
    exact hfail (pageSlot_headTaken _ c _)
  · have hexec : exec (.responseTimerExpiry c) s = .next (s.failAttempt c).closeStep :=
      congrArg (fun v : State => Host.Outcome.next v.closeStep)
        ((responseExpired_running hres).trans (waitExpired_reading hst))
    rw [hexec]
    exact hplain

/-! ### Draw bursts (R36 to R38) -/

theorem segmentsFor_eq (c : Channel) (n : Nat) : segmentsFor c n = segmentsNeeded c n := by
  cases c <;> rfl

/-- A slot in which the next burst has been asked (R37). -/
def burstSlot (s : State) (x : Slot) : Slot :=
  { x with sub := .drawing, outstanding := min (s.setting .drawSize) (x.expected - x.received) }

/-- The next burst asked on an OPEN channel (R37). -/
theorem burstAsked {y : Slot} (hy : PageSlot (s.slot c) y) (hs : Settled s) (hst : (s.slot c).state = .reading)
    (hm : (s.slot c).module = some i) (ho : s.shareState c = .opened) (hh : s.sweep.state ≠ .halting) :
    Asked s c i (s.withSlot c (burstSlot s y)) (.draw (min (s.setting .drawSize) (y.expected - y.received))) none
      ((s.withSlot c y).nextBurst c) := by
  have hu : EndsFrom s c i (endOf s c .complete) (s.withSlot c y) := EndsFrom.of_pageSlot hy hm .complete
  have hb : EndsFrom s c i (endOf s c .complete) (s.withSlot c (burstSlot s y)) :=
    (EndsFrom.refl hm .complete).withContext (congrArg Slot.module (hy : y = _) :)
      (congrArg Slot.pagesRead (hy : y = _) :) (congrArg Slot.refused (hy : y = _) :)
  have hbusy : (burstSlot s y).state ≠ .free := by
    have hys : y.state = (s.slot c).state := (congrArg Slot.state (hy : y = _) :)
    exact fun hn => nomatch (hys.trans hst).symm.trans hn
  have hx : (s.withSlot c y).nextBurst c =
      (s.withSlot c (burstSlot s y)).hand c (.draw (min (s.setting .drawSize) (y.expected - y.received))) := by
    rw [hu.nextBurst_eq hh, if_neg (not_yieldPending_of_opened ho)]
    unfold State.startBurst
    dsimp only
    rw [State.slot_withSlot, State.withSlot_withSlot]
    rfl
  rw [hx]
  exact hb.asked hs ho (by rw [State.slot_withSlot]; exact hbusy) rfl ((State.Works.refl s).withSlot c _) _ _

theorem pageHeadStartsTheFirstBurst : PageHeadStartsTheFirstBurst := by
  intro s c i p page count length flags sum hs hst hsub hm hp hheard hok hlen ho hh m k
  have hn : ¬ segmentsFor c length.toNat = 0 := fun hz =>
    hlen (BitVec.eq_of_toNat_eq ((segmentsFor_eq_zero c _).mp hz))
  have hask := burstAsked (pageSlot_headTaken (s.slot c) c ⟨count.toNat, length.toNat, bit flags 0, sum⟩) hs hst hm ho hh
  have hk : min (s.setting .drawSize) (segmentsFor c length.toNat - 0) = k := by
    rw [Nat.sub_zero, segmentsFor_eq]
  have hslot : burstSlot s (headTakenSlot (s.slot c) c ⟨count.toNat, length.toNat, bit flags 0, sum⟩) =
      { s.slot c with
        sub := .drawing, response := none, expected := m, received := 0, outstanding := k, staging := [],
        head := some { count := count.toNat, length := length.toNat, more := flags.getLsbD 0, sum } } := by
    rw [← hk]
    unfold burstSlot headTakenSlot
    dsimp only
    rw [segmentsFor_eq]
    rfl
  rw [exec_pageHead_heard hm hst hheard, onPageHead_taken hst hsub hp hok, if_neg hn, hask.closed]
  refine ⟨_, rfl, ?_, fun hw => ?_, hask.sameBeyond rfl rfl, hask.table, hask.history⟩
  · rw [hask.slot, State.slot_withSlot, hslot]
  · rw [← hk]
    exact hask.holds hw

/-- A segment that leaves segments of its burst outstanding (R38). -/
theorem onSegment_staged {h : PageHead} {index : BitVec 3} {data : List Byte} (hst : (s.slot c).state = .reading)
    (hsub : (s.slot c).sub = .drawing) (hres : (s.slot c).response ≠ none) (hh : (s.slot c).head = some h)
    (hout : 2 ≤ (s.slot c).outstanding) (hfit : ¬ segmentMisfits c (s.slot c) h index data) :
    s.onSegment c index data = (s.withSlot c ((s.slot c).takeSegment data)).loadResponse c := by
  have hleft : 0 < ((s.slot c).takeSegment data).outstanding := by
    show 0 < (s.slot c).outstanding - 1
    omega
  unfold State.onSegment
  dsimp only
  rw [if_pos ⟨hst, hsub, by omega, Option.isSome_iff_ne_none.mpr hres⟩, if_pos ((segmentFits_iff hh index data).mpr hfit),
    if_pos hleft]

theorem segmentFits_length {h : PageHead} {index : BitVec 3} {data : List Byte} {x : Slot}
    (hfit : ¬ segmentMisfits c x h index data) : data.length ≤ segmentCapacity c := by
  have hlen : data.length = segmentBytes c h.length x.received := not_ne_iff.mp (fun hn => hfit (.inr hn))
  exact hlen ▸ segmentBytes_le c _ _

/-- A busy slot that stays busy, with nothing else changed, leaves nothing to settle. -/
theorem settled_withSlot (hs : Settled s) (x : Slot) (hx : x.state = (s.slot c).state) : Settled (s.withSlot c x) := by
  have hstate : ∀ d, ((s.withSlot c x).slot d).state = (s.slot d).state := by
    intro d
    by_cases hd : d = c
    · rw [hd, State.slot_withSlot, hx]
    · rw [State.slot_withSlot_other s hd x]
  exact hs.of_states hstate (fun _ => rfl) rfl rfl rfl

theorem segmentIsStaged : SegmentIsStaged := by
  intro s c i h index data hs hst hsub hout hres hm hheard hhead hfit h0
  have hwait : (s.withSlot c ((s.slot c).takeSegment data)).responseWait c = (s.entry i).responseWait := by
    have hm' : ((s.withSlot c ((s.slot c).takeSegment data)).slot c).module = some i := by
      rw [State.slot_withSlot]
      exact hm
    unfold State.responseWait State.slotEntry
    rw [hm']
    rfl
  have hx : s.onSegment c index data = s.withSlot c
      { s.slot c with
        staging := (s.slot c).staging ++ data, received := (s.slot c).received + 1,
        outstanding := (s.slot c).outstanding - 1, holdOns := 0,
        response := some { left := (s.entry i).responseWait * 10, since := 0 } } := by
    rw [onSegment_staged hst hsub hres hhead hout hfit, State.loadResponse, hwait, State.slot_withSlot,
      State.withSlot_withSlot]
    rfl
  rw [exec_segment_heard hm hst hheard h0 (segmentFits_length hfit), hx]
  exact congrArg Host.Outcome.next (closeStep_settled (settled_withSlot hs _ rfl))

theorem burstFollowsBurst : BurstFollowsBurst := by
  intro s c i h index data hs hst hsub hout hres hm hheard hhead hfit h0 hmore ho hh k
  have hask := burstAsked (pageSlot_takeSegment (s.slot c) data) hs hst hm ho hh
  rw [exec_segment_heard hm hst hheard h0 (segmentFits_length hfit), onSegment_last hst hsub hres hhead hout hfit,
    if_neg hmore, hask.closed]
  refine ⟨_, rfl, ?_, hask.holds, hask.sameBeyond rfl rfl, hask.table, hask.history⟩
  rw [hask.slot, State.slot_withSlot]
  unfold burstSlot Slot.takeSegment Slot.stopResponse
  dsimp only
  rw [hsub]

/-- Settles O31: the page head, each segment and each burst's end follow the rules of R35 to R38. -/
theorem pagesAreDrawnInBursts : Obligations.PagesAreDrawnInBursts :=
  ⟨pageHeadStartsTheFirstBurst, segmentIsStaged, burstFollowsBurst⟩

/-! ### A page committed whole (R40, R41) -/

theorem works_committed (s : State) (c : Channel) (i : ModuleIndex) (p : Profile) (bs : List Byte) :
    s.Works (committed s c (pageMerged s c i p bs)) := by
  have hy : PageSlot (s.slot c) { s.slot c with response := none, staging := bs } := rfl
  rw [← mergePage_eq hy p i]
  exact ((State.Works.refl s).withSlot c _).mergePage c p i

/-- The next page asked on an OPEN channel once a page is committed (R41; log entry 14). -/
theorem nextPageAsked (hm : (s.slot c).module = some i) (hs : Settled s) (ho : s.shareState c = .opened)
    (hh : s.sweep.state ≠ .halting) (hw : s.Works (committed s c m)) (hpage : (s.slot c).page < 31) :
    Asked s c i ((committed s c m).withSlot c (askingSlot s c (pageCommitted (s.slot c) m) ((s.slot c).page + 1)))
      (.askPage ((s.slot c).page + 1)) none ((committed s c m).afterCommit c i true) := by
  have hfrom := committed_endsFrom hm m .complete
  have hslot := slot_committed s c m
  have hpage' : ((committed s c m).slot c).page = (s.slot c).page := by
    rw [hslot]
    rfl
  have hx : (committed s c m).afterCommit c i true =
      ((committed s c m).withSlot c (askingSlot s c (pageCommitted (s.slot c) m) ((s.slot c).page + 1))).hand c
        (.askPage ((s.slot c).page + 1)) := by
    unfold State.afterCommit
    dsimp only
    rw [if_pos rfl, hpage', if_pos hpage, hfrom.enterPage_eq hh hw (by rw [hslot]; rfl),
      if_neg (not_yieldPending_of_opened ho), hslot]
  have hu : EndsFrom s c i (endAfterPage s c m .complete)
      ((committed s c m).withSlot c (askingSlot s c (pageCommitted (s.slot c) m) ((s.slot c).page + 1))) :=
    hfrom.withContext (by rw [hslot]; rfl) (by rw [hslot]; rfl) (by rw [hslot]; rfl)
  rw [hx]
  refine hu.asked hs ho ?_ rfl (hw.withSlot c _) _ _
  rw [State.slot_withSlot]
  exact nofun

theorem nextPageSlot_eq (hst : (s.slot c).state = .reading) (n : Nat) :
    askingSlot s c (pageCommitted (s.slot c) m) n =
      { s.slot c with
        response := none, staging := [], head := none, expected := 0, received := 0, outstanding := 0, sub := .asked,
        attempt := 1, page := n, pagesRead := (s.slot c).pagesRead + 1,
        refused := (s.slot c).refused + m.2.count .refused, keepAwake := awake s c } := by
  unfold askingSlot pageCommitted
  dsimp only
  rw [hst]

theorem exec_completingSegment {h : PageHead} {index : BitVec 3} {data : List Byte} (hm : (s.slot c).module = some i)
    (hp : s.slotProfile c = some p) (hheard : heard s c (s.entry i)) (hc : completesPage s c h index data) :
    exec (.segment c index data) s =
      .next ((committed s c (pageMerged s c i p ((s.slot c).staging ++ data))).afterCommit c i h.more).closeStep := by
  have hx := onSegment_completesPage hm hp hc
  obtain ⟨⟨hst, -, -, -, -, -, -, hlen, h0⟩, -⟩ := hc
  rw [exec_segment_heard hm hst hheard h0 (hlen ▸ segmentBytes_le c _ _), hx]

theorem pageIsCommittedWhole : PageIsCommittedWhole := by
  intro s c i p h index data hs hc hm hp hheard ho hh hmore hpage sightings merged
  have hask := nextPageAsked hm hs ho hh (works_committed s c i p ((s.slot c).staging ++ data)) hpage
  rw [exec_completingSegment hm hp hheard hc, hmore, hask.closed]
  refine ⟨_, rfl, hask.history, ?_, hask.sweep, hask.holds, hask.table, hask.link, fun d hd => (hask.others d hd).1,
    hask.own⟩
  rw [hask.slot, State.slot_withSlot, nextPageSlot_eq hc.1.1]
  rfl

/-- A page of no records leaves the sweep as it is (R9). -/
theorem sweepAfterPage_nil (s : State) (h : History) : sweepAfterPage s (h, []) = s.sweep := rfl

theorem exec_emptyHead {page flags : Byte} (hm : (s.slot c).module = some i) (hp : s.slotProfile c = some p)
    (hheard : heard s c (s.entry i)) (hst : (s.slot c).state = .reading) (hsub : (s.slot c).sub = .asked)
    (hpage : page.toNat = (s.slot c).page) :
    exec (.pageHead c page 0 0 flags 0) s =
      .next ((committed s c (s.history, [])).afterCommit c i (flags.getLsbD 0)).closeStep := by
  have hx := onPageHead_empty (more := bit flags 0) (sum := 0) hm hst hsub hp (emptyHead_passes (p := p) hpage)
  rw [exec_pageHead_heard hm hst hheard, hx]
  rfl

theorem emptyPageIsCommittedAtItsHead : EmptyPageIsCommittedAtItsHead := by
  intro s c i p page flags hs hst hsub hm hp hheard hnum hmore hpage ho hh
  have hw : s.Works (committed s c (s.history, [])) := by
    rw [← pageMerged_nil s c i p]
    exact works_committed s c i p []
  have hask := nextPageAsked hm hs ho hh hw hpage
  rw [exec_emptyHead hm hp hheard hst hsub hnum, hmore, hask.closed]
  refine ⟨_, rfl, ?_, hask.holds, hask.sameBeyond rfl rfl, hask.table, hask.history⟩
  rw [hask.slot, State.slot_withSlot, nextPageSlot_eq hst]
  rfl

/-- After page 31 with more pages to come the dialog ends, the halt deciding its outcome (R14, R41). -/
theorem afterCommit_page31 (hm : (s.slot c).module = some i) (hpage : (s.slot c).page = 31) :
    (committed s c m).afterCommit c i true =
      (committed s c m).endDialog c (if s.sweep.state = .halting then .aborted else .partialRead) := by
  have hpage' : ¬ ((committed s c m).slot c).page < 31 := by
    rw [slot_committed]
    exact not_lt.mpr hpage.ge
  unfold State.afterCommit
  dsimp only
  rw [if_pos rfl, if_neg hpage']
  by_cases hh : s.sweep.state = .halting
  · rw [if_pos ((committed_endsFrom hm m .aborted).halting.mpr hh), if_pos hh]
  · rw [if_neg ((committed_endsFrom hm m .aborted).not_halting hh), if_neg hh]

theorem page31WithMoreEndsThePartialRead : Page31WithMoreEndsThePartialRead := by
  intro s c i p h index data hs hc hm hp hheard hmore hpage how merged o
  have hfrom := committed_endsFrom hm merged o
  have hover : DialogOver s c i (endAfterPage s c merged o) ((committed s c merged).endDialog c o) :=
    hfrom.over ((works_committed s c i p ((s.slot c).staging ++ data)).endDialog c o)
  have hhist : ((committed s c merged).endDialog c o).history = merged.1 :=
    (congrArg State.history hfrom.endDialog_withSweep :).trans (outcomeRecorded_history _ c i _)
  obtain ⟨hslot, hout, hnum, -, -, -, -, hnotice, -, -, -, hothers, hown⟩ := hover.endedWith hs how
  have hexec : exec (.segment c index data) s = .next ((committed s c merged).endDialog c o).closeStep := by
    rw [exec_completingSegment hm hp hheard hc, hmore, afterCommit_page31 hm hpage]
    rfl
  exact ⟨_, hexec, (hover.closeStep_yieldOnly hs how).history.trans hhist, hslot, hout, hnum,
    fun hroom => by simpa [endAfterPage] using hnotice hroom, hothers, hown⟩

/-- Settles O32: a page of the right sum is committed whole, an empty one at its head, and page 31 is the last. -/
theorem pagesAreCommittedWhole : Obligations.PagesAreCommittedWhole :=
  ⟨pageIsCommittedWhole, emptyPageIsCommittedAtItsHead, page31WithMoreEndsThePartialRead⟩

end Sys2Proof.Claim
end

section
/-! A resumed dialog at its identity reply, and when its identity fails (R31 to R33, R42, R48, R49). -/

namespace Sys2Proof.Claim

open Sys2Proof.Machine

variable {s t u v : State} {c d : Channel} {i : ModuleIndex} {e : DialogEnd} {o : SweepOutcome} {g : Word16}
  {ref : ProfileRef} {p : Profile}

/-! ### What the resume point decides (R49) -/

section
variable {b : Bool}

theorem settleResumed_page (h : (u.slot c).resume = .page) (hh : ¬ u.halting = true) :
    u.settleResumed c g b = if b then u.enterPage c (u.slot c).page else u.endDialog c .partialRead := by
  unfold State.settleResumed
  dsimp only
  rw [h]
  exact if_neg hh

theorem settleResumed_erase (h : (u.slot c).resume = .erase) (hh : ¬ u.halting = true) :
    u.settleResumed c g b = if b && u.eraseDue c then u.enterErase c else u.endDialog c .complete := by
  unfold State.settleResumed
  dsimp only
  rw [h]
  exact if_neg hh

theorem settleResumed_refer (h : (u.slot c).resume = .refer) :
    u.settleResumed c g b =
      if b then u.resumeRefer c g else (u.withSlot c { u.slot c with referral := none }).settleProfile c g := by
  unfold State.settleResumed
  dsimp only
  rw [h]

end

/-- The lookup of a resumed dialog redone, with nothing found: it waits on with its timer as it is (R49). -/
theorem EndsFrom.resumeRefer_unknown (h : EndsFrom s c i e u) (hh : s.sweep.state ≠ .halting)
    (hl : u.store.lookup g = none) :
    u.resumeRefer c g =
      if s.shareState c = .yieldPending then (u.resolve c .unresolved).park c .refer
      else (u.resolve c .unresolved).enterReferred c
        { (u.resolve c .unresolved).slot c with state := .referred, sub := .asked } := by
  unfold State.resumeRefer
  rw [hl]
  exact (h.resolve .unresolved).boundary hh _ _ _

theorem resumeRefer_profile (hl : u.store.lookup g = some (.profile ref)) :
    u.resumeRefer c g = (u.resolve c (.resolved ref g)).settleFound c ref := by
  unfold State.resumeRefer
  rw [hl]

theorem resumeRefer_decline (hl : u.store.lookup g = some .decline) :
    u.resumeRefer c g = (u.resolve c (.declined g)).endDialog c .unsupported := by
  unfold State.resumeRefer
  rw [hl]

/-- The erase decision of a resumed dialog after its identity reply, as the statements say it (R42, R49). -/
theorem eraseStillDue_iff {clock : ClockBytes} {flags : Byte} (hp : s.slotProfile c = some p) :
    ((s.slot c).tag == some g && (identityTaken s c g clock flags).eraseDue c) = true ↔ eraseStillDue s c p g flags := by
  refine ⟨eraseStillDue_of_eraseDue hp, fun hd => ?_⟩
  obtain ⟨htag, hopt, hallow, hcap, href, hhalt⟩ := hd
  have hp' : (identityTaken s c g clock flags).slotProfile c = some p := (slotProfile_withSlot (by exact rfl)).trans hp
  have hslot := slot_identityTaken s c g clock flags
  have hdue : (identityTaken s c g clock flags).eraseDue c = true := by
    unfold State.eraseDue
    rw [hslot, hp']
    simp only [Bool.and_eq_true, beq_iff_eq, Bool.not_eq_true']
    exact ⟨⟨⟨⟨hopt, hallow⟩, hcap⟩, href⟩, hhalt⟩
  rw [htag, hdue, beq_self_eq_true, Bool.true_and]

/-! ### Served and declined tags -/

/-- A profile found for the tag of a dialog that goes on (R32, R34, R49). -/
theorem EndsFrom.servedAsked (h : EndsFrom s c i e u) (hs : Settled s) (ho : s.shareState c = .opened)
    (hh : s.sweep.state ≠ .halting) (hline : u.line = s.line) (hw : s.Works u)
    (hk : (u.slot c).keepAwake = (s.slot c).keepAwake) (hent : u.entry i = s.entry i) (ref : ProfileRef) (g : Word16) :
    ∃ v, Asked s c i v (.askPage 0) none ((u.resolve c (.resolved ref g)).settleFound c ref)
      ∧ v.slot c = askingSlot s c { u.slot c with profile := some ref, referral := none } 0
      ∧ v.entry i = { s.entry i with resolution := .resolved ref g } ∧ (∀ j, j ≠ i → v.entry j = s.entry j)
      ∧ v.sweep = u.sweep ∧ v.link = u.link ∧ v.history = u.history := by
  have hres : EndsFrom s c i e _ := h.resolve (.resolved ref g)
  have hworks := hw.withResolution i (.resolved ref g)
  rw [State.resolve_eq h.module] at hres ⊢
  have hask := hres.foundAsked hs ho hh hline hworks hk ref
  refine ⟨_, hask, State.slot_withSlot _ c _, ?_, hres.entries, rfl, rfl, rfl⟩
  rw [← hent]
  exact State.entry_withEntry u i _

/-! ### An identity reply in a resumed dialog, on an OPEN channel without a halt -/

/-- A resumed dialog, on an OPEN channel and not halted, is about to take an identity reply of a legal tag (R24, R49). -/
structure Resumes (s : State) (c : Channel) (i : ModuleIndex) (g : Word16) : Prop where
  settled : Settled s
  awaits : awaitsResumedReply s c
  module : (s.slot c).module = some i
  heard : heard s c (s.entry i)
  legal : g ≠ 0 ∧ g ≠ 0xFFFF
  opened : s.shareState c = .opened
  running : s.sweep.state ≠ .halting

variable {clock : ClockBytes} {flags : Byte}

theorem identityTaken_keepAwake :
    ((identityTaken s c g clock flags).slot c).keepAwake = (s.slot c).keepAwake := by
  rw [slot_identityTaken]
  rfl

theorem identityTaken_resume {q : ResumePoint} (h : (s.slot c).resume = q) :
    ((identityTaken s c g clock flags).slot c).resume = q := by
  rw [slot_identityTaken]
  exact h

namespace Resumes

theorem endsFrom (h : Resumes s c i g) (clock : ClockBytes) (flags : Byte) (o : SweepOutcome) :
    EndsFrom s c i (endOf s c o) (identityTaken s c g clock flags) := identityTaken_endsFrom h.module g clock flags o

theorem not_halting (h : Resumes s c i g) (clock : ClockBytes) (flags : Byte) :
    ¬ (identityTaken s c g clock flags).halting = true := (h.endsFrom clock flags .complete).not_halting h.running

theorem exec_eq (h : Resumes s c i g) (clock : ClockBytes) (flags : Byte) :
    exec (.idReply c g clock flags) s =
      .next ((identityTaken s c g clock flags).settleResumed c g ((s.slot c).tag == some g)).closeStep :=
  (exec_idReply h.module h.heard h.awaits.1 g clock flags).trans
    (congrArg (fun v : State => Host.Outcome.next v.closeStep)
      (onIdReply_resumed h.awaits h.legal.1 h.legal.2 clock flags))

/-- The dialog ends with an outcome that its resume point gives. -/
theorem ended (h : Resumes s c i g) (ho : otherWork s c)
    (hx : (identityTaken s c g clock flags).settleResumed c g ((s.slot c).tag == some g) =
      (identityTaken s c g clock flags).endDialog c o) :
    ∃ t, exec (.idReply c g clock flags) s = .next t ∧ Ended s t c i o := by
  refine ⟨_, h.exec_eq clock flags, ?_⟩
  rw [hx]
  exact (h.endsFrom clock flags o).ended rfl rfl (identityTaken_works s c g clock flags) h.settled ho

/-- At PAGE with its tag the dialog asks the kept page (R49). -/
theorem page_asked (h : Resumes s c i g) (hq : (s.slot c).resume = .page) (htag : (s.slot c).tag = some g) :
    ∃ t, exec (.idReply c g clock flags) s = .next t
      ∧ t.slot c = { identifiedSlot s c g clock flags with
          state := .reading, sub := .asked, attempt := 1, keepAwake := awake s c }
      ∧ (nothingWaits s c → holds s t c (s.entry i) (.askPage (s.slot c).page))
      ∧ SameBeyond s t c ∧ t.table = s.table ∧ t.history = s.history := by
  have hslot := slot_identityTaken s c g clock flags
  have hpage : ((identityTaken s c g clock flags).slot c).page = (s.slot c).page := by
    rw [hslot]
    rfl
  have hw := identityTaken_works s c g clock flags
  have hu : EndsFrom s c i (endOf s c .complete) ((identityTaken s c g clock flags).withSlot c
      (askingSlot s c ((identityTaken s c g clock flags).slot c) (s.slot c).page)) :=
    (h.endsFrom clock flags .complete).withContext rfl rfl rfl
  have hask := hu.asked h.settled h.opened (by rw [State.slot_withSlot]; exact nofun) rfl (hw.withSlot c _)
    (.askPage (s.slot c).page) none
  have hx : (identityTaken s c g clock flags).settleResumed c g ((s.slot c).tag == some g) =
      ((identityTaken s c g clock flags).withSlot c
        (askingSlot s c ((identityTaken s c g clock flags).slot c) (s.slot c).page)).hand c (.askPage (s.slot c).page) := by
    rw [settleResumed_page (identityTaken_resume hq) (h.not_halting clock flags), if_pos (beq_iff_eq.mpr htag), hpage,
      (h.endsFrom clock flags .complete).enterPage_eq h.running hw identityTaken_keepAwake,
      if_neg (not_yieldPending_of_opened h.opened)]
  refine ⟨_, (h.exec_eq clock flags).trans (congrArg Host.Outcome.next ((congrArg State.closeStep hx).trans hask.closed)),
    ?_, hask.holds, hask.sameBeyond rfl rfl, hask.table, hask.history⟩
  rw [hask.slot, State.slot_withSlot, hslot]
  rfl

/-- At ERASE with an erase still due the dialog asks it (R49). -/
theorem erase_asked (h : Resumes s c i g) (hq : (s.slot c).resume = .erase) (hp : s.slotProfile c = some p)
    (hd : eraseStillDue s c p g flags) :
    ∃ t, exec (.idReply c g clock flags) s = .next t
      ∧ t.slot c = { identifiedSlot s c g clock flags with state := .erasing, sub := .asked, keepAwake := awake s c }
      ∧ (nothingWaits s c → holds s t c (s.entry i) .erase)
      ∧ SameBeyond s t c ∧ t.table = s.table ∧ t.history = s.history := by
  have hslot := slot_identityTaken s c g clock flags
  have hw := identityTaken_works s c g clock flags
  have hu : EndsFrom s c i (endOf s c .complete) ((identityTaken s c g clock flags).withSlot c
      { (identityTaken s c g clock flags).slot c with state := .erasing, sub := .asked, keepAwake := awake s c }) :=
    (h.endsFrom clock flags .complete).withContext rfl rfl rfl
  have hask := hu.asked h.settled h.opened (by rw [State.slot_withSlot]; exact nofun) rfl (hw.withSlot c _) .erase none
  have hx : (identityTaken s c g clock flags).settleResumed c g ((s.slot c).tag == some g) =
      ((identityTaken s c g clock flags).withSlot c { (identityTaken s c g clock flags).slot c with
        state := .erasing, sub := .asked, keepAwake := awake s c }).hand c .erase := by
    rw [settleResumed_erase (identityTaken_resume hq) (h.not_halting clock flags), if_pos ((eraseStillDue_iff hp).mpr hd),
      (h.endsFrom clock flags .complete).enterErase_eq hw identityTaken_keepAwake,
      if_neg (not_yieldPending_of_opened h.opened)]
  refine ⟨_, (h.exec_eq clock flags).trans (congrArg Host.Outcome.next ((congrArg State.closeStep hx).trans hask.closed)),
    ?_, hask.holds, hask.sameBeyond rfl rfl, hask.table, hask.history⟩
  rw [hask.slot, State.slot_withSlot, hslot]

/-! At REFER the tag is looked up, or settled as a first one is. -/

/-- A tag that a profile serves, by the lookup redone or as a first one (R32, R49). -/
theorem served (h : Resumes s c i g) {u : State} (hu : EndsFrom s c i (endOf s c .complete) u)
    (hx : (identityTaken s c g clock flags).settleResumed c g ((s.slot c).tag == some g) =
      (u.resolve c (.resolved ref g)).settleFound c ref)
    (hslot : { u.slot c with referral := none } = { identifiedSlot s c g clock flags with referral := none })
    (hent : u.entry i = s.entry i) (hsame : u.line = s.line ∧ u.sweep = s.sweep ∧ u.link = s.link ∧ u.history = s.history)
    (hw : s.Works u) :
    ∃ t, exec (.idReply c g clock flags) s = .next t
      ∧ t.slot c = { identifiedSlot s c g clock flags with
          state := .reading, sub := .asked, page := 0, attempt := 1, profile := some ref, referral := none,
          keepAwake := awake s c }
      ∧ t.entry i = { s.entry i with resolution := .resolved ref g } ∧ (∀ j, j ≠ i → t.entry j = s.entry j)
      ∧ (nothingWaits s c → holds s t c (s.entry i) (.askPage 0))
      ∧ SameBeyond s t c ∧ t.history = s.history := by
  obtain ⟨hline, hsweep, hlink, hhist⟩ := hsame
  have hk : (u.slot c).keepAwake = (s.slot c).keepAwake := (congrArg Slot.keepAwake hslot :)
  obtain ⟨v, hask, hv, hvi, hvj, hvw, hvl, hvh⟩ :=
    hu.servedAsked h.settled h.opened h.running hline hw hk hent ref g
  refine ⟨_, (h.exec_eq clock flags).trans (congrArg Host.Outcome.next ((congrArg State.closeStep hx).trans hask.closed)),
    ?_, (State.entry_congr hask.table i).trans hvi, fun j hj => (State.entry_congr hask.table j).trans (hvj j hj),
    hask.holds, hask.sameBeyond (hvw.trans hsweep) (hvl.trans hlink), hask.history.trans (hvh.trans hhist)⟩
  rw [hask.slot, hv]
  exact (congrArg (fun x : Slot => askingSlot s c { x with profile := some ref } 0) hslot :)

/-- A tag that is declined, by the lookup redone or as a first one (R32, R49). -/
theorem declined (h : Resumes s c i g) (ho : otherWork s c) {x : Slot} (hxm : x.module = some i)
    (hxp : x.pagesRead = (s.slot c).pagesRead) (hxr : x.refused = (s.slot c).refused)
    (hx : (identityTaken s c g clock flags).settleResumed c g ((s.slot c).tag == some g) =
      ((s.withSlot c x).resolve c (.declined g)).endDialog c .unsupported) :
    ∃ t, exec (.idReply c g clock flags) s = .next t
      ∧ Ended { s with table := s.table.set i { s.entry i with resolution := .declined g } } t c i .unsupported := by
  refine ⟨_, h.exec_eq clock flags, ?_⟩
  have hxm' : ((s.withSlot c x).slot c).module = some i := by
    rw [State.slot_withSlot]
    exact hxm
  have hs := h.settled
  have hm := h.module
  rw [hx, State.resolve_eq hxm']
  generalize hb : ({ s with table := s.table.set i { s.entry i with resolution := .declined g } } : State) = b
  have hmb : (b.slot c).module = some i := hb ▸ hm
  have hu : (s.withSlot c x).withEntry i { (s.withSlot c x).entry i with resolution := .declined g } = b.withSlot c x :=
    hb ▸ rfl
  have hu' : EndsFrom b c i (endOf b c .unsupported) (b.withSlot c x) :=
    (EndsFrom.refl hmb .unsupported).withContext (hb ▸ hxm.trans hm.symm) (hb ▸ hxp) (hb ▸ hxr)
  rw [hu]
  exact hu'.ended rfl rfl ((State.Works.refl b).withSlot c _) (hb ▸ hs) (hb ▸ ho)

/-- The lookup redone finds nothing: the dialog is REFERRED again (R33, R49). -/
theorem unknown_again (h : Resumes s c i g) (hq : (s.slot c).resume = .refer) (htag : (s.slot c).tag = some g)
    (hl : s.store.lookup g = none) :
    exec (.idReply c g clock flags) s =
      .next { requestsDropped s c with
        table := s.table.set i { s.entry i with resolution := .unresolved },
        slots := s.slots.set c { identifiedSlot s c g clock flags with
          state := .referred, sub := .asked, keepAwake := awake s c } } := by
  have hfrom := h.endsFrom clock flags .complete
  have hu : (identityTaken s c g clock flags).resolve c .unresolved =
      { s with
        slots := s.slots.set c (identifiedSlot s c g clock flags),
        table := s.table.set i { s.entry i with resolution := .unresolved }, history := s.history, link := s.link } := by
    rw [State.resolve_eq hfrom.module]
    rfl
  have hus : ((identityTaken s c g clock flags).resolve c .unresolved).slot c = identifiedSlot s c g clock flags := by
    rw [State.resolve_eq hfrom.module]
    exact slot_identityTaken s c g clock flags
  have hf := State.FramesOnly.dropRequests s c TxFrame.isOwnRequest
  rw [dropRequests_eq_requestsDropped] at hf
  have hx : (identityTaken s c g clock flags).settleResumed c g ((s.slot c).tag == some g) =
      { requestsDropped s c with
        slots := s.slots.set c { identifiedSlot s c g clock flags with
          state := .referred, sub := .asked, keepAwake := awake s c },
        table := s.table.set i { s.entry i with resolution := .unresolved }, history := s.history, link := s.link } := by
    rw [settleResumed_refer (identityTaken_resume hq), if_pos (beq_iff_eq.mpr htag), hfrom.resumeRefer_unknown h.running hl,
      if_neg (not_yieldPending_of_opened h.opened), hus, hu, enterReferred_eq (by exact rfl)]
  rw [h.exec_eq, hx, closeStep_referred h.settled h.opened (by exact rfl)]
  simp only [← hf.link, ← hf.history]

/-- Another tag that is found nowhere raises a new REFERRAL with a new timer (R33, R49). -/
theorem unknown_other (h : Resumes s c i g) (hq : (s.slot c).resume = .refer) (htag : ¬ (s.slot c).tag = some g)
    (hg : tagUnknown s i g) :
    exec (.idReply c g clock flags) s =
      .next (noticed
        { requestsDropped s c with
          table := s.table.set i { s.entry i with resolution := .unresolved },
          slots := s.slots.set c { identifiedSlot s c g clock flags with
            state := .referred, sub := .asked, referral := some (s.setting .referralTimeout * 1000),
            keepAwake := awake s c } }
        (.referral i g)) := by
  have hslot := slot_identityTaken s c g clock flags
  have hfrom : EndsFrom s c i (endOf s c .complete) ((identityTaken s c g clock flags).withSlot c
      { (identityTaken s c g clock flags).slot c with referral := none }) :=
    (h.endsFrom clock flags .complete).withContext rfl rfl rfl
  have hus : ((identityTaken s c g clock flags).withSlot c
      { (identityTaken s c g clock flags).slot c with referral := none }).slot c =
      { identifiedSlot s c g clock flags with referral := none } := by
    rw [State.slot_withSlot, hslot]
  have hrefer := hfrom.refer_eq h.running ((identityTaken_works s c g clock flags).withSlot c _) g
  have hu : (((identityTaken s c g clock flags).withSlot c
      { (identityTaken s c g clock flags).slot c with referral := none }).resolve c .unresolved).notify (.referral i g) =
      { s with
        slots := s.slots.set c { identifiedSlot s c g clock flags with referral := none },
        table := s.table.set i { s.entry i with resolution := .unresolved }, history := s.history,
        link := s.link.notify (.referral i g) } := by
    rw [State.resolve_eq hfrom.module, hslot]
    cases c <;> rfl
  have hf := State.FramesOnly.dropRequests s c TxFrame.isOwnRequest
  rw [dropRequests_eq_requestsDropped] at hf
  rw [if_neg (not_yieldPending_of_opened h.opened), hus, hu, enterReferred_eq (by exact rfl)] at hrefer
  rw [h.exec_eq, settleResumed_refer (identityTaken_resume hq), if_neg (fun hn => htag (beq_iff_eq.mp hn)),
    hfrom.settleProfile_unknown rfl rfl hg, hrefer, closeStep_referred h.settled h.opened (by exact rfl),
    noticed_eq_notify]
  simp only [State.notify, State.withLink, hf.link, ← hf.history]
  rfl

end Resumes

/-! ### The obligation -/

theorem resumedIdentityGoesOn : ResumedIdentityGoesOn := by
  intro s c i g clock flags hs ha hm hheard h0 hf ho hh
  have h : Resumes s c i g := ⟨hs, ha, hm, hheard, ⟨h0, hf⟩, ho, hh⟩
  have hdiff : ¬ (s.slot c).tag = some g → ¬ ((s.slot c).tag == some g) = true := fun hn hb => hn (beq_iff_eq.mp hb)
  have hslot := slot_identityTaken s c g clock flags
  refine ⟨h.page_asked, fun hq hsm hot => h.ended hot ?_, fun p hq hp => ⟨h.erase_asked hq hp, fun hd hot => h.ended hot ?_⟩,
    fun hq hsm => ⟨fun ref hl => ?_, fun hl hot => ?_, h.unknown_again hq hsm⟩,
    fun hq hsm => ⟨fun ref hg => ?_, fun hg hot => ?_⟩, fun hq hsm hn1 hn2 hl => h.unknown_other hq hsm ⟨hn1, hn2, hl⟩⟩
  · rw [settleResumed_page (identityTaken_resume hq) (h.not_halting clock flags), if_neg (hdiff hsm)]
  · rw [settleResumed_erase (identityTaken_resume hq) (h.not_halting clock flags),
      if_neg (fun hn => hd ((eraseStillDue_iff hp).mp hn))]
  · refine h.served (h.endsFrom clock flags .complete) ?_ (by rw [hslot]) rfl ⟨rfl, rfl, rfl, rfl⟩
      (identityTaken_works s c g clock flags)
    rw [settleResumed_refer (identityTaken_resume hq), if_pos (beq_iff_eq.mpr hsm), resumeRefer_profile (by exact hl)]
  · refine h.declined hot (x := identifiedSlot s c g clock flags) hm rfl rfl ?_
    rw [settleResumed_refer (identityTaken_resume hq), if_pos (beq_iff_eq.mpr hsm), resumeRefer_decline (by exact hl)]
    rfl
  · have hu : EndsFrom s c i (endOf s c .complete) ((identityTaken s c g clock flags).withSlot c
        { (identityTaken s c g clock flags).slot c with referral := none }) :=
      (h.endsFrom clock flags .complete).withContext rfl rfl rfl
    refine h.served hu ?_ (by rw [State.slot_withSlot, hslot]) rfl ⟨rfl, rfl, rfl, rfl⟩
      ((identityTaken_works s c g clock flags).withSlot c _)
    rw [settleResumed_refer (identityTaken_resume hq), if_neg (hdiff hsm), hu.settleProfile_served rfl rfl hg]
  · have hu : EndsFrom s c i (endOf s c .complete) ((identityTaken s c g clock flags).withSlot c
        { (identityTaken s c g clock flags).slot c with referral := none }) :=
      (h.endsFrom clock flags .complete).withContext rfl rfl rfl
    refine h.declined hot (x := { identifiedSlot s c g clock flags with referral := none }) hm rfl rfl ?_
    rw [settleResumed_refer (identityTaken_resume hq), if_neg (hdiff hsm), hu.settleProfile_declined rfl rfl hg, hslot]
    exact congrArg (fun v : State => (v.resolve c (.declined g)).endDialog c .unsupported) (State.withSlot_withSlot s c _ _)

theorem resumedIdentityFails : ResumedIdentityFails := by
  intro s c i hs ha hm hot hh o
  have hfails : ∀ x, identityFails s c x = o := fun x => if_neg (by rw [ha.2]; exact nofun)
  refine ⟨fun hr hst hn => ?_, fun hheard reason => ?_⟩
  · have hend := identityExpired_ended hs hm hh hn hot
    rw [hfails] at hend
    exact ⟨_, congrArg (fun v : State => Host.Outcome.next v.closeStep)
      ((responseExpired_running hr).trans (waitExpired_identifying hst)), hend⟩
  · have hx : s.deliver c (.deny reason) = s.endDialog c o := deny_ends hm (.inl ⟨ha.1, (hfails .denied).symm⟩)
    exact ⟨_, rfl, ended_service (x := .deny reason) hs hm hot (listens_of_identity ha.1) hheard hx⟩

/-- Settles O39: a resumed dialog goes on from its resume point, or ends where its identity fails. -/
theorem resumedDialogsGoOn : Obligations.ResumedDialogsGoOn :=
  ⟨resumedIdentityGoesOn, resumedIdentityFails⟩

end Sys2Proof.Claim
end

section
/-! Line S sends one frame at a time (R28, R142, R144, R147, R148, R151, R152). -/

namespace Sys2Proof.Claim

open Sys2Proof.Machine

variable {s t u v : State} {c d : Channel} {i : ModuleIndex} {e : DialogEnd} {f : TxFrame} {rate : LineRate}
  {address : Nat}

/-! ### A held frame starts (R142) -/

/-- The conditions under which line S may start a frame for a module of this line rate (R142). -/
def lineMaySend (s : State) (rate : LineRate) : Prop :=
  s.line.transmitter = .idle ∧ s.shareState .s = .opened ∧ s.line.receiver ≠ .sync ∧ s.line.receiver ≠ .locked
    ∧ s.line.level = .high ∧ 10 * (16 * rate.samplePeriod) ≤ s.line.idleTime

theorem idleNeeded_eq (hd : f.dest = .line address rate) : f.idleNeeded = 10 * (16 * rate.samplePeriod) := by
  unfold TxFrame.idleNeeded samplesPerBit
  rw [hd]
  exact Nat.mul_assoc 10 16 _

theorem lineMayStart_iff (hd : f.dest = .line address rate) : s.lineMayStart f = true ↔ lineMaySend s rate := by
  unfold State.lineMayStart lineMaySend
  rw [idleNeeded_eq hd]
  simp only [Bool.and_eq_true, beq_iff_eq, decide_eq_true_eq, and_assoc]

/-- The line as a frame starts on it (R142, R151). -/
def drivenLine (l : Line) (f : TxFrame) (rate : LineRate) (t : Transmitter) : Line :=
  { l with
    transmitter := t, holding := none, driving := some f, driveRate := some rate, detector := .suppressed,
    release := none, idleTime := 0 }

theorem beginDriving_eq (hd : f.dest = .line address rate) (l : Line) (t : Transmitter) :
    l.beginDriving t f = drivenLine l f rate t := by
  unfold Line.beginDriving drivenLine
  rw [hd]

theorem lineTransmitStart_eq (hf : s.line.holding = some f) (hd : f.dest = .line address rate) (hr : f.request ≠ .wake) :
    (lineMaySend s rate → s.lineTransmitStart = s.withLine (drivenLine s.line f rate .sending))
      ∧ (¬ lineMaySend s rate → s.lineTransmitStart = s) := by
  unfold State.lineTransmitStart
  rw [hf]
  dsimp only
  rw [beginDriving_eq hd]
  exact ⟨fun h => if_pos ⟨hr, (lineMayStart_iff hd).mpr h⟩, fun h => if_neg (fun hn => h ((lineMayStart_iff hd).mp hn.2))⟩

theorem wakePatternStart_eq (hf : s.line.holding = some f) (hd : f.dest = .line address rate) (hr : f.request = .wake) :
    (lineMaySend s rate →
        s.wakePatternStart = s.withLine { receiverOff (drivenLine s.line f rate .drivingWake) with
          stuckTimer := none, wakeLeft := some 25 })
      ∧ (¬ lineMaySend s rate → s.wakePatternStart = s) := by
  unfold State.wakePatternStart
  rw [hf]
  dsimp only
  rw [beginDriving_eq hd]
  exact ⟨fun h => if_pos ⟨hr, (lineMayStart_iff hd).mpr h⟩, fun h => if_neg (fun hn => h ((lineMayStart_iff hd).mp hn.2))⟩

/-! ### Turnaround (R144) -/

theorem not_listens_iff (x : Slot) : x.listens = false ↔ x.state = .free ∨ x.state = .parked := by
  unfold Slot.listens
  cases x.state <;> decide

theorem transmitterIdle_eq (l : Line) (x : Slot) :
    l.transmitterIdle x.listens =
      { l with
        transmitter := .idle, turnaround := none, driveRate := none,
        receiver := if x.state = .free ∨ x.state = .parked then .off else .hunt, measuredSpan := none, buffer := [],
        mustRest := false, detector := .release, release := if l.level = .high then some 10 else none } := by
  unfold Line.transmitterIdle Line.enterRelease Line.receiverOff
  dsimp only
  congr 1
  · by_cases h : x.state = .free ∨ x.state = .parked
    · rw [if_pos h, (not_listens_iff x).mpr h]
      exact if_neg Bool.false_ne_true
    · rw [if_neg h, if_pos (Bool.of_not_eq_false (fun hn => h ((not_listens_iff x).mp hn)))]
  · cases l.level <;> rfl

theorem turnaroundExpired_eq (h : s.line.transmitter = .turnaround) :
    s.turnaroundExpired = s.withLine (s.line.transmitterIdle (s.slot .s).listens) := if_pos h

/-! ### The end of a wake pattern (R28, R147, R148) -/

/-- Line S as a wake pattern leaves it (R147, R148). -/
def wakeEnded (s : State) : Line :=
  { turningAround s with stuckTimer := if s.line.level = .low then some 200 else none }

theorem releaseWake_eq (s : State) : s.line.releaseWake (s.setting .turnaroundBits) = wakeEnded s := by
  unfold Line.releaseWake wakeEnded
  cases s.line.level <;> rfl

theorem bootWaitMs_eq (e : Entry) : bootWaitMs e = bootMs e := by
  unfold bootWaitMs bootMs
  cases e.bootStep <;> rfl

/-- A wake delivered to a slot that wakes loads its boot wait, or ends it at once (R28). -/
theorem slotFrameSent_wake (hown : f.own = true) (hr : f.request = .wake) (hst : (s.slot c).state = .waking)
    (haw : (s.slot c).awaits .wake = true) : s.slotFrameSent c f = s.loadBoot c := by
  unfold State.slotFrameSent
  dsimp only
  rw [if_pos hown, hr, if_neg (show ¬ (s.slot c).restartsKeepAwake .wake = true from Bool.false_ne_true), if_pos haw,
    if_pos hst]

theorem awaits_wake {x : Slot} (hst : x.state = .waking) : x.awaits .wake = true := by
  simp [Slot.awaits, hst]

theorem loadBoot_eq (hm : (s.slot c).module = some i) :
    (bootMs (s.entry i) ≠ 0 → s.loadBoot c = s.withSlot c { s.slot c with boot := some (bootMs (s.entry i)) })
      ∧ (bootMs (s.entry i) = 0 → s.loadBoot c = s.bootExpired c) := by
  have hent : (s.slotEntry c).getD {} = s.entry i := by
    rw [State.slotEntry, hm]
    rfl
  unfold State.loadBoot
  dsimp only
  rw [hent, bootWaitMs_eq]
  exact ⟨fun h => if_neg h, fun h => if_pos h⟩

/-- The boot timer itself does not matter to what its expiry does (R29). -/
theorem bootExpired_withBoot (s : State) (c : Channel) (n : Option Nat) :
    (s.withSlot c { s.slot c with boot := n }).bootExpired c = s.bootExpired c := by
  have hx : (s.withSlot c { s.slot c with boot := n }).withSlot c
      { (s.withSlot c { s.slot c with boot := n }).slot c with boot := none } =
      s.withSlot c { s.slot c with boot := none } := by
    rw [State.slot_withSlot, State.withSlot_withSlot]
  unfold State.bootExpired
  dsimp only
  rw [hx]

/-- The end of a boot wait on line S leaves nothing that could be handed (R23, R29). -/
theorem handed_bootExpired (hm : (s.slot .s).module = some i) (hw : s.waitingFrames .s = []) :
    (s.bootExpired .s).Handed .s := by
  have hu : EndsFrom s .s i (endOf s .s .aborted) (s.withSlot .s { s.slot .s with boot := none }) :=
    (EndsFrom.refl hm .aborted).withContext rfl rfl rfl
  unfold State.bootExpired
  dsimp only
  split
  · exact .inl hw
  · split
    · exact hu.handed_endDialog hw
    · split
      · exact .inl hw
      · exact State.handed_handNext _

theorem wakePatternEnd_eq (ht : s.line.transmitter = .drivingWake) (hf : s.line.driving = some f) (hown : f.own = true)
    (hr : f.request = .wake) (hst : (s.slot .s).state = .waking) :
    s.wakePatternEnd = (((s.withLine (wakeEnded s)).loadBoot .s).handNext .s).closeStep := by
  have hdriven : s.line.drivenFrame .drivingWake = some f := (if_pos ht).trans hf
  have hst' : ((s.withLine (wakeEnded s)).slot .s).state = .waking := hst
  unfold State.wakePatternEnd
  rw [hdriven]
  dsimp only
  rw [releaseWake_eq, slotFrameSent_wake hown hr hst' (awaits_wake hst')]

/-- Settles O45: a frame starts only on a rested line, turnaround ends, and a wake pattern ends in the boot wait. -/
theorem lineSendsOneFrameAtATime : Obligations.LineSendsOneFrameAtATime := by
  intro s f address rate l may driving
  refine ⟨fun hf hd hr => ?_, fun hf hd hr => ?_, fun ht => ?_, fun i hs ht hf hown hr hst hm hb hw => ?_,
    fun i ht hf hown hr hst hm hb hw n => ?_⟩
  · obtain ⟨hyes, hno⟩ := lineTransmitStart_eq hf hd hr
    by_cases h : may
    · exact congrArg Host.Outcome.next ((hyes h).trans (if_pos h).symm)
    · exact congrArg Host.Outcome.next ((hno h).trans (if_neg h).symm)
  · obtain ⟨hyes, hno⟩ := wakePatternStart_eq hf hd hr
    by_cases h : may
    · exact congrArg Host.Outcome.next ((hyes h).trans (if_pos h).symm)
    · exact congrArg Host.Outcome.next ((hno h).trans (if_neg h).symm)
  · refine congrArg Host.Outcome.next ((turnaroundExpired_eq ht).trans ?_)
    rw [transmitterIdle_eq]
  · have hm' : ((s.withLine (wakeEnded s)).slot .s).module = some i := hm
    have hsettled : Settled ((s.withLine (wakeEnded s)).withSlot .s
        { s.slot .s with boot := some (bootMs (s.entry i)) }) :=
      settled_withSlot (s := s.withLine (wakeEnded s)) (by exact hs) _ rfl
    refine congrArg Host.Outcome.next ?_
    have hx : s.wakePatternEnd = ((s.withLine (wakeEnded s)).withSlot .s
        { s.slot .s with boot := some (bootMs (s.entry i)) }) := by
      rw [wakePatternEnd_eq ht hf hown hr hst, (loadBoot_eq hm').1 hb, State.Handed.handNext (.inl (by exact hw))]
      exact closeStep_settled hsettled
    exact hx
  · have hm' : ((s.withLine (wakeEnded s)).slot .s).module = some i := hm
    refine congrArg Host.Outcome.next ?_
    have hx : s.wakePatternEnd = ((s.withLine (wakeEnded s)).bootExpired .s).closeStep := by
      rw [wakePatternEnd_eq ht hf hown hr hst, (loadBoot_eq hm').2 hb, (handed_bootExpired hm' (by exact hw)).handNext]
    rw [hx, ← bootExpired_withBoot _ .s (some n)]
    rfl

end Sys2Proof.Claim
end

section
/-! A slot that parks where its channel yields, and the channel YIELDED (R46, R138, R156, R157, R160). -/

namespace Sys2Proof.Machine

variable {s v : State} {c d : Channel}

/-- A channel taken to YIELDED with its notice, before the look at its triggers (R138, R156). -/
def State.yieldedState (s : State) (c : Channel) : State :=
  ((s.letGo c).withShareState c .yielded).notify (.channelEvent c .yielded none)

theorem State.YieldOnly.yieldedState (s : State) (c : Channel) : s.YieldOnly (s.yieldedState c) :=
  ((State.YieldOnly.letGo s c).trans (.withShareState _ _ _)).trans (.notify _ _)

theorem State.share_letGo (s : State) (c : Channel) : (s.letGo c).share = s.share := (s.letGo_frames c).share

theorem State.link_letGo (s : State) (c : Channel) : (s.letGo c).link = s.link := (s.letGo_frames c).link

theorem State.shareOf_yieldedState (s : State) (c : Channel) :
    (s.yieldedState c).shareOf c = { s.shareOf c with state := .yielded } := by
  have h : (s.yieldedState c).shareOf c = { (s.letGo c).shareOf c with state := .yielded } :=
    State.shareOf_withShareOf _ c _
  rw [h, State.shareOf_congr (s.share_letGo c)]

theorem State.shareOf_yieldedState_other (s : State) (hd : d ≠ c) : (s.yieldedState c).shareOf d = s.shareOf d :=
  (State.shareOf_withShareOf_other _ hd _).trans (State.shareOf_congr (s.share_letGo c) d)

theorem State.shareState_yieldedState (s : State) (c : Channel) : (s.yieldedState c).shareState c = .yielded :=
  congrArg ShareChannel.state (s.shareOf_yieldedState c)

theorem State.isSocket_congr (h : v.settings = s.settings) (d : Channel) : v.isSocket d = s.isSocket d := by
  rw [State.isSocket, State.setting, h]
  rfl

theorem State.tpresActive_yieldedState (s : State) (c : Channel) :
    (s.yieldedState c).share.tpresActive = s.share.tpresActive :=
  show (s.letGo c).share.tpresActive = s.share.tpresActive by rw [s.share_letGo c]

theorem State.yieldTrigger_yieldedState (s : State) (c : Channel) :
    (s.yieldedState c).yieldTrigger c = s.yieldTrigger c := by
  rw [State.yieldTrigger, State.tpresActive_yieldedState, State.shareOf_yieldedState,
    State.isSocket_congr (State.YieldOnly.yieldedState s c).settings, State.yieldTrigger]

theorem State.link_yieldedState (s : State) (c : Channel) :
    (s.yieldedState c).link = s.link.notify (.channelEvent c .yielded none) :=
  congrArg (fun l : Link => l.notify (.channelEvent c .yielded none)) (s.link_letGo c)

/-- With a yield trigger present the channel stays YIELDED (R157). -/
theorem State.enterYielded_of_trigger (h : s.yieldTrigger c = true) : s.enterYielded c = s.yieldedState c := by
  refine if_neg (fun hn => ?_)
  have hn' : (!(s.yieldedState c).yieldTrigger c) = true := hn.2
  rw [State.yieldTrigger_yieldedState, h] at hn'
  exact absurd hn' (by decide)

/-- Without one it passes straight through to OPEN (R156, R157). -/
theorem State.enterYielded_of_no_trigger (h : s.yieldTrigger c = false) :
    s.enterYielded c =
      (((s.yieldedState c).withShareState c .opened).notify (.channelEvent c .resumed none)).resumeSlot c := by
  refine if_pos ⟨s.shareState_yieldedState c, ?_⟩
  show (!(s.yieldedState c).yieldTrigger c) = true
  rw [State.yieldTrigger_yieldedState, h]
  rfl

theorem Can.cut_not_inProgress (k : Can) (f : TxFrame) (b : Bool) : k.cut.holding ≠ .inProgress f b := by
  unfold Can.cut
  split
  · exact nofun
  · next h => exact h f b

theorem State.canCtl_yieldedState (s : State) (k : CanChannel) :
    (s.yieldedState k.toChannel).canCtl k = (s.canCtl k).cut := by
  cases k <;> rfl

end Sys2Proof.Machine

namespace Sys2Proof.Claim

open Sys2Proof.Machine

variable {s t u v : State} {c d : Channel} {i : ModuleIndex} {e : DialogEnd} {x : Slot} {pt : ResumePoint} {w : State}
  {ns : List Notice}

/-! ### The channel YIELDED (R138, R156, R160) -/

theorem tgnt_of_yielded (h : t.shareState c = .yielded) (hs : t.isSocket c = true) : t.tgntValue = true := by
  unfold State.tgntValue
  refine List.any_eq_true.mpr ⟨c, by cases c <;> decide, ?_⟩
  rw [h, hs]
  rfl

theorem pneed_of_yielded (h : t.shareState c = .yielded) (hb : (t.slot c).state ≠ .free) : t.pneedValue = true := by
  unfold State.pneedValue
  refine List.any_eq_true.mpr ⟨c, by cases c <;> decide, ?_⟩
  rw [h, decide_eq_true hb]
  rfl

/-- A channel YIELDED from a state in which its slot has parked or its dialog has ended. -/
theorem yieldedAfter_yieldedState (hshare : v.share = s.share) (hothers : ∀ d, d ≠ c → v.slot d = s.slot d)
    (hlink : v.link = ns.foldl Link.notify s.link) (hset : v.settings = s.settings) :
    yieldedAfter s (v.yieldedState c).recomputeOutputs c ns := by
  have hy := State.YieldOnly.yieldedState v c
  have hst : (v.yieldedState c).recomputeOutputs.shareState c = .yielded := v.shareState_yieldedState c
  have hsock : (v.yieldedState c).isSocket c = s.isSocket c := State.isSocket_congr (hy.settings.trans hset) c
  refine ⟨?_, fun hroom => ?_, fun k hk f b => ?_, fun hs => ?_, fun hb => ?_, fun d hd => ⟨?_, ?_⟩⟩
  · exact (v.shareOf_yieldedState c).trans (by rw [State.shareOf_congr hshare])
  · have hl : (v.yieldedState c).link = (ns ++ [Notice.channelEvent c .yielded none]).foldl Link.notify s.link := by
      rw [List.foldl_append, ← hlink]
      exact v.link_yieldedState c
    rw [Link.foldl_notify_room _ (by rw [List.length_append, List.length_singleton]; omega)] at hl
    refine (congrArg Link.outbound hl :).trans ?_
    simp
  · subst hk
    show ((v.yieldedState k.toChannel).canCtl k).holding ≠ _
    rw [State.canCtl_yieldedState]
    exact Can.cut_not_inProgress _ f b
  · exact tgnt_of_yielded (v.shareState_yieldedState c) (hsock.trans hs)
  · exact pneed_of_yielded (v.shareState_yieldedState c) hb
  · exact (State.slot_congr hy.slots d).trans (hothers d hd)
  · exact (v.shareOf_yieldedState_other hd).trans (State.shareOf_congr hshare d)

/-! ### A slot parked (R46) -/

/-- `v` is `s` with the slot of a channel parked, its channel's yield not yet settled: what `Parks` says but for that. -/
structure Parked (s : State) (c : Channel) (x : Slot) (pt : ResumePoint) (w : State) (ns : List Notice) (v : State) :
    Prop where
  slot : v.slot c = parkedSlot x pt
  others : ∀ d, d ≠ c → v.slot d = s.slot d
  share : v.share = s.share
  link : v.link = ns.foldl Link.notify s.link
  waiting : noneWaits s c → noneWaits v c
  history : v.history = w.history
  sweep : v.sweep = w.sweep
  table : v.table = w.table
  works : s.Works v

namespace Parked

theorem reached (h : Parked s c x pt w ns v) (hp : s.shareState c = .yieldPending) : v.yieldReached c := by
  refine ⟨(State.shareState_congr h.share c).trans hp, .inr ?_⟩
  rw [h.slot]
  rfl

theorem busy (h : Parked s c x pt w ns v) : (v.slot c).state ≠ .free := by
  rw [h.slot]
  exact nofun

theorem not_reached (h : Parked s c x pt w ns v) (hs : Settled s) (d : Channel) (hd : d ≠ c) : ¬ v.yieldReached d := by
  have hn := hs.not_reached d
  rwa [State.yieldReached, State.shareState_congr h.share, h.others d hd]

theorem yieldTrigger (h : Parked s c x pt w ns v) : v.yieldTrigger c = s.yieldTrigger c := by
  rw [State.yieldTrigger, h.share, State.shareOf_congr h.share, State.isSocket_congr h.works.settings, State.yieldTrigger]

/-- The end of the step takes the channel to YIELDED (R156). -/
theorem closeStep_yielded (h : Parked s c x pt w ns v) (hs : Settled s) (hp : s.shareState c = .yieldPending)
    (ht : s.yieldTrigger c = true) : v.closeStep = (v.yieldedState c).recomputeOutputs := by
  have hb : ((v.yieldedState c).slot c).state ≠ .free := by
    rw [State.slot_congr (State.YieldOnly.yieldedState v c).slots]
    exact h.busy
  rw [State.closeStep, State.yieldSettle_only (h.not_reached hs), State.yieldSettle_of_reached (h.reached hp),
    State.enterYielded_of_trigger (h.yieldTrigger.trans ht), State.settleSweep_of_not_done (State.sweepDone_of_busy hb)]

theorem parks (h : Parked s c x pt w ns v) (hp : parksAfter s c i) : Parks s c (.next v.closeStep) x pt w ns := by
  obtain ⟨hs, hpend, htrig, -, -⟩ := hp
  have hy := (State.YieldOnly.yieldedState v c).trans (.recomputeOutputs _)
  have hclose := h.closeStep_yielded hs hpend htrig
  refine ⟨_, rfl, ?_, ?_, fun hn => ?_, ?_, ?_, ?_, ownWork_of_works h.works.closeStep⟩
  · rw [hclose, State.slot_congr hy.slots]
    exact h.slot
  · rw [hclose]
    exact yieldedAfter_yieldedState h.share h.others h.link h.works.settings
  · obtain ⟨hf, hw⟩ := h.waiting hn
    rw [hclose]
    exact ⟨(hy.waiting c).trans hf, (hy.waitingFrames c).trans hw⟩
  · rw [hclose]
    exact hy.history.trans h.history
  · rw [hclose]
    exact hy.sweep.trans h.sweep
  · rw [hclose]
    exact hy.table.trans h.table

end Parked

theorem frameWaiting_park (s : State) (c : Channel) (pt : ResumePoint) (d : Channel) :
    (s.park c pt).frameWaiting d = s.frameWaiting d := by
  cases c <;> cases d <;> rfl

/-- A slot made ready by its exchange unit, and then parked. -/
theorem EndsFrom.parked (h : EndsFrom s c i e u) (hw : s.Works u) (hx : parkedSlot (u.slot c) pt = parkedSlot x pt)
    (hhist : u.history = w.history) (hsweep : u.sweep = w.sweep) (htable : u.table = w.table) :
    Parked s c x pt w e.before (u.park c pt) := by
  have hf := State.FramesOnly.park u c pt
  have hslot : ∀ d, (u.park c pt).slot d = (u.withSlot c ((u.slot c).park pt)).slot d := State.slot_congr hf.slots
  exact {
    slot := by
      rw [hslot, State.slot_withSlot]
      exact hx
    others := fun d hd => by
      rw [hslot, State.slot_withSlot_other u hd]
      exact h.others d hd
    share := hf.share.trans h.share
    link := hf.link.trans h.link
    waiting := fun hn => by
      obtain ⟨hfw, hwf⟩ := hn
      refine ⟨(frameWaiting_park u c pt c).trans (h.waiting.trans hfw), ?_⟩
      have hto : (u.park c pt).waitingFrames c = u.waitingFrames c := by cases c <;> rfl
      exact hto.trans ((h.waitingFrames c).trans hwf)
    history := hf.history.trans hhist
    sweep := hf.sweep.trans hsweep
    table := hf.table.trans htable
    works := hw.park c pt }

theorem EndsFrom.parks (h : EndsFrom s c i e u) (hp : parksAfter s c i) (hw : s.Works u)
    (hx : parkedSlot (u.slot c) pt = parkedSlot x pt) (hhist : u.history = w.history) (hsweep : u.sweep = w.sweep)
    (htable : u.table = w.table) : Parks s c (.next (u.park c pt).closeStep) x pt w e.before :=
  (h.parked hw hx hhist hsweep htable).parks hp

end Sys2Proof.Claim
end

section
/-! A slot parks at the end of its exchange unit on a YIELD_PENDING channel (R46, R48, R49, R156). -/

namespace Sys2Proof.Claim

open Sys2Proof.Machine

variable {s t u v w : State} {c d : Channel} {i : ModuleIndex} {e : DialogEnd} {o : SweepOutcome} {g : Word16}
  {ref : ProfileRef} {p : Profile} {x : Slot} {m : History × List MergeReport}

/-! ### What an identity reply leads to (R32, R33, R49) -/

theorem table_resolve (hm : (u.slot c).module = some i) (ht : u.table = w.table) (q : Resolution) :
    (u.resolve c q).table = (resolvedTo w i q).table := by
  have he : u.entry i = w.entry i := State.entry_congr ht i
  rw [State.resolve_eq hm]
  show u.table.set i { u.entry i with resolution := q } = w.table.set i { w.entry i with resolution := q }
  rw [ht, he]

/-- A profile found on a yielding channel: the slot parks at PAGE with page 0 (R46). -/
theorem EndsFrom.foundParks (h : EndsFrom s c i e u) (hp : parksAfter s c i) (hw : s.Works u)
    (hk : (u.slot c).keepAwake = (s.slot c).keepAwake)
    (hx : { u.slot c with referral := none } = { x with referral := none }) (hhist : u.history = w.history)
    (hsweep : u.sweep = w.sweep) (htable : u.table = w.table) (ref : ProfileRef) (g : Word16) :
    Parks s c (.next ((u.resolve c (.resolved ref g)).settleFound c ref).closeStep)
      { x with profile := some ref, referral := none, page := 0 } .page (resolvedTo w i (.resolved ref g)) e.before := by
  have htab := table_resolve h.module htable (.resolved ref g)
  have hres : EndsFrom s c i e _ := h.resolve (.resolved ref g)
  have hworks := hw.withResolution i (.resolved ref g)
  rw [State.resolve_eq h.module] at hres htab ⊢
  obtain ⟨-, hpend, -, -, hh⟩ := id hp
  rw [hres.settleFound_eq hh hworks hk ref, if_pos hpend]
  have hu : EndsFrom s c i e ((u.withEntry i { u.entry i with resolution := .resolved ref g }).withSlot c
      { u.slot c with profile := some ref, referral := none, page := 0 }) := hres.withContext rfl rfl rfl
  refine hu.parks hp (hworks.withSlot c _) ?_ hhist hsweep htab
  rw [State.slot_withSlot]
  exact (congrArg (fun y : Slot => parkedSlot { y with profile := some ref, page := 0 } .page) hx :)

/-- A tag found nowhere on a yielding channel: the slot parks at REFER after its REFERRAL (R33, R46). -/
theorem EndsFrom.referParks (h : EndsFrom s c i e u) (hp : parksAfter s c i) (hw : s.Works u) (he : e.before = [])
    (hx : { u.slot c with referral := none } = { x with referral := none }) (hhist : u.history = w.history)
    (hsweep : u.sweep = w.sweep) (htable : u.table = w.table) (g : Word16) :
    Parks s c (.next (u.refer c g).closeStep) { x with referral := some (s.setting .referralTimeout * 1000) } .refer
      (resolvedTo w i .unresolved) [.referral i g] := by
  have htab := table_resolve h.module htable .unresolved
  have hres : EndsFrom s c i e _ := h.resolve .unresolved
  have hn := hres.notify (.referral i g)
  have hworks := (hw.resolve c .unresolved).notify (.referral i g)
  obtain ⟨-, hpend, -, -, hh⟩ := id hp
  rw [h.refer_eq hh hw g, if_pos hpend]
  have hslot : ((u.resolve c .unresolved).notify (.referral i g)).slot c = u.slot c := by
    rw [State.resolve_eq h.module]
    rfl
  have hu : EndsFrom s c i _ (((u.resolve c .unresolved).notify (.referral i g)).withSlot c (referredSlot s (u.slot c))) :=
    hn.withContext (by rw [hslot]; rfl) (by rw [hslot]; rfl) (by rw [hslot]; rfl)
  have hparks := hu.parks (x := { x with referral := some (s.setting .referralTimeout * 1000) }) (pt := .refer)
    (w := resolvedTo w i .unresolved) hp (hworks.withSlot c _) (by
      rw [State.slot_withSlot]
      exact (congrArg (fun y : Slot =>
        parkedSlot { y with referral := some (s.setting .referralTimeout * 1000) } .refer) hx :))
    (by rw [State.resolve_eq h.module]; exact hhist) (by rw [State.resolve_eq h.module]; exact hsweep) htab
  simpa only [he, List.nil_append] using hparks

/-- A lookup redone that finds nothing on a yielding channel: the slot parks at REFER again (R46, R49). -/
theorem EndsFrom.unknownParks (h : EndsFrom s c i e u) (hp : parksAfter s c i) (hw : s.Works u) (hx : u.slot c = x)
    (hhist : u.history = w.history) (hsweep : u.sweep = w.sweep) (htable : u.table = w.table)
    (hl : u.store.lookup g = none) :
    Parks s c (.next (u.resumeRefer c g).closeStep) x .refer (resolvedTo w i .unresolved) e.before := by
  have htab := table_resolve h.module htable .unresolved
  have hres : EndsFrom s c i e _ := h.resolve .unresolved
  obtain ⟨-, hpend, -, -, hh⟩ := id hp
  rw [h.resumeRefer_unknown hh hl, if_pos hpend]
  have hslot : (u.resolve c .unresolved).slot c = x := by
    rw [State.resolve_eq h.module]
    exact hx
  exact hres.parks hp (hw.resolve c .unresolved) (by rw [hslot]) (by rw [State.resolve_eq h.module]; exact hhist)
    (by rw [State.resolve_eq h.module]; exact hsweep) htab

/-! ### The identity replies -/

section
variable {clock : ClockBytes} {flags : Byte}

theorem firstReplyParks (hp : parksAfter s c i) (hheard : heard s c (s.entry i)) (h0 : g ≠ 0) (hf : g ≠ 0xFFFF)
    (ha : awaitsFirstReply s c) :
    (∀ ref, tagServed s i g ref →
        Parks s c (exec (.idReply c g clock flags) s)
          { identifiedSlot s c g clock flags with profile := some ref, referral := none, page := 0 } .page
          (resolvedTo { s with history := unsighted s.history i } i (.resolved ref g)))
      ∧ (tagUnknown s i g →
        Parks s c (exec (.idReply c g clock flags) s)
          { identifiedSlot s c g clock flags with referral := some (s.setting .referralTimeout * 1000) } .refer
          (resolvedTo { s with history := unsighted s.history i } i .unresolved) [.referral i g]) := by
  obtain ⟨-, -, -, hm, -⟩ := id hp
  have hfrom := firstIdentity_endsFrom hm g clock flags .complete
  have hw := firstIdentity_works s c i g clock flags
  have hslot := slot_firstIdentity s c i g clock flags
  have hk : ((firstIdentity s c i g clock flags).slot c).keepAwake = (s.slot c).keepAwake := by
    rw [hslot]
    rfl
  rw [exec_idReply hm hheard ha.1, onIdReply_first hm ha h0 hf clock flags]
  refine ⟨fun ref hg => ?_, fun hg => ?_⟩
  · rw [hfrom.settleProfile_served rfl rfl hg]
    exact hfrom.foundParks hp hw hk (by rw [hslot]) rfl rfl rfl ref g
  · rw [hfrom.settleProfile_unknown rfl rfl hg]
    exact hfrom.referParks hp hw rfl (by rw [hslot]) rfl rfl rfl g

theorem exec_resumedReply (hm : (s.slot c).module = some i) (hheard : heard s c (s.entry i)) (h0 : g ≠ 0)
    (hf : g ≠ 0xFFFF) (ha : awaitsResumedReply s c) (clock : ClockBytes) (flags : Byte) :
    exec (.idReply c g clock flags) s =
      .next ((identityTaken s c g clock flags).settleResumed c g ((s.slot c).tag == some g)).closeStep := by
  rw [exec_idReply hm hheard ha.1, onIdReply_resumed ha h0 hf]

/-- A resumed reply at PAGE or ERASE parks the slot there again (R46, R49). -/
theorem resumedReplyParksAgain (hp : parksAfter s c i) (hheard : heard s c (s.entry i)) (h0 : g ≠ 0) (hf : g ≠ 0xFFFF)
    (ha : awaitsResumedReply s c) :
    ((s.slot c).resume = .page → (s.slot c).tag = some g →
        Parks s c (exec (.idReply c g clock flags) s) (identifiedSlot s c g clock flags) .page s)
      ∧ (∀ p, (s.slot c).resume = .erase → s.slotProfile c = some p → eraseStillDue s c p g flags →
        Parks s c (exec (.idReply c g clock flags) s) (identifiedSlot s c g clock flags) .erase s) := by
  obtain ⟨-, hpend, -, hm, hh⟩ := id hp
  have hfrom := identityTaken_endsFrom hm g clock flags .complete
  have hw := identityTaken_works s c g clock flags
  have hslot := slot_identityTaken s c g clock flags
  have hhalt := hfrom.not_halting hh
  rw [exec_resumedReply hm hheard h0 hf ha]
  refine ⟨fun hq htag => ?_, fun p hq hprof hd => ?_⟩
  · rw [settleResumed_page (identityTaken_resume hq) hhalt, if_pos (beq_iff_eq.mpr htag),
      hfrom.enterPage_eq hh hw identityTaken_keepAwake, if_pos hpend]
    have hu : EndsFrom s c i (endOf s c .complete) ((identityTaken s c g clock flags).withSlot c
        { (identityTaken s c g clock flags).slot c with page := ((identityTaken s c g clock flags).slot c).page }) :=
      hfrom.withContext rfl rfl rfl
    exact hu.parks hp (hw.withSlot c _) (by rw [State.slot_withSlot, hslot]) rfl rfl rfl
  · rw [settleResumed_erase (identityTaken_resume hq) hhalt, if_pos ((eraseStillDue_iff hprof).mpr hd),
      hfrom.enterErase_eq hw identityTaken_keepAwake, if_pos hpend]
    exact hfrom.parks hp hw (by rw [hslot]) rfl rfl rfl

/-- A resumed reply at REFER parks the slot as the lookup redone, or the settling of another tag, says (R46, R49). -/
theorem resumedReplyParksAtRefer (hp : parksAfter s c i) (hheard : heard s c (s.entry i)) (h0 : g ≠ 0) (hf : g ≠ 0xFFFF)
    (ha : awaitsResumedReply s c) (hq : (s.slot c).resume = .refer) :
    (∀ ref, (if (s.slot c).tag = some g then s.store.lookup g = some (.profile ref) else tagServed s i g ref) →
        Parks s c (exec (.idReply c g clock flags) s)
          { identifiedSlot s c g clock flags with profile := some ref, referral := none, page := 0 } .page
          (resolvedTo s i (.resolved ref g)))
      ∧ ((s.slot c).tag = some g → s.store.lookup g = none →
        Parks s c (exec (.idReply c g clock flags) s) (identifiedSlot s c g clock flags) .refer
          (resolvedTo s i .unresolved))
      ∧ (¬ (s.slot c).tag = some g → tagUnknown s i g →
        Parks s c (exec (.idReply c g clock flags) s)
          { identifiedSlot s c g clock flags with referral := some (s.setting .referralTimeout * 1000) } .refer
          (resolvedTo s i .unresolved) [.referral i g]) := by
  obtain ⟨-, -, -, hm, -⟩ := id hp
  have hfrom := identityTaken_endsFrom hm g clock flags .complete
  have hw := identityTaken_works s c g clock flags
  have hslot := slot_identityTaken s c g clock flags
  have hcleared : EndsFrom s c i (endOf s c .complete) ((identityTaken s c g clock flags).withSlot c
      { (identityTaken s c g clock flags).slot c with referral := none }) := hfrom.withContext rfl rfl rfl
  have hdiff : ¬ (s.slot c).tag = some g → ¬ ((s.slot c).tag == some g) = true := fun hn hb => hn (beq_iff_eq.mp hb)
  rw [exec_resumedReply hm hheard h0 hf ha, settleResumed_refer (identityTaken_resume hq)]
  refine ⟨fun ref hg => ?_, fun htag hl => ?_, fun htag hg => ?_⟩
  · by_cases htag : (s.slot c).tag = some g
    · rw [if_pos htag] at hg
      rw [if_pos (beq_iff_eq.mpr htag), resumeRefer_profile (by exact hg)]
      exact hfrom.foundParks hp hw identityTaken_keepAwake (by rw [hslot]) rfl rfl rfl ref g
    · rw [if_neg htag] at hg
      rw [if_neg (hdiff htag), hcleared.settleProfile_served rfl rfl hg]
      exact hcleared.foundParks hp (hw.withSlot c _) (by rw [State.slot_withSlot]; exact identityTaken_keepAwake)
        (by rw [State.slot_withSlot, hslot]) rfl rfl rfl ref g
  · rw [if_pos (beq_iff_eq.mpr htag)]
    exact hfrom.unknownParks hp hw hslot rfl rfl rfl hl
  · rw [if_neg (hdiff htag), hcleared.settleProfile_unknown rfl rfl hg]
    exact hcleared.referParks hp (hw.withSlot c _) rfl (by rw [State.slot_withSlot, hslot]) rfl rfl rfl g

end

/-! ### An expired identity wait, and the end of a boot wait -/

/-- An identity wait that expires with attempts left parks the slot on a yielding channel (R30, R46). -/
theorem EndsFrom.identityExpiredParks (h : EndsFrom s c i e u) (hp : parksAfter s c i) (hw : s.Works u)
    (hx : u.slot c = s.slot c) (hn : (s.slot c).idAttempt < 1 + (s.entry i).retries) (hent : u.entry i = s.entry i)
    (hhist : u.history = s.history) (hsweep : u.sweep = s.sweep) (htable : u.table = s.table) :
    Parked s c (s.slot c) (s.slot c).identityResume s e.before (u.identityExpired c) := by
  obtain ⟨-, hpend, -, -, hh⟩ := hp
  have hu : EndsFrom s c i e (u.withSlot c (u.slot c).stopResponse) := h.withContext rfl rfl rfl
  rw [h.identityExpired_eq hh (by rw [hx, hent]; exact hn), if_pos hpend, hx]
  rw [hx] at hu
  exact hu.parked (hw.withSlot c _) (by rw [State.slot_withSlot]; rfl) hhist hsweep htable

/-- The end of a boot wait on a yielding channel parks the slot (R29, R46). -/
theorem bootExpiredParks (hpend : s.shareState c = .yieldPending) (hm : (s.slot c).module = some i)
    (hh : s.sweep.state ≠ .halting) (hst : (s.slot c).state = .waking) :
    Parked s c (s.slot c) (s.slot c).identityResume s [] (s.bootExpired c) := by
  have hu : EndsFrom s c i (endOf s c .complete) (s.withSlot c { s.slot c with boot := none }) :=
    (EndsFrom.refl hm .complete).withContext rfl rfl rfl
  rw [(EndsFrom.refl hm .complete).bootExpired_eq hh hst, if_pos hpend]
  exact hu.parked ((State.Works.refl s).withSlot c _) (by rw [State.slot_withSlot]; rfl) rfl rfl rfl

theorem slotsParkWithTheirIdentity : SlotsParkWithTheirIdentity := by
  intro s c i hp x held
  obtain ⟨-, hpend, -, hm, hh⟩ := id hp
  refine ⟨fun g clock flags hheard h0 hf => ⟨firstReplyParks hp hheard h0 hf, fun ha => ?_⟩, fun hr hst hn => ?_,
    fun hb hst => ?_⟩
  · obtain ⟨hpage, herase⟩ := resumedReplyParksAgain hp hheard h0 hf ha
    exact ⟨hpage, herase, resumedReplyParksAtRefer hp hheard h0 hf ha⟩
  · have hpark := (EndsFrom.refl hm .complete).identityExpiredParks hp (State.Works.refl s) rfl hn rfl rfl rfl rfl
    have hx : exec (.responseTimerExpiry c) s = .next (s.identityExpired c).closeStep :=
      congrArg (fun v : State => Host.Outcome.next v.closeStep)
        ((responseExpired_running hr).trans (waitExpired_identifying hst))
    rw [hx]
    exact hpark.parks hp
  · have hx : exec (.bootTimerExpiry c) s = .next (s.bootExpired c).closeStep :=
      congrArg (fun v : State => Host.Outcome.next v.closeStep) (bootTimerExpired_running hb)
    rw [hx]
    exact (bootExpiredParks hpend hm hh hst).parks hp

/-! ### Pages (R35 to R42) -/

theorem parkedSlot_of_pageSlot {y : Slot} (hy : PageSlot x y) (pt : ResumePoint) : parkedSlot y pt = parkedSlot x pt := by
  rw [(hy : y = _)]
  rfl

/-- A failed first attempt on a yielding channel parks the slot with its page (R39, R46). -/
theorem EndsFrom.attemptParks (h : EndsFrom s c i e u) (hp : parksAfter s c i) (hw : s.Works u)
    (hy : PageSlot (s.slot c) (u.slot c)) (ha : (s.slot c).attempt = 1) (hhist : u.history = s.history)
    (hsweep : u.sweep = s.sweep) (htable : u.table = s.table) :
    Parked s c (s.slot c) .page s e.before (u.failAttempt c) := by
  obtain ⟨-, hpend, -, -, hh⟩ := hp
  have hatt : (u.slot c).attempt = 1 := (congrArg Slot.attempt (hy : u.slot c = _) :).trans ha
  have hu : EndsFrom s c i e (u.withSlot c (u.slot c).stopResponse) := h.withContext rfl rfl rfl
  rw [h.failAttempt_eq hh hatt, if_pos hpend]
  refine hu.parked (hw.withSlot c _) ?_ hhist hsweep htable
  rw [State.slot_withSlot]
  exact parkedSlot_of_pageSlot hy .page

theorem pageAttemptParks {y : Slot} (hp : parksAfter s c i) (hy : PageSlot (s.slot c) y) (ha : (s.slot c).attempt = 1) :
    Parks s c (.next ((s.withSlot c y).failAttempt c).closeStep) (s.slot c) .page s := by
  obtain ⟨-, -, -, hm, -⟩ := id hp
  exact ((EndsFrom.of_pageSlot hy hm .complete).attemptParks hp ((State.Works.refl s).withSlot c y)
    (by rw [State.slot_withSlot]; exact hy) ha rfl rfl rfl).parks hp

theorem plainAttemptParks (hp : parksAfter s c i) (ha : (s.slot c).attempt = 1) :
    Parks s c (.next (s.failAttempt c).closeStep) (s.slot c) .page s := by
  rw [← failAttempt_stopped]
  exact pageAttemptParks hp (pageSlot_stopped _) ha

/-- The end of a burst on a yielding channel parks the slot with its page (R37, R46). -/
theorem burstParks {y : Slot} (hp : parksAfter s c i) (hy : PageSlot (s.slot c) y) :
    Parks s c (.next ((s.withSlot c y).nextBurst c).closeStep) (s.slot c) .page s := by
  obtain ⟨-, hpend, -, hm, hh⟩ := id hp
  have hu := EndsFrom.of_pageSlot hy hm .complete
  rw [hu.nextBurst_eq hh, if_pos hpend]
  exact hu.parks hp ((State.Works.refl s).withSlot c y) (by rw [State.slot_withSlot]; exact parkedSlot_of_pageSlot hy .page)
    rfl rfl rfl

/-- A slot after the commit of a page as the parks of R46 say it: what a park clears is left as it was. -/
def committedContext (x : Slot) (m : History × List MergeReport) : Slot :=
  { x with pagesRead := x.pagesRead + 1, refused := x.refused + m.2.count .refused }

/-- A page committed with more to come parks the slot at PAGE with the next page (R41, R46). -/
theorem nextPageParks (hp : parksAfter s c i) (hw : s.Works (committed s c m)) (hpage : (s.slot c).page < 31) :
    Parks s c (.next ((committed s c m).afterCommit c i true).closeStep)
      { committedContext (s.slot c) m with page := (s.slot c).page + 1 } .page
      { s with history := m.1, sweep := sweepAfterPage s m } := by
  obtain ⟨-, hpend, -, hm, hh⟩ := id hp
  have hfrom := committed_endsFrom hm m .complete
  have hslot := slot_committed s c m
  have hpage' : ((committed s c m).slot c).page = (s.slot c).page := by
    rw [hslot]
    rfl
  have hu : EndsFrom s c i (endAfterPage s c m .complete)
      ((committed s c m).withSlot c { (committed s c m).slot c with page := (s.slot c).page + 1 }) :=
    hfrom.withContext rfl rfl rfl
  have hx : (committed s c m).afterCommit c i true =
      ((committed s c m).withSlot c { (committed s c m).slot c with page := (s.slot c).page + 1 }).park c .page := by
    unfold State.afterCommit
    dsimp only
    rw [if_pos rfl, hpage', if_pos hpage, hfrom.enterPage_eq hh hw (by rw [hslot]; rfl), if_pos hpend]
  rw [hx]
  exact hu.parks hp (hw.withSlot c _) (by rw [State.slot_withSlot, hslot]; rfl) rfl rfl rfl

/-- A complete read whose erase is due parks the slot at ERASE (R41, R42, R46). -/
theorem eraseParks (hp : parksAfter s c i) (hw : s.Works (committed s c m)) (hprof : s.slotProfile c = some p)
    (hd : eraseDueAfter s c p ((s.slot c).refused + m.2.count .refused)) :
    Parks s c (.next ((committed s c m).afterCommit c i false).closeStep) (committedContext (s.slot c) m) .erase
      { s with history := goneMarked s i m.1, sweep := sweepAfterRead s i m } := by
  obtain ⟨-, hpend, -, hm, -⟩ := id hp
  have hfrom := readCompleted_endsFrom hm m .complete
  have hslot := slot_readCompleted s c i m
  have hworks : s.Works (readCompleted s c i m) := markGone_committed s c i m ▸ hw.markGone i
  have hx : (committed s c m).afterCommit c i false = (readCompleted s c i m).park c .erase := by
    rw [State.afterCommit, if_neg Bool.false_ne_true, markGone_committed, State.afterCompleteRead,
      if_pos ((eraseDue_readCompleted hprof i m).mpr hd), hfrom.enterErase_eq hworks (by rw [hslot]; rfl), if_pos hpend]
  rw [hx]
  exact hfrom.parks hp hworks (by rw [hslot]; rfl) rfl rfl rfl

theorem slotsParkWithTheirPage : SlotsParkWithTheirPage := by
  intro s c i p hp hheard hst hprof x committed next complete
  obtain ⟨-, -, -, hm, -⟩ := id hp
  have hempty : s.Works (Claim.committed s c (s.history, [])) := by
    rw [← pageMerged_nil s c i p]
    exact works_committed s c i p []
  refine ⟨fun hr ha => ?_, fun page count length flags sum hsub => ⟨?_, ?_⟩, fun h index data hsub hout hres hhead h0 hl => ?_,
    fun h index data hc => ⟨fun hmore hpage => ?_, fun hlast hd => ?_⟩⟩
  · have hx : exec (.responseTimerExpiry c) s = .next (s.failAttempt c).closeStep :=
      congrArg (fun v : State => Host.Outcome.next v.closeStep)
        ((responseExpired_running hr).trans (waitExpired_reading hst))
    rw [hx]
    exact plainAttemptParks hp ha
  · rw [exec_pageHead_heard hm hst hheard]
    rintro (⟨hok, hlen⟩ | ⟨hbad, ha⟩ | ⟨hok, rfl, hsum, ha⟩)
    · have hn : ¬ segmentsFor c length.toNat = 0 := fun hz =>
        hlen (BitVec.eq_of_toNat_eq ((segmentsFor_eq_zero c _).mp hz))
      rw [onPageHead_taken hst hsub hprof hok, if_neg hn]
      exact burstParks hp (pageSlot_headTaken _ c _)
    · rw [onPageHead_malformed hst hsub hprof hbad]
      exact plainAttemptParks hp ha
    · rw [onPageHead_empty hm hst hsub hprof hok, if_neg hsum]
      exact pageAttemptParks hp (pageSlot_headTaken _ c _) ha
  · rintro hok rfl rfl
    rw [exec_pageHead_heard hm hst hheard, onPageHead_empty hm hst hsub hprof hok, if_pos rfl]
    refine ⟨fun hmore hpage => ?_, fun hlast hd => ?_⟩
    · rw [show bit flags 0 = true from hmore]
      exact nextPageParks hp hempty hpage
    · rw [show bit flags 0 = false from hlast]
      exact eraseParks hp hempty hprof hd
  · rw [exec_segment_heard hm hst hheard h0 (by cases c <;> exact hl)]
    rintro (⟨hmis, ha⟩ | ⟨hfit, hlast, hne⟩ | ⟨hends, hsum, ha⟩)
    · rw [onSegment_misfits hst hsub hres hhead hout hmis]
      exact plainAttemptParks hp ha
    · rw [onSegment_last hst hsub hres hhead hlast hfit, if_neg hne]
      exact burstParks hp (pageSlot_takeSegment _ data)
    · have hy := pageSlot_takeSegment (s.slot c) data
      rw [onSegment_endsPage hends, checkSum_eq hy hm hprof hhead, if_neg (by exact hsum)]
      exact pageAttemptParks hp hy ha
  · rw [exec_completingSegment hm hprof hheard hc, hmore]
    exact nextPageParks hp (works_committed s c i p _) hpage
  · rw [exec_completingSegment hm hprof hheard hc, hlast]
    exact eraseParks hp (works_committed s c i p _) hprof hd

end Sys2Proof.Claim
end

section
/-! A yielding channel: an abandoned frame parks slot S, a dialog that ends leaves the channel YIELDED, and a channel without a
trigger passes through to OPEN (R46, R48, R138, R143, R156, R157). -/

namespace Sys2Proof.Machine

variable {s v : State} {c d : Channel}

/-- A channel that has passed through YIELDED to OPEN, before its slot resumes (R157). -/
def State.reopenedState (s : State) (c : Channel) : State :=
  ((s.yieldedState c).withShareState c .opened).notify (.channelEvent c .resumed none)

theorem State.YieldOnly.reopenedState (s : State) (c : Channel) : s.YieldOnly (s.reopenedState c) :=
  ((State.YieldOnly.yieldedState s c).trans (.withShareState _ _ _)).trans (.notify _ _)

theorem State.shareOf_reopenedState (s : State) (c : Channel) :
    (s.reopenedState c).shareOf c = { s.shareOf c with state := .opened } := by
  have h : (s.reopenedState c).shareOf c = { (s.yieldedState c).shareOf c with state := .opened } :=
    State.shareOf_withShareOf _ c _
  rw [h, State.shareOf_yieldedState]

theorem State.shareOf_reopenedState_other (s : State) (hd : d ≠ c) : (s.reopenedState c).shareOf d = s.shareOf d :=
  (State.shareOf_withShareOf_other _ hd _).trans (s.shareOf_yieldedState_other hd)

theorem State.link_reopenedState (s : State) (c : Channel) :
    (s.reopenedState c).link =
      [Notice.channelEvent c .yielded none, .channelEvent c .resumed none].foldl Link.notify s.link :=
  congrArg (fun l : Link => l.notify (.channelEvent c .resumed none)) (s.link_yieldedState c)

theorem State.frameInProgress_reopenedState (h : s.frameInProgress c = none) :
    (s.reopenedState c).frameInProgress c = none := by
  have hk : ∀ k : CanChannel, (s.reopenedState k.toChannel).frameInProgress k.toChannel = none := by
    intro k
    have hcan : (s.reopenedState k.toChannel).canCtl k = (s.canCtl k).cut := s.canCtl_yieldedState k
    cases k <;>
    · simp only [State.frameInProgress, canOf, CanChannel.toChannel] at hcan ⊢
      rw [hcan]
      split
      · next hp => exact absurd hp (Can.cut_not_inProgress _ _ _)
      · rfl
  cases c
  · exact hk .a
  · exact hk .b
  · exact h

/-- The slot of a reopened channel resumed, before its ASK_ID is handed (R48). -/
def State.resumedState (s : State) (c : Channel) : State :=
  ((s.reopenedState c).withSlot c { s.slot c with state := .identifying, idAttempt := 1 }).startListening c

theorem State.enterYielded_passes (ht : s.yieldTrigger c = false) (hp : (s.slot c).state = .parked) :
    s.enterYielded c = (s.resumedState c).hand c .askId := by
  have hslot : (s.reopenedState c).slot c = s.slot c := State.slot_congr (State.YieldOnly.reopenedState s c).slots c
  have hp' : ((s.reopenedState c).slot c).state = .parked := hslot ▸ hp
  rw [State.enterYielded_of_no_trigger ht]
  show (s.reopenedState c).resumeSlot c = _
  unfold State.resumeSlot
  rw [if_pos hp', hslot]
  rfl

theorem State.resumedState_frames (s : State) (c : Channel) :
    State.FramesOf c ((s.reopenedState c).withSlot c { s.slot c with state := .identifying, idAttempt := 1 })
      (s.resumedState c) := .startListening _ c

theorem State.slot_resumedState (s : State) (c : Channel) :
    (s.resumedState c).slot c = { s.slot c with state := .identifying, idAttempt := 1 } :=
  (State.slot_congr (s.resumedState_frames c).only.slots c).trans (State.slot_withSlot _ c _)

theorem State.slot_resumedState_other (s : State) (hd : d ≠ c) : (s.resumedState c).slot d = s.slot d :=
  (State.slot_congr (s.resumedState_frames c).only.slots d).trans ((State.slot_withSlot_other _ hd _).trans
    (State.slot_congr (State.YieldOnly.reopenedState s c).slots d))

theorem State.holdingEmpty_of (hp : s.frameInProgress c = none) (hw : s.frameWaiting c = none) :
    s.holdingEmpty c = true := by
  rw [State.holdingEmpty, hp, hw]
  rfl

theorem State.of_holdingEmpty (h : s.holdingEmpty c = true) : s.frameInProgress c = none ∧ s.frameWaiting c = none := by
  rw [State.holdingEmpty, Bool.and_eq_true, Option.isNone_iff_eq_none, Option.isNone_iff_eq_none] at h
  exact h

end Sys2Proof.Machine

namespace Sys2Proof.Claim

open Sys2Proof.Machine

variable {s t u v w : State} {c d : Channel} {i : ModuleIndex} {e : DialogEnd} {x : Slot} {pt : ResumePoint}
  {ns : List Notice}

/-! ### An abandoned frame (R143, R156) -/

theorem Parked.echoCounted (h : Parked s c x pt w ns v) (n : Nat) : Parked s c x pt w ns (withEcho v n) :=
  { h with works := h.works.withLine _ }

/-- A next frame that a parked slot leaves to hand may be handed (R23). -/
theorem Parked.handNext (h : Parked s c x pt w ns v) : Parked s c x pt w ns (v.handNext c) := by
  have hf := State.FramesOnly.handNext v c
  exact {
    slot := (State.slot_congr hf.slots c).trans h.slot
    others := fun d hd => (State.slot_congr hf.slots d).trans (h.others d hd)
    share := hf.share.trans h.share
    link := hf.link.trans h.link
    waiting := fun hn => by
      have hv := h.waiting hn
      have hx : v.handNext c = v := by
        unfold State.handNext
        rw [hv.2]
      rw [hx]
      exact hv
    history := hf.history.trans h.history
    sweep := hf.sweep.trans h.sweep
    table := hf.table.trans h.table
    works := h.works.handNext c }

/-- The mismatch counted after the yield of a parked slot S might as well be counted before it (R143, R156). -/
theorem Parked.countAbandoned_closeStep (h : Parked s .s x pt w ns v) (hp : parksAfter s .s i)
    (hecho : v.line.echoMismatches < 2 ∨ v.setting .echoSilence = 0) :
    ∃ n, ((v.yieldSettle .s).countAbandoned).closeStep = (withEcho v n).closeStep := by
  obtain ⟨hs, hpend, htrig, -, -⟩ := hp
  have hx : v.yieldSettle .s = v.yieldedState .s := by
    rw [State.yieldSettle_of_reached (h.reached hpend), State.enterYielded_of_trigger (h.yieldTrigger.trans htrig)]
  obtain ⟨n, hn⟩ := countAbandoned_eq (s := v.yieldedState .s) hecho
  have hw : withEcho (v.yieldedState .s) n = (withEcho v n).yieldedState .s := rfl
  have hquiet : ∀ d, ¬ ((withEcho v n).yieldedState .s).yieldReached d := by
    intro d hr
    by_cases hd : d = .s
    · subst hd
      exact absurd ((State.shareState_yieldedState (withEcho v n) .s).symm.trans hr.1) nofun
    · refine h.not_reached hs d hd ⟨?_, hr.2⟩
      exact (congrArg ShareChannel.state ((withEcho v n).shareOf_yieldedState_other hd)).symm.trans hr.1
  have hdone : ((withEcho v n).yieldedState .s).sweepDone = false := State.sweepDone_of_busy (c := .s) h.busy
  refine ⟨n, ?_⟩
  rw [hx, hn, hw, State.closeStep_of_quiet hquiet hdone, (h.echoCounted n).closeStep_yielded hs hpend htrig]

/-- A frame abandoned on a yielding line S, its slot parked by the expiry of its wait. -/
theorem abandonedParks {f : TxFrame} (hp : parksAfter s .s i) (ht : s.line.transmitter = .sending)
    (hf : s.line.driving = some f) (haw : (f.own && (s.slot .s).awaits f.request) = true)
    (hecho : s.line.echoMismatches < 2 ∨ s.setting .echoSilence = 0)
    (hv : Parked s .s x pt w ns ((s.withLine (s.line.enterTurnaround (s.setting .turnaroundBits))).waitExpired .s))
    (hsame : ((s.withLine (s.line.enterTurnaround (s.setting .turnaroundBits))).waitExpired .s).line.echoMismatches =
      s.line.echoMismatches) :
    Parks s .s (exec .lineFrameAbandoned s) x pt w ns := by
  have hdriven : s.line.drivenFrame .sending = some f := (if_pos ht).trans hf
  have habandon : (s.withLine (s.line.enterTurnaround (s.setting .turnaroundBits))).slotFrameAbandoned f =
      (s.withLine (s.line.enterTurnaround (s.setting .turnaroundBits))).waitExpired .s := if_pos haw
  have hx : s.lineFrameAbandoned =
      ((((((s.withLine (s.line.enterTurnaround (s.setting .turnaroundBits))).waitExpired .s).handNext .s).yieldSettle
        .s)).countAbandoned).closeStep := by
    unfold State.lineFrameAbandoned
    rw [hdriven]
    dsimp only
    rw [habandon]
  generalize (s.withLine (s.line.enterTurnaround (s.setting .turnaroundBits))).waitExpired .s = y at hv hsame hx
  have hnext := hv.handNext
  obtain ⟨n, hn⟩ := hnext.countAbandoned_closeStep hp (by
    rw [State.echo_handNext, hsame, State.setting, hnext.works.settings]
    exact hecho)
  have hexec : exec .lineFrameAbandoned s = .next (withEcho (y.handNext .s) n).closeStep :=
    congrArg Host.Outcome.next (hx.trans hn)
  rw [hexec]
  exact (hnext.echoCounted n).parks hp

theorem echo_park (s : State) (c : Channel) (pt : ResumePoint) :
    (s.park c pt).line.echoMismatches = s.line.echoMismatches := by
  cases c <;> rfl

theorem abandonedFramesParkTheirSlot : AbandonedFramesParkTheirSlot := by
  intro s i hp ha hecho x
  obtain ⟨-, hpend, -, hm, hh⟩ := id hp
  obtain ⟨f, hf, haw⟩ := awaits_of_awaitedRequest ha
  have hfrom := abandoned_endsFrom hm hf (s.setting .turnaroundBits) .complete
  have hw := (State.Works.refl s).withLine (s.line.enterTurnaround (s.setting .turnaroundBits))
  refine ⟨fun hst hn => ?_, fun hst hatt => ?_⟩
  · have hx : (s.withLine (s.line.enterTurnaround (s.setting .turnaroundBits))).waitExpired .s =
        (s.withLine (s.line.enterTurnaround (s.setting .turnaroundBits))).identityExpired .s :=
      waitExpired_identifying hst
    have hpark := hfrom.identityExpiredParks hp hw rfl hn rfl rfl rfl rfl
    rw [← hx] at hpark
    refine abandonedParks hp ha.1 hf haw hecho hpark ?_
    rw [hx, hfrom.identityExpired_eq hh hn, if_pos hpend]
    exact echo_park _ .s _
  · have hx : (s.withLine (s.line.enterTurnaround (s.setting .turnaroundBits))).waitExpired .s =
        (s.withLine (s.line.enterTurnaround (s.setting .turnaroundBits))).failAttempt .s := waitExpired_reading hst
    have hstop : EndsFrom s .s i (endOf s .s .complete)
        ((s.withLine (s.line.enterTurnaround (s.setting .turnaroundBits))).withSlot .s (s.slot .s).stopResponse) :=
      hfrom.withContext rfl rfl rfl
    have hpark := hstop.attemptParks hp (hw.withSlot .s _) (by rw [State.slot_withSlot]; exact pageSlot_stopped _) hatt rfl
      rfl rfl
    rw [show ((s.withLine (s.line.enterTurnaround (s.setting .turnaroundBits))).withSlot .s
      (s.slot .s).stopResponse).failAttempt .s = _ from failAttempt_stopped _ .s, ← hx] at hpark
    refine abandonedParks hp ha.1 hf haw hecho hpark ?_
    rw [hx, hfrom.failAttempt_eq hh hatt, if_pos hpend]
    exact echo_park _ .s _

/-! ### A dialog that ends (R46, R156) -/

theorem dialogsEndOnAYieldingChannel : DialogsEndOnAYieldingChannel := by
  intro s c i e command hs hpend htrig hm he ho
  obtain ⟨v, hx, hover⟩ := endsDialog_over hs hm he
  refine ⟨_, hx, hover.endedWith hs ho, ?_⟩
  have hreached : v.yieldReached c := ⟨(State.shareState_congr hover.share c).trans hpend, .inl hover.free⟩
  have htrig' : v.yieldTrigger c = true := by
    rw [State.yieldTrigger, hover.share, State.shareOf_congr hover.share, State.isSocket_congr hover.works.settings,
      ← State.yieldTrigger]
    exact htrig
  rw [hover.closeStep_of_otherWork hs ho, State.yieldSettle_of_reached hreached, State.enterYielded_of_trigger htrig']
  exact yieldedAfter_yieldedState hover.share hover.others hover.link hover.works.settings

/-! ### No yield trigger left (R157) -/

/-- With no trigger left the parked slot resumes at once with its ASK_ID (R48, R157). -/
theorem Parked.closeStep_passes (h : Parked s c x pt w ns v) (hs : Settled s) (hp : s.shareState c = .yieldPending)
    (ht : s.yieldTrigger c = false) : v.closeStep = ((v.resumedState c).hand c .askId).recomputeOutputs := by
  have hparked : (v.slot c).state = .parked := by
    rw [h.slot]
    rfl
  have hb : (((v.resumedState c).hand c .askId).slot c).state ≠ .free := by
    rw [State.slot_congr (State.FramesOnly.hand _ c .askId none).slots, State.slot_resumedState]
    exact nofun
  rw [State.closeStep, State.yieldSettle_only (h.not_reached hs), State.yieldSettle_of_reached (h.reached hp),
    State.enterYielded_passes (h.yieldTrigger.trans ht) hparked, State.settleSweep_of_not_done (State.sweepDone_of_busy hb)]

/-- The ASK_ID of a resumed slot is bound for its module (R23). -/
theorem destination_resumedState (hm : (v.slot c).module = some i)
    (hcan : ∀ k : CanChannel, (v.canCtl k).requestBase = (s.canCtl k).requestBase) (hent : v.entry i = s.entry i) :
    (v.resumedState c).destination c = destinationOf s c (s.entry i) := by
  have hf := v.resumedState_frames c
  have hentry : (v.resumedState c).entry i = s.entry i :=
    (State.entry_congr hf.only.table i).trans ((State.entry_congr (State.YieldOnly.reopenedState v c).table i).trans hent)
  have hse : (v.resumedState c).slotEntry c = some (s.entry i) := by
    have hm' : ({ v.slot c with state := SlotState.identifying, idAttempt := 1 } : Slot).module = some i := hm
    rw [State.slotEntry, v.slot_resumedState, hm', Option.map_some, hentry]
  have hbase : ∀ k : CanChannel, c = k.toChannel →
      ((v.resumedState c).canCtl k).requestBase = (s.canCtl k).requestBase := by
    rintro k rfl
    have hcut : ∀ y : Can, y.cut.requestBase = y.requestBase := by
      intro y
      unfold Can.cut
      split <;> rfl
    have hk : (v.resumedState k.toChannel).canCtl k = (v.canCtl k).cut :=
      (State.canCtl_startListening _ _ k).trans (v.canCtl_yieldedState k)
    rw [hk, hcut, hcan k]
  unfold State.destination
  rw [hse]
  cases c
  · exact congrArg (fun n => Destination.can (n + (s.entry i).address)) (hbase .a rfl)
  · exact congrArg (fun n => Destination.can (n + (s.entry i).address)) (hbase .b rfl)
  · rfl

theorem nothingWaits_resumedState (hn : nothingWaits v c) : nothingWaits (v.resumedState c) c := by
  obtain ⟨hprog, hwait⟩ := State.of_holdingEmpty hn.1
  have hy := State.YieldOnly.reopenedState v c
  obtain ⟨hprog', hwait'⟩ := State.frames_startListening
    ((v.reopenedState c).withSlot c { v.slot c with state := .identifying, idAttempt := 1 }) c
  refine ⟨State.holdingEmpty_of (hprog'.trans ?_) (hwait'.trans ((hy.waiting c).trans hwait)), ?_⟩
  · exact State.frameInProgress_reopenedState hprog
  · exact (State.waitingFrames_startListening _ c c).trans ((hy.waitingFrames c).trans hn.2)

theorem yieldWithoutTriggerPassesThrough : YieldWithoutTriggerPassesThrough := by
  intro s c i hs hpend htrig hm hh hb hst
  have hpark := bootExpiredParks hpend hm hh hst
  have hclose := hpark.closeStep_passes hs hpend htrig
  have hv : s.bootExpired c = (s.withSlot c { s.slot c with boot := none }).park c (s.slot c).identityResume := by
    rw [(EndsFrom.refl hm .complete).bootExpired_eq hh hst, if_pos hpend]
  have hexec : exec (.bootTimerExpiry c) s = .next (s.bootExpired c).closeStep :=
    congrArg (fun v : State => Host.Outcome.next v.closeStep) (bootTimerExpired_running hb)
  have hf := State.FramesOnly.hand ((s.bootExpired c).resumedState c) c .askId none
  have hr := ((s.bootExpired c).resumedState_frames c).only
  refine ⟨_, hexec.trans (congrArg Host.Outcome.next hclose), ?_, ?_, fun hroom => ?_, fun hn => ?_, fun d hd => ⟨?_, ?_⟩⟩
  · refine (State.slot_congr hf.slots c).trans ((State.slot_resumedState _ c).trans ?_)
    rw [hpark.slot]
    rfl
  · refine (State.shareOf_congr (hf.share.trans hr.share) c).trans ((State.shareOf_reopenedState _ c).trans ?_)
    rw [State.shareOf_congr hpark.share]
  · have hl : ((s.bootExpired c).resumedState c).link = _ := hr.link.trans (State.link_reopenedState _ c)
    have hpl : (s.bootExpired c).link = s.link := hpark.link
    rw [hpl, Link.foldl_notify_room _ (by simp only [List.length_cons, List.length_nil]; omega)] at hl
    exact (congrArg Link.outbound (hf.link.trans hl) :)
  · have hnv : nothingWaits (s.bootExpired c) c := by
      obtain ⟨hprog, hwait⟩ := State.of_holdingEmpty hn.1
      obtain ⟨hwv, hto⟩ := hpark.waiting ⟨hwait, hn.2⟩
      refine ⟨State.holdingEmpty_of ?_ hwv, hto⟩
      rw [hv]
      exact (by cases c <;> rfl : ((s.withSlot c { s.slot c with boot := none }).park c
        (s.slot c).identityResume).frameInProgress c = s.frameInProgress c).trans hprog
    have hmv : ((s.bootExpired c).slot c).module = some i := by
      rw [hpark.slot]
      exact hm
    have hcan : ∀ k : CanChannel, ((s.bootExpired c).canCtl k).requestBase = (s.canCtl k).requestBase := by
      intro k
      rw [hv]
      cases c <;> cases k <;> rfl
    exact holds_hand (nothingWaits_resumedState hnv)
      (destination_resumedState hmv hcan (State.entry_congr hpark.table i)) .askId
  · exact (State.slot_congr hf.slots d).trans ((State.slot_resumedState_other _ hd).trans (hpark.others d hd))
  · exact (State.shareOf_congr (hf.share.trans hr.share) d).trans
      ((State.shareOf_reopenedState_other _ hd).trans (State.shareOf_congr hpark.share d))

/-- Settles O38: on a yielding channel a slot parks or its dialog ends, and the channel is YIELDED or passes through. -/
theorem yieldingChannelsParkTheirSlots : Obligations.YieldingChannelsParkTheirSlots :=
  ⟨slotsParkWithTheirIdentity, slotsParkWithTheirPage, abandonedFramesParkTheirSlot, dialogsEndOnAYieldingChannel,
    yieldWithoutTriggerPassesThrough⟩

end Sys2Proof.Claim
end

section
/-! A channel silenced (R10, R50, R158, R159): its slot and its list aborted, and the end of the step. -/

namespace Sys2Proof.Claim

open Sys2Proof.Machine

variable {s t u v : State} {c d : Channel} {i : ModuleIndex} {x : Cause}

/-! ### A slot aborted (R50) -/

/-- The append weighed takes no module from a list, and puts none on the list of a SILENCED channel (R17). -/
theorem weighAppend_lists (s : State) (i : ModuleIndex) :
    ∃ w : Sweep, s.weighAppend i = s.withSweep w ∧ w = { s.sweep with lists := w.lists, appended := w.appended }
      ∧ (∀ d, s.workList d <+: w.lists.get d) ∧ ∀ d, s.shareState d = .silenced → w.lists.get d = s.workList d := by
  refine ⟨_, weighAppend_eq s i, ?_⟩
  split
  · next ha =>
    obtain ⟨-, -, -, -, -, hsil, -⟩ := (appends_iff s i).mp ha
    have hother : ∀ d, d ≠ (s.entry i).channel → (withAppended s i).lists.get d = s.workList d :=
      fun d hd => PerChannel.get_set_other _ hd _
    refine ⟨rfl, fun d => ?_, fun d hd => hother d (fun hn => hsil (hn ▸ hd))⟩
    by_cases hd : d = (s.entry i).channel
    · rw [hd]
      have hsame : (withAppended s i).lists.get (s.entry i).channel = s.workList (s.entry i).channel ++ [i] :=
        PerChannel.get_set_same _ _ _
      exact hsame ▸ List.prefix_append _ _
    · exact hother d hd ▸ List.prefix_refl _
  · exact ⟨rfl, fun _ => List.prefix_refl _, fun _ _ => rfl⟩

/-- `v` is `u` with the slot of a channel aborted: FREE, its module given ABORTED, and that module's append weighed (R50). -/
structure SlotGone (u : State) (c : Channel) (v : State) : Prop where
  slot : v.slot c = if (u.slot c).state = .free then u.slot c else {}
  others : ∀ d, d ≠ c → v.slot d = u.slot d
  share : v.share = u.share
  sweep : v.sweep = { u.sweep with
    lists := v.sweep.lists, appended := v.sweep.appended, reached := v.sweep.reached, counts := v.sweep.counts }
  entry : ∀ j, v.entry j =
    if j ∈ (u.slotAbort c).map Prod.fst then
      { u.entry j with lastOutcome := some .aborted, lastSweep := u.sweep.number }
    else u.entry j
  link : v.link = ((u.slotAbort c).map Abort.notice).foldl Link.notify u.link
  lists : ∀ d, u.workList d <+: v.workList d
  list : u.shareState c = .silenced → v.workList c = u.workList c
  waiting : u.waitingFrames c = [] → v.waitingFrames c = []
  history : v.history = u.history

/-- A slot freed after ABORTEDs, the append still to weigh. -/
theorem SlotGone.of_recorded (hb : (u.slot c).state ≠ .free) (hrec : u.Recorded (u.slotAbort c) v)
    (hslot : v.slot c = {}) (hothers : ∀ d, d ≠ c → v.slot d = u.slot d) (hshare : v.share = u.share)
    (hlists : v.sweep.lists = u.sweep.lists) (hwait : v.waitingFrames c = []) (hhist : v.history = u.history) :
    SlotGone u c v where
  slot := by rw [hslot, if_neg hb]
  others := hothers
  share := hshare
  sweep := by rw [hrec.sweep]
  entry := hrec.entry
  link := hrec.link
  lists d := by rw [State.workList, State.workList, hlists]
  list _ := by rw [State.workList, hlists, State.workList]
  waiting _ := hwait
  history := hhist

theorem SlotGone.weighAppend (h : SlotGone u c v) (i : ModuleIndex) : SlotGone u c (v.weighAppend i) := by
  obtain ⟨w, hx, hw, hlists, hlist⟩ := weighAppend_lists v i
  rw [hx]
  exact { h with
    sweep := by
      rw [State.sweep_withSweep, hw, h.sweep]
    lists := fun d => (h.lists d).trans (hlists d)
    list := fun hs => (hlist c ((State.shareState_congr h.share c).trans hs)).trans (h.list hs)
    entry := h.entry }

/-- The slot of a channel aborted (R50). -/
theorem slotGone_abortSlot (u : State) (c : Channel) : SlotGone u c (u.abortSlot c) := by
  by_cases hfree : (u.slot c).state = .free
  · rw [State.abortSlot, if_pos hfree]
    have habort : u.slotAbort c = [] := if_pos hfree
    exact {
      slot := (if_pos hfree).symm, others := fun _ _ => rfl, share := rfl, sweep := rfl,
      entry := fun j => by rw [habort]; rfl
      link := by rw [habort]; rfl
      lists := fun _ => List.prefix_refl _, list := fun _ => rfl, waiting := id, history := rfl }
  · have hf := (State.FramesOnly.withdraw u c).trans (.disown _ c)
    have hwait : ((u.withdraw c).disown c).waitingFrames c = [] := by
      rw [State.waitingFrames_disown, State.waitingFrames_withdraw]
      rfl
    have hrec : u.Recorded [] ((u.withdraw c).disown c) := .of_same (by rw [hf.sweep]) hf.table hf.link
    rw [State.abortSlot, if_neg hfree, State.passOutcome]
    dsimp only
    rw [State.slot_congr hf.slots c]
    have habort : u.slotAbort c =
        ((u.slot c).module.map (fun i => (i, (u.slot c).pagesRead, (u.slot c).refused))).toList := if_neg hfree
    generalize (u.withdraw c).disown c = w at *
    have hgone : ∀ y : State, y.Recorded [] (y.freeSlot c) := fun y =>
      .of_same (by rw [State.sweep_freeSlot]) (State.table_freeSlot _ _) (State.link_freeSlot _ _)
    cases hm : (u.slot c).module with
    | none =>
      dsimp only
      refine .of_recorded hfree ?_ (State.slot_freeSlot _ c) (fun d hd => ?_) ((State.share_freeSlot _ c).trans hf.share)
        ((congrArg Sweep.lists ((State.sweep_freeSlot _ c).trans hf.sweep) :))
        ((State.frames_freeSlot _ c c).2.trans hwait) ((State.FramesOnly.freeSlot _ c).history.trans hf.history)
      · rw [habort, hm]
        exact hrec.append (hgone w)
      · exact (State.slot_freeSlot_other _ hd).trans (State.slot_congr hf.slots d)
    | some i =>
      dsimp only
      have hfreed : SlotGone u c
          ((w.recordOutcome i .aborted (u.slot c).pagesRead (u.slot c).refused).freeSlot c) := by
        refine .of_recorded hfree ?_ (State.slot_freeSlot _ c) (fun d hd => ?_)
          ((State.share_freeSlot _ c).trans hf.share) ?_ ((State.frames_freeSlot _ c c).2.trans hwait)
          ((State.FramesOnly.freeSlot _ c).history.trans hf.history)
        · rw [habort, hm]
          exact (hrec.append (.recordOutcome w i _ _)).append (hgone _)
        · exact (State.slot_freeSlot_other _ hd).trans (State.slot_congr hf.slots d)
        · exact (congrArg Sweep.lists (State.sweep_freeSlot _ c) :).trans (congrArg Sweep.lists hf.sweep :)
      split
      · exact hfreed.weighAppend i
      · exact hfreed

/-! ### The steps of a silence (R159) -/

/-- The ABORTEDs of a silence: of the slot, and of the list while the controller is RUNNING (R10, R159). -/
def silenceAborts (u : State) (c : Channel) : List Abort :=
  u.slotAbort c ++ if u.sweep.state = .running then u.listAbort c else []

/-- `v` is `u` with a channel silenced by a cause, before the end of the step (R158, R159). -/
structure Silent (u : State) (c : Channel) (x : Cause) (v : State) : Prop where
  share : v.shareOf c = { u.shareOf c with state := .silenced, causes := ({} : Causes).add x }
  sharesOthers : ∀ d, d ≠ c → v.shareOf d = u.shareOf d
  slot : v.slot c = if (u.slot c).state = .free then u.slot c else {}
  others : ∀ d, d ≠ c → v.slot d = u.slot d
  waiting : v.waitingFrames c = []
  sweep : v.sweep = { u.sweep with
    lists := v.sweep.lists, appended := v.sweep.appended, reached := v.sweep.reached, counts := v.sweep.counts }
  list : v.workList c = if u.sweep.state = .running then [] else u.workList c
  lists : ∀ d, d ≠ c → u.workList d <+: v.workList d
  entry : ∀ j, v.entry j =
    if j ∈ (silenceAborts u c).map Prod.fst then
      { u.entry j with lastOutcome := some .aborted, lastSweep := u.sweep.number }
    else u.entry j
  link : v.link =
    ((silenceAborts u c).map Abort.notice ++ [Notice.channelEvent c .silenced (some x)]).foldl Link.notify u.link
  history : v.history = u.history
  works : u.Works v

theorem slotAbort_congr (h : v.slot c = u.slot c) : v.slotAbort c = u.slotAbort c := by
  unfold State.slotAbort
  rw [h]

theorem waitingFrames_cut (s : State) (c d : Channel) : (s.cut c).waitingFrames d = s.waitingFrames d := by
  cases c <;> rfl

/-- A slot gone, beside which the list is aborted while the controller is RUNNING, and the notice of the silence. -/
theorem SlotGone.silent {w : State} (hu : ∀ d, d ≠ c → w.shareOf d = u.shareOf d)
    (hc : w.shareOf c = { u.shareOf c with state := .silenced, causes := ({} : Causes).add x })
    (hsame : w = { u with share := w.share, toHand := w.toHand, can := w.can, line := w.line })
    (hwait : w.waitingFrames c = []) (h : SlotGone w c v) (hw : u.Works v) :
    Silent u c x ((if v.sweep.state = .running then v.abortList c else v).notify (.channelEvent c .silenced (some x))) := by
  have hslots : ∀ d, w.slot d = u.slot d := fun d => by rw [hsame]; rfl
  have hsweep : w.sweep = u.sweep := by rw [hsame]
  have hent : ∀ j, w.entry j = u.entry j := fun j => by rw [hsame]; rfl
  have hlink : w.link = u.link := by rw [hsame]
  have hstate : v.sweep.state = u.sweep.state := (congrArg Sweep.state h.sweep :).trans (by rw [hsweep])
  have hnum : v.sweep.number = u.sweep.number := (congrArg Sweep.number h.sweep :).trans (by rw [hsweep])
  have hsil : w.shareState c = .silenced := congrArg ShareChannel.state hc
  have hlist : v.workList c = u.workList c := (h.list hsil).trans (by rw [State.workList, hsweep, State.workList])
  have habort : v.listAbort c = u.listAbort c := congrArg (List.map (fun i => ((i, 0, 0) : Abort))) hlist
  have hslotAbort : w.slotAbort c = u.slotAbort c := slotAbort_congr (hslots c)
  obtain ⟨hrec, honly, hempty⟩ := v.abortList_recorded c
  have hentry : ∀ j, v.entry j =
      if j ∈ (u.slotAbort c).map Prod.fst then
        { u.entry j with lastOutcome := some .aborted, lastSweep := u.sweep.number }
      else u.entry j := fun j => by rw [h.entry j, hslotAbort, hent, hsweep]
  have hlinkv : v.link = ((u.slotAbort c).map Abort.notice).foldl Link.notify u.link := by
    rw [h.link, hslotAbort, hlink]
  have hpre : ∀ d, u.workList d <+: v.workList d := fun d => by
    have := h.lists d
    rwa [State.workList, hsweep, ← State.workList] at this
  have hworks : u.Works ((if v.sweep.state = .running then v.abortList c else v).notify
      (.channelEvent c .silenced (some x))) := by
    refine State.Works.notify ?_ _
    split
    · exact hw.abortList c
    · exact hw
  by_cases hr : u.sweep.state = .running
  · rw [if_pos (hstate.trans hr)] at hworks ⊢
    have haborts : silenceAborts u c = u.slotAbort c ++ v.listAbort c := by
      rw [silenceAborts, if_pos hr, habort]
    exact {
      share := (State.shareOf_congr (honly.share.trans h.share) c).trans hc
      sharesOthers := fun d hd => (State.shareOf_congr (honly.share.trans h.share) d).trans (hu d hd)
      slot := by
        refine (State.slot_congr honly.slots c).trans (h.slot.trans ?_)
        rw [hslots]
      others := fun d hd => (State.slot_congr honly.slots d).trans ((h.others d hd).trans (hslots d))
      waiting := (congrArg (fun q : PerChannel (List TxFrame) => q.get c) honly.toHand).trans (h.waiting hwait)
      sweep := by
        have happ : (v.abortList c).sweep.appended = v.sweep.appended := (congrArg Sweep.appended hrec.sweep :)
        show (v.abortList c).sweep = { u.sweep with
          lists := (v.abortList c).sweep.lists, appended := (v.abortList c).sweep.appended,
          reached := (v.abortList c).sweep.reached, counts := (v.abortList c).sweep.counts }
        rw [happ]
        refine hrec.sweep.trans ?_
        rw [h.sweep, hsweep]
      list := by
        rw [if_pos hr]
        exact (congrArg (fun q : PerChannel (List ModuleIndex) => q.get c) hempty).trans (PerChannel.get_set_same _ c [])
      lists := fun d hd => by
        have hx : (v.abortList c).workList d = v.workList d :=
          (congrArg (fun q : PerChannel (List ModuleIndex) => q.get d) hempty).trans (PerChannel.get_set_other _ hd [])
        exact (hpre d).trans (hx ▸ List.prefix_refl _)
      entry := fun j => by
        refine (hrec.entry j).trans ?_
        rw [hentry j, hnum, haborts, List.map_append]
        by_cases h1 : j ∈ (v.listAbort c).map Prod.fst <;> by_cases h2 : j ∈ (u.slotAbort c).map Prod.fst <;>
          simp only [h1, h2, List.mem_append, if_true, if_false, or_true, or_false]
      link := by
        show Link.notify (v.abortList c).link _ = _
        rw [hrec.link, hlinkv, haborts, List.map_append, List.foldl_append, List.foldl_append]
        rfl
      history := (honly.history.trans h.history).trans (by rw [hsame])
      works := hworks }
  · rw [if_neg (fun hn => hr (hstate.symm.trans hn))] at hworks ⊢
    have haborts : silenceAborts u c = u.slotAbort c := by
      rw [silenceAborts, if_neg hr, List.append_nil]
    exact {
      share := (State.shareOf_congr h.share c).trans hc
      sharesOthers := fun d hd => (State.shareOf_congr h.share d).trans (hu d hd)
      slot := h.slot.trans (by rw [hslots])
      others := fun d hd => (h.others d hd).trans (hslots d)
      waiting := h.waiting hwait
      sweep := by
        show v.sweep = _
        rw [h.sweep, hsweep]
        rfl
      list := by
        rw [if_neg hr]
        exact hlist
      lists := fun d _ => hpre d
      entry := fun j => by
        rw [haborts]
        exact hentry j
      link := by
        show Link.notify v.link _ = _
        rw [hlinkv, haborts, List.foldl_append]
        rfl
      history := h.history.trans (by rw [hsame])
      works := hworks }

/-- A channel silenced (R158, R159). -/
theorem silent_enterSilence (u : State) (c : Channel) (x : Cause) : Silent u c x (u.enterSilence c x) := by
  have hf := (State.FramesOnly.withdraw
    (u.withShareOf c { u.shareOf c with state := .silenced, causes := ({} : Causes).add x }) c).trans (.cut _ c)
  have hwait : (((u.withShareOf c { u.shareOf c with state := .silenced, causes := ({} : Causes).add x }).withdraw c).cut
      c).waitingFrames c = [] := (waitingFrames_cut _ c c).trans (State.waitingFrames_withdraw _ c)
  have hworks : u.Works ((((u.withShareOf c
      { u.shareOf c with state := .silenced, causes := ({} : Causes).add x }).withdraw c).cut c).abortSlot c) :=
    ((((State.Works.refl u).withShareOf c _).withdraw c).cut c).abortSlot c
  unfold State.enterSilence
  dsimp only
  generalize hw : ((u.withShareOf c { u.shareOf c with state := .silenced, causes := ({} : Causes).add x }).withdraw c).cut
    c = w at *
  refine SlotGone.silent (w := w) (fun d hd => ?_) ?_ ?_ hwait (slotGone_abortSlot w c) hworks
  · exact (State.shareOf_congr hf.share d).trans (State.shareOf_withShareOf_other u hd _)
  · exact (State.shareOf_congr hf.share c).trans (State.shareOf_withShareOf u c _)
  · obtain ⟨ws, k, l, rfl⟩ := hf
    rfl

/-! ### The end of the step -/

/-- With AUTO_ATTENTION off the end of a sweep changes the controller's state and the notices alone (R12, R19). -/
theorem settleSweep_off (h : u.setting .autoAttention = 0) :
    State.settleSweep 3 u =
      if u.sweepDone then u.endSweep (if u.sweep.haltTaken then .halted else .finished) else u := by
  split
  · next hd => exact State.settleSweep_ends hd (State.attentionDue_of_off (by exact h)) 2
  · next hd => exact State.settleSweep_of_not_done (Bool.eq_false_iff.mpr hd) 3

/-- What the end of the step after a silence keeps. -/
structure Silent.Closed (v t : State) : Prop where
  slots : t.slots = v.slots
  shareOf : ∀ d, t.shareOf d = v.shareOf d
  toHand : t.toHand = v.toHand
  line : t.line = v.line
  table : t.table = v.table
  history : t.history = v.history
  lists : t.sweep.lists = v.sweep.lists
  link : v.sweepDone = false → t.link = v.link

theorem closed_recomputeOutputs (v : State) : Silent.Closed v v.recomputeOutputs :=
  ⟨rfl, fun _ => rfl, rfl, rfl, rfl, rfl, rfl, fun _ => rfl⟩

theorem closed_closeStep (hy : ∀ d, ¬ v.yieldReached d) (ha : v.setting .autoAttention = 0) :
    Silent.Closed v v.closeStep := by
  rw [State.closeStep, State.yieldSettle_only (c := .a) (fun d _ => hy d), State.yieldSettle_of_not_reached (hy .a),
    settleSweep_off ha]
  split
  · next hd => exact ⟨rfl, fun _ => rfl, rfl, rfl, rfl, rfl, rfl, fun hn => absurd (hn.symm.trans hd) nofun⟩
  · exact closed_recomputeOutputs v

theorem Silent.not_reached (h : Silent u c x v) (hu : ∀ d, d ≠ c → ¬ u.yieldReached d) (d : Channel) :
    ¬ v.yieldReached d := by
  by_cases hd : d = c
  · subst hd
    intro hr
    exact absurd ((congrArg ShareChannel.state h.share :).symm.trans hr.1) nofun
  · have hn := hu d hd
    rwa [State.yieldReached, State.shareState, ← h.sharesOthers d hd, ← h.others d hd] at hn

theorem Silent.closed (h : Silent u c x v) (hu : ∀ d, d ≠ c → ¬ u.yieldReached d) (ha : u.setting .autoAttention = 0) :
    Silent.Closed v v.closeStep :=
  closed_closeStep (h.not_reached hu) ((setting_of_works h.works _).trans ha)

/-- A channel silenced, its step ended, as the statements say it (R10, R50, R158, R159). -/
theorem Silent.silenced (h : Silent u c x v) (hu : ∀ d, d ≠ c → ¬ u.yieldReached d) (ha : u.setting .autoAttention = 0) :
    Silenced u v.closeStep c (({} : Causes).add x) := by
  have hc := h.closed hu ha
  have hent : ∀ j, v.closeStep.entry j = v.entry j := State.entry_congr hc.table
  have hmark : ∀ j, j ∈ (silenceAborts u c).map Prod.fst →
      v.closeStep.entry j = { u.entry j with lastOutcome := some .aborted, lastSweep := u.sweep.number } := fun j hj => by
    rw [hent, h.entry, if_pos hj]
  refine ⟨(hc.shareOf c).trans h.share, fun d hd => (hc.shareOf d).trans (h.sharesOthers d hd),
    ⟨?_, fun hf => ?_, fun hb => ⟨?_, fun i hm => ?_⟩⟩, fun d hd => (State.slot_congr hc.slots d).trans (h.others d hd),
    fun hr => ⟨?_, fun i hi => ?_⟩, hc.history.trans h.history, ownWork_of_works h.works.closeStep⟩
  · exact (congrArg (fun q : PerChannel (List TxFrame) => q.get c) hc.toHand).trans h.waiting
  · rw [State.slot_congr hc.slots, h.slot, if_pos hf]
  · rw [State.slot_congr hc.slots, h.slot, if_neg hb]
  · rw [hmark i (by simp [silenceAborts, State.slotAbort, hb, hm])]
    exact ⟨rfl, rfl⟩
  · rw [State.workList, hc.lists, ← State.workList, h.list, if_pos hr]
  · rw [hmark i (by simp [silenceAborts, State.listAbort, hr, hi])]
    exact ⟨rfl, rfl, rfl⟩

/-- A trigger silences a channel that is neither SILENCED nor in STANDBY (R158). -/
theorem silence_enters (h : u.shareState c = .opened ∨ u.shareState c = .yieldPending ∨ u.shareState c = .yielded)
    (x : Cause) : u.silence c x = u.enterSilence c x := by
  unfold State.silence
  rcases h with h | h | h <;> rw [h]

end Sys2Proof.Claim
end

section
/-! A foreign tester request: the release hold, and a yield or a silence of its channel (R46, R130, R154, R156, R158). -/

namespace Sys2Proof.Claim

open Sys2Proof.Machine

variable {s t u v : State} {c d : Channel} {i : ModuleIndex} {k : CanChannel} {address : BitVec 5}
  {X : Option (BitVec 5)}

/-! ### The request handed on (R130, R154) -/

/-- The state of a channel with its answers held back and its release hold loaded (R130, R154). -/
def testerLoaded (s : State) (k : CanChannel) (X : Option (BitVec 5)) : State :=
  (s.withCan k { s.canCtl k with testerHold := X }).withShareOf k.toChannel
    { s.shareOf k.toChannel with hold := some (s.setting .releaseHold) }

/-- The tester hold after a foreign tester request (R130). -/
def answersHeld (s : State) (k : CanChannel) (address : BitVec 5) : Option (BitVec 5) :=
  if (s.slot k.toChannel).listens = true ∧ s.slotAddress k.toChannel = address.toNat then some address
  else (s.canCtl k).testerHold

theorem answersHeld_idle (h : (s.slot k.toChannel).state = .free ∨ (s.slot k.toChannel).state = .parked)
    (address : BitVec 5) : answersHeld s k address = (s.canCtl k).testerHold :=
  if_neg (fun hn => absurd ((not_listens_iff _).mpr h) (by rw [hn.1]; decide))

theorem answersHeld_busy (hm : (s.slot k.toChannel).module = some i) (hf : (s.slot k.toChannel).state ≠ .free)
    (hp : (s.slot k.toChannel).state ≠ .parked) (address : BitVec 5) :
    answersHeld s k address =
      if (s.entry i).address = address.toNat then some address else (s.canCtl k).testerHold := by
  unfold answersHeld
  rw [slotAddress_eq hm]
  exact if_congr (and_iff_right (listens_of_state hf hp)) rfl rfl

theorem testerLoaded_same (s : State) (k : CanChannel) :
    testerLoaded s k (s.canCtl k).testerHold =
      s.withShareOf k.toChannel { s.shareOf k.toChannel with hold := some (s.setting .releaseHold) } :=
  congrArg (fun v : State => v.withShareOf k.toChannel
    { s.shareOf k.toChannel with hold := some (s.setting .releaseHold) }) (withCan_same s k)

/-- What a loaded release hold leads to (R154, R156, R158). -/
def triggered (l : State) (c : Channel) : State :=
  if l.testerSilences c then l.silence c .tester
  else if l.shareState c = .opened then l.startYield c
  else l

theorem exec_testerRequest (hb : onBus (s.canCtl k)) (address : BitVec 5) :
    exec (.foreignTesterRequest k address) s =
      .next (triggered (testerLoaded s k (answersHeld s k address)) k.toChannel).closeStep := by
  have hx : s.foreignTester k address = s.testerRequest k address := if_pos ((onLine_iff _).mpr hb)
  have hheld : (if (s.slot k.toChannel).listens = true ∧ s.slotAddress k.toChannel = address.toNat then
      s.withCan k { s.canCtl k with testerHold := some address } else s) =
      s.withCan k { s.canCtl k with testerHold := answersHeld s k address } := by
    unfold answersHeld
    split
    · rfl
    · exact (withCan_same s k).symm
  refine congrArg Host.Outcome.next (hx.trans ?_)
  unfold State.testerRequest
  dsimp only
  rw [hheld]
  rfl

/-! ### The state with the release hold loaded -/

section
variable (s : State) (k : CanChannel) (X : Option (BitVec 5))

theorem shareOf_testerLoaded :
    (testerLoaded s k X).shareOf k.toChannel =
      { s.shareOf k.toChannel with hold := some (s.setting .releaseHold) } := State.shareOf_withShareOf _ _ _

theorem shareOf_testerLoaded_other (hd : d ≠ k.toChannel) : (testerLoaded s k X).shareOf d = s.shareOf d :=
  State.shareOf_withShareOf_other _ hd _

theorem shareState_testerLoaded (d : Channel) : (testerLoaded s k X).shareState d = s.shareState d := by
  by_cases hd : d = k.toChannel
  · rw [hd, State.shareState, shareOf_testerLoaded, State.shareState]
  · rw [State.shareState, shareOf_testerLoaded_other s k X hd, State.shareState]

theorem yieldTrigger_testerLoaded : (testerLoaded s k X).yieldTrigger k.toChannel = true := by
  rw [State.yieldTrigger, shareOf_testerLoaded]
  exact Bool.or_true _

theorem canCtl_testerLoaded : (testerLoaded s k X).canCtl k = { s.canCtl k with testerHold := X } :=
  State.canCtl_withCan s k _

theorem works_testerLoaded : s.Works (testerLoaded s k X) := ((State.Works.refl s).withCan k _).withShareOf _ _

end

/-- A loaded release hold leaves nothing to settle. -/
theorem settled_testerLoaded (hs : Settled s) (X : Option (BitVec 5)) : Settled (testerLoaded s k X) := by
  obtain ⟨hy, hd, ht, hp⟩ := hs
  have hst := shareState_testerLoaded s k X
  refine ⟨fun c hc => hy c ((hst c).symm.trans hc), hd, ?_, ?_⟩
  · refine ht.trans ?_
    unfold State.tgntValue
    simp only [hst]
    rfl
  · refine hp.trans ?_
    unfold State.pneedValue
    simp only [hst]
    rfl

/-- No other channel of a settled state has reached a yield. -/
theorem others_quiet (hs : Settled s) (hshare : ∀ d, d ≠ c → v.shareOf d = s.shareOf d)
    (hslot : ∀ d, d ≠ c → v.slot d = s.slot d) (d : Channel) (hd : d ≠ c) : ¬ v.yieldReached d := by
  have hn := hs.not_reached d
  rwa [State.yieldReached, State.shareState, ← hshare d hd, ← hslot d hd] at hn

/-! ### A yield (R46, R156) -/

theorem canCtl_withdrawn_cut (s : State) (k : CanChannel) : ((s.withdraw k.toChannel).canCtl k).cut.holding = .empty := by
  refine Can.holding_cut _ (fun f => ?_)
  rw [State.canCtl_withdraw]
  cases (s.canCtl k).holding <;> exact nofun

theorem Can.testerHold_cut (y : Can) : y.cut.testerHold = y.testerHold := by
  unfold Can.cut
  split <;> rfl

/-- A channel YIELDED at once on a trigger occurrence, its slot FREE or just parked (R156). -/
structure YieldedNow (s : State) (k : CanChannel) (x : Slot) (held : Option (BitVec 5)) (t : State) : Prop where
  slot : t.slot k.toChannel = x
  others : ∀ d, d ≠ k.toChannel → t.slot d = s.slot d
  share : t.shareOf k.toChannel =
    { s.shareOf k.toChannel with state := .yielded, hold := some (s.setting .releaseHold) }
  sharesOthers : ∀ d, d ≠ k.toChannel → t.shareOf d = s.shareOf d
  outputs : t.share.tgnt = t.tgntValue ∧ t.share.pneed = t.pneedValue
  link : t.link = s.link.notify (.channelEvent k.toChannel .yielded none)
  waiting : t.waitingFrames k.toChannel = []
  holding : (t.canCtl k).holding = .empty
  held : (t.canCtl k).testerHold = held
  sweep : t.sweep = s.sweep
  table : t.table = s.table
  history : t.history = s.history
  works : s.Works t

/-- A channel taken to YIELDED from a state in which its hold is loaded and its frames are withdrawn. -/
theorem yieldedNow_of {w : State} {x : Slot} (hs : Settled s)
    (hshare : w.share = (testerLoaded s k X).share) (hslot : w.slot k.toChannel = x)
    (hothers : ∀ d, d ≠ k.toChannel → w.slot d = s.slot d) (hdone : w.sweepDone = false)
    (hw : w.waitingFrames k.toChannel = []) (hcut : (w.canCtl k).cut.holding = .empty)
    (hlink : w.link = s.link) (hsweep : w.sweep = s.sweep) (htable : w.table = s.table) (hhist : w.history = s.history)
    (hworks : s.Works w) :
    YieldedNow s k x (w.canCtl k).testerHold (w.enterYielded k.toChannel).closeStep := by
  have hy := State.YieldOnly.yieldedState w k.toChannel
  have htrig : w.yieldTrigger k.toChannel = true := by
    rw [State.yieldTrigger, State.shareOf_congr hshare, shareOf_testerLoaded]
    exact Bool.or_true _
  have hsharec : (w.yieldedState k.toChannel).shareOf k.toChannel =
      { s.shareOf k.toChannel with state := .yielded, hold := some (s.setting .releaseHold) } := by
    rw [State.shareOf_yieldedState, State.shareOf_congr hshare, shareOf_testerLoaded]
  have hsharesd : ∀ d, d ≠ k.toChannel → (w.yieldedState k.toChannel).shareOf d = s.shareOf d := fun d hd =>
    (w.shareOf_yieldedState_other hd).trans ((State.shareOf_congr hshare d).trans (shareOf_testerLoaded_other s k X hd))
  have hslots : ∀ d, d ≠ k.toChannel → (w.yieldedState k.toChannel).slot d = s.slot d := fun d hd =>
    (State.slot_congr hy.slots d).trans (hothers d hd)
  have hquiet : ∀ d, ¬ (w.yieldedState k.toChannel).yieldReached d := by
    intro d hr
    by_cases hd : d = k.toChannel
    · rw [hd] at hr
      exact absurd ((w.shareState_yieldedState k.toChannel).symm.trans hr.1) nofun
    · exact others_quiet hs hsharesd hslots d hd hr
  rw [State.enterYielded_of_trigger htrig, State.closeStep_of_quiet hquiet (hy.sweepDone.trans hdone)]
  exact {
    slot := (State.slot_congr hy.slots _).trans hslot
    others := hslots
    share := hsharec
    sharesOthers := hsharesd
    outputs := ⟨rfl, rfl⟩
    link := (w.link_yieldedState _).trans (by rw [hlink])
    waiting := (hy.waitingFrames _).trans hw
    holding := (congrArg Can.holding (w.canCtl_yieldedState k)).trans hcut
    held := (congrArg Can.testerHold (w.canCtl_yieldedState k)).trans (Can.testerHold_cut _)
    sweep := hy.sweep.trans hsweep
    table := hy.table.trans htable
    history := hy.history.trans hhist
    works := by
      have hx := (hworks.enterYielded k.toChannel).recomputeOutputs
      rwa [State.enterYielded_of_trigger htrig] at hx }

theorem YieldedNow.tgnt {x : Slot} (h : YieldedNow s k x X t) (hsock : s.isSocket k.toChannel = true) :
    t.share.tgnt = true :=
  h.outputs.1.trans (tgnt_of_yielded (congrArg ShareChannel.state h.share :)
    ((State.isSocket_congr h.works.settings _).trans hsock))

/-- With a FREE slot PNEED is raised by the list of the channel alone (R160). -/
theorem YieldedNow.pneed (h : YieldedNow s k (s.slot k.toChannel) X t) (hs : Settled s)
    (ho : s.shareState k.toChannel = .opened) (hf : (s.slot k.toChannel).state = .free) :
    t.share.pneed = (s.share.pneed || !(s.workList k.toChannel).isEmpty) := by
  obtain ⟨-, -, -, hp⟩ := hs
  have hst : ∀ d, d ≠ k.toChannel → t.shareState d = s.shareState d := fun d hd =>
    congrArg ShareChannel.state (h.sharesOthers d hd)
  have hstc : t.shareState k.toChannel = .yielded := (congrArg ShareChannel.state h.share :)
  have hlist : ∀ d, t.workList d = s.workList d := fun d => State.workList_congr (congrArg Sweep.lists h.sweep) d
  have hslot : ∀ d, t.slot d = s.slot d := fun d => by
    by_cases hd : d = k.toChannel
    · exact hd ▸ h.slot
    · exact h.others d hd
  have hno : (ShareState.opened == ShareState.yielded) = false := rfl
  rw [h.outputs.2, hp]
  unfold State.pneedValue
  simp only [hlist, hslot, allChannels, List.any_cons, List.any_nil, Bool.or_false]
  cases k
  · rw [hst .b (by decide), hst .s (by decide), show t.shareState .a = .yielded from hstc,
      show s.shareState .a = .opened from ho, show (s.slot .a).state = .free from hf]
    simp [CanChannel.toChannel, hno, Bool.or_comm]
  · rw [hst .a (by decide), hst .s (by decide), show t.shareState .b = .yielded from hstc,
      show s.shareState .b = .opened from ho, show (s.slot .b).state = .free from hf]
    simp [CanChannel.toChannel, hno, Bool.or_comm, Bool.or_left_comm]

theorem not_silences (hset : s.setting (testerActionSetting c) ≠ 1) (hw : s.Works v) : ¬ v.testerSilences c = true := by
  rw [State.testerSilences, setting_of_works hw, beq_iff_eq]
  exact hset

theorem silences (hset : s.setting (testerActionSetting c) = 1) (hw : s.Works v) : v.testerSilences c = true := by
  rw [State.testerSilences, setting_of_works hw, hset]
  rfl

/-- On an OPEN channel with action YIELD the trigger starts a yield (R156). -/
theorem triggered_yields (hy : yieldsNow s k.toChannel) (X : Option (BitVec 5)) :
    triggered (testerLoaded s k X) k.toChannel = (testerLoaded s k X).startYield k.toChannel := by
  obtain ⟨ho, hset⟩ := hy
  unfold triggered
  rw [if_neg (not_silences (by rw [hset]; decide) (works_testerLoaded s k X)), if_pos ((shareState_testerLoaded s k X _).trans ho)]

/-- The frames of a channel with its hold loaded withdrawn. -/
theorem withdrawn_testerLoaded (s : State) (k : CanChannel) (X : Option (BitVec 5)) :
    State.FramesOnly (testerLoaded s k X) ((testerLoaded s k X).withdraw k.toChannel) := .withdraw _ _

theorem testerHold_withdrawn (s : State) (k : CanChannel) (X : Option (BitVec 5)) :
    (((testerLoaded s k X).withdraw k.toChannel).canCtl k).testerHold = X := by
  rw [State.canCtl_withdraw, canCtl_testerLoaded]

/-- A FREE slot lets its channel go to YIELDED at once (R156). -/
theorem yieldsAtOnce (hs : Settled s) (hf : (s.slot k.toChannel).state = .free) (X : Option (BitVec 5)) :
    YieldedNow s k (s.slot k.toChannel) X ((testerLoaded s k X).startYield k.toChannel).closeStep := by
  have hfr := withdrawn_testerLoaded s k X
  have hslot : ∀ d, ((testerLoaded s k X).withdraw k.toChannel).slot d = s.slot d := slot_withdraw _ _
  have hx : (testerLoaded s k X).startYield k.toChannel =
      ((testerLoaded s k X).withdraw k.toChannel).enterYielded k.toChannel :=
    if_pos ((congrArg Slot.state (hslot k.toChannel)).trans hf)
  have hnow := yieldedNow_of (X := X) hs hfr.share (hslot _) (fun d _ => hslot d)
    (by
      obtain ⟨ws, y, l, hw⟩ := hfr
      rw [hw]
      exact hs.2.1)
    (State.waitingFrames_withdraw _ _) (canCtl_withdrawn_cut _ k) hfr.link hfr.sweep hfr.table hfr.history
    ((works_testerLoaded s k X).withdraw _)
  rw [testerHold_withdrawn] at hnow
  rw [hx]
  exact hnow

theorem boundaryPoint_eq (x : Slot) : x.boundaryResume = boundaryPoint x := by
  unfold Slot.boundaryResume boundaryPoint
  cases x.state <;> rfl

/-- A slot at a boundary parks, and its channel is YIELDED at once (R46, R156). -/
theorem parksAtOnce (hs : Settled s) (hf : (s.slot k.toChannel).state ≠ .free) (he : ¬ inExchangeUnit s k.toChannel)
    (X : Option (BitVec 5)) :
    YieldedNow s k (parkedSlot (s.slot k.toChannel) (boundaryPoint (s.slot k.toChannel))) none
      ((testerLoaded s k X).startYield k.toChannel).closeStep := by
  have hfr := withdrawn_testerLoaded s k X
  have hslot : ∀ d, ((testerLoaded s k X).withdraw k.toChannel).slot d = s.slot d := slot_withdraw _ _
  have hex : ¬ ((testerLoaded s k X).withdraw k.toChannel).inExchange k.toChannel = true := by
    rw [inExchange_withdraw, inExchange_iff]
    refine fun hn => he ?_
    have hfip : (testerLoaded s k X).frameInProgress k.toChannel = s.frameInProgress k.toChannel := by cases k <;> rfl
    unfold inExchangeUnit at hn ⊢
    rw [hfip] at hn
    exact hn
  have hx : (testerLoaded s k X).startYield k.toChannel =
      (((testerLoaded s k X).withdraw k.toChannel).park k.toChannel
        (boundaryPoint (s.slot k.toChannel))).enterYielded k.toChannel := by
    unfold State.startYield
    dsimp only
    rw [if_neg (by rw [hslot]; exact hf), if_neg hex, hslot, boundaryPoint_eq]
  have hpark := State.FramesOnly.park ((testerLoaded s k X).withdraw k.toChannel) k.toChannel
    (boundaryPoint (s.slot k.toChannel))
  have hpslot : ∀ d, _ = _ := State.slot_congr hpark.slots
  have hcan : (((testerLoaded s k X).withdraw k.toChannel).park k.toChannel
      (boundaryPoint (s.slot k.toChannel))).canCtl k =
      { ((testerLoaded s k X).withdraw k.toChannel).canCtl k with testerHold := none } := by cases k <;> rfl
  have hto : (((testerLoaded s k X).withdraw k.toChannel).park k.toChannel
      (boundaryPoint (s.slot k.toChannel))).waitingFrames k.toChannel =
      ((testerLoaded s k X).withdraw k.toChannel).waitingFrames k.toChannel := by cases k <;> rfl
  have hparked : (((testerLoaded s k X).withdraw k.toChannel).park k.toChannel
      (boundaryPoint (s.slot k.toChannel))).slot k.toChannel =
      parkedSlot (s.slot k.toChannel) (boundaryPoint (s.slot k.toChannel)) := by
    rw [hpslot, State.slot_withSlot, hslot]
    rfl
  have hcut : ((((testerLoaded s k X).withdraw k.toChannel).park k.toChannel
      (boundaryPoint (s.slot k.toChannel))).canCtl k).cut.holding = .empty := by
    rw [hcan]
    refine Can.holding_cut _ (fun f => ?_)
    rw [State.canCtl_withdraw]
    cases ((testerLoaded s k X).canCtl k).holding <;> exact nofun
  have hnow := yieldedNow_of (X := X) hs (hpark.share.trans hfr.share) hparked
    (fun d hd => (hpslot d).trans ((State.slot_withSlot_other _ hd _).trans (hslot d)))
    (State.sweepDone_of_busy (c := k.toChannel) (by rw [hparked]; exact nofun))
    (hto.trans (State.waitingFrames_withdraw _ _)) hcut (hpark.link.trans hfr.link) (hpark.sweep.trans hfr.sweep)
    (hpark.table.trans hfr.table) (hpark.history.trans hfr.history)
    (((works_testerLoaded s k X).withdraw _).park _ _)
  rw [hcan] at hnow
  rw [hx]
  exact hnow

/-- A slot in its exchange unit holds the yield of its channel back (R156). -/
structure YieldHeld (s : State) (k : CanChannel) (X : Option (BitVec 5)) (t : State) : Prop where
  slots : t.slots = s.slots
  share : t.shareOf k.toChannel =
    { s.shareOf k.toChannel with state := .yieldPending, hold := some (s.setting .releaseHold) }
  outputs : t.share.tgnt = s.share.tgnt ∧ t.share.pneed = s.share.pneed
  link : t.link = s.link
  waits : noneWaits t k.toChannel
  inProgress : t.frameInProgress k.toChannel = s.frameInProgress k.toChannel
  held : (t.canCtl k).testerHold = X
  sweep : t.sweep = s.sweep
  table : t.table = s.table
  history : t.history = s.history
  works : s.Works t

/-- An OPEN channel does not raise the outputs, and neither does one that yields (R160). -/
theorem outputs_of_not_yielded (hc : s.shareState c ≠ .yielded) (hc' : t.shareState c ≠ .yielded)
    (hst : ∀ d, d ≠ c → t.shareState d = s.shareState d) (hset : t.settings = s.settings)
    (hslot : ∀ d, t.slot d = s.slot d) (hlist : ∀ d, t.workList d = s.workList d) :
    t.tgntValue = s.tgntValue ∧ t.pneedValue = s.pneedValue := by
  have hflag : ∀ d, (t.shareState d == .yielded) = (s.shareState d == .yielded) := fun d => by
    by_cases hd : d = c
    · rw [hd, beq_eq_false_iff_ne.mpr hc, beq_eq_false_iff_ne.mpr hc']
    · rw [hst d hd]
  constructor
  · unfold State.tgntValue
    simp only [hflag, State.isSocket_congr hset]
  · unfold State.pneedValue
    simp only [hflag, hslot, hlist]

theorem yieldHeld (hs : Settled s) (ho : s.shareState k.toChannel = .opened) (hf : (s.slot k.toChannel).state ≠ .free)
    (hp : (s.slot k.toChannel).state ≠ .parked) (he : inExchangeUnit s k.toChannel) (X : Option (BitVec 5)) :
    YieldHeld s k X ((testerLoaded s k X).startYield k.toChannel).closeStep := by
  have hfr := withdrawn_testerLoaded s k X
  have hslot : ∀ d, ((testerLoaded s k X).withdraw k.toChannel).slot d = s.slot d := slot_withdraw _ _
  have hfip : (testerLoaded s k X).frameInProgress k.toChannel = s.frameInProgress k.toChannel := by cases k <;> rfl
  have hex : ((testerLoaded s k X).withdraw k.toChannel).inExchange k.toChannel = true := by
    rw [inExchange_withdraw, inExchange_iff]
    unfold inExchangeUnit at he ⊢
    rw [hfip]
    exact he
  have hx : (testerLoaded s k X).startYield k.toChannel =
      ((testerLoaded s k X).withdraw k.toChannel).withShareState k.toChannel .yieldPending := by
    unfold State.startYield
    dsimp only
    rw [if_neg (by rw [hslot]; exact hf), if_pos hex]
  have hheld := testerHold_withdrawn s k X
  have hprog := (frameInProgress_withdraw (testerLoaded s k X) k.toChannel).trans hfip
  have hwait := frameWaiting_withdraw (testerLoaded s k X) k.toChannel
  have hto := State.waitingFrames_withdraw (testerLoaded s k X) k.toChannel
  have hworks : s.Works (((testerLoaded s k X).withdraw k.toChannel).withShareState k.toChannel .yieldPending).recomputeOutputs :=
    (((works_testerLoaded s k X).withdraw _).withShareState _ _).recomputeOutputs
  have hsharec : (((testerLoaded s k X).withdraw k.toChannel).withShareState k.toChannel .yieldPending).shareOf k.toChannel =
      { s.shareOf k.toChannel with state := .yieldPending, hold := some (s.setting .releaseHold) } := by
    rw [State.withShareState, State.shareOf_withShareOf, State.shareOf_congr hfr.share, shareOf_testerLoaded]
  have hsharesd : ∀ d, d ≠ k.toChannel →
      (((testerLoaded s k X).withdraw k.toChannel).withShareState k.toChannel .yieldPending).shareOf d = s.shareOf d :=
    fun d hd => (State.shareOf_withShareOf_other _ hd _).trans
      ((State.shareOf_congr hfr.share d).trans (shareOf_testerLoaded_other s k X hd))
  have hquiet : ∀ d,
      ¬ (((testerLoaded s k X).withdraw k.toChannel).withShareState k.toChannel .yieldPending).yieldReached d := by
    intro d hr
    by_cases hd : d = k.toChannel
    · rw [hd] at hr
      have hst : ((s.slot k.toChannel).state = .free ∨ (s.slot k.toChannel).state = .parked) := hslot _ ▸ hr.2
      exact hst.elim hf hp
    · exact others_quiet hs hsharesd (fun d _ => hslot d) d hd hr
  have hdone : (((testerLoaded s k X).withdraw k.toChannel).withShareState k.toChannel .yieldPending).sweepDone = false :=
    State.sweepDone_of_busy (c := k.toChannel) (by
      show (((testerLoaded s k X).withdraw k.toChannel).slot k.toChannel).state ≠ .free
      rw [hslot]
      exact hf)
  have hsets : ((testerLoaded s k X).withdraw k.toChannel).settings = s.settings :=
    (((works_testerLoaded s k X).withdraw _).settings)
  obtain ⟨htgnt, hpneed⟩ := outputs_of_not_yielded
    (t := ((testerLoaded s k X).withdraw k.toChannel).withShareState k.toChannel .yieldPending) (c := k.toChannel) (s := s)
    (by rw [ho]; exact nofun) (by rw [State.shareState, hsharec]; exact nofun)
    (fun d hd => congrArg ShareChannel.state (hsharesd d hd)) hsets hslot
    (fun d => State.workList_congr (congrArg Sweep.lists hfr.sweep) d)
  obtain ⟨-, -, ht, hpn⟩ := hs
  rw [hx, State.closeStep_of_quiet hquiet hdone]
  exact {
    slots := hfr.slots
    share := hsharec
    outputs := ⟨htgnt.trans ht.symm, hpneed.trans hpn.symm⟩
    link := hfr.link
    waits := ⟨hwait, hto⟩
    inProgress := hprog
    held := hheld
    sweep := hfr.sweep
    table := hfr.table
    history := hfr.history
    works := hworks }

/-! ### A silence, and a trigger that changes no share state (R154, R158) -/

/-- Beside a loaded hold the trigger does nothing to a channel that is not OPEN, its action not being SILENCE (R154). -/
theorem triggered_rests (hs : Settled s) (ho : s.shareState k.toChannel ≠ .opened)
    (hset : s.setting (testerActionSetting k.toChannel) ≠ 1) (X : Option (BitVec 5)) :
    (triggered (testerLoaded s k X) k.toChannel).closeStep = testerLoaded s k X := by
  unfold triggered
  rw [if_neg (not_silences hset (works_testerLoaded s k X)),
    if_neg (by rw [shareState_testerLoaded]; exact ho)]
  exact closeStep_settled (settled_testerLoaded hs X)

theorem triggered_standby (hs : Settled s) (ho : s.shareState k.toChannel = .standby) (X : Option (BitVec 5)) :
    (triggered (testerLoaded s k X) k.toChannel).closeStep = testerLoaded s k X := by
  have hst := (shareState_testerLoaded s k X k.toChannel).trans ho
  have hx : triggered (testerLoaded s k X) k.toChannel = testerLoaded s k X := by
    unfold triggered State.silence
    rw [hst, if_neg (show ¬ ShareState.standby = .opened from nofun)]
    exact ite_self _
  rw [hx]
  exact closeStep_settled (settled_testerLoaded hs X)

/-- A cause added to a SILENCED channel leaves nothing to settle. -/
theorem settled_causes (hs : Settled s) (c : Channel) (cs : Causes) :
    Settled (s.withShareOf c { s.shareOf c with causes := cs }) := by
  have hst : ∀ d, (s.withShareOf c { s.shareOf c with causes := cs }).shareState d = s.shareState d := fun d => by
    by_cases hd : d = c
    · rw [hd, State.shareState, State.shareOf_withShareOf, State.shareState]
    · rw [State.shareState, State.shareOf_withShareOf_other _ hd, State.shareState]
  obtain ⟨hy, hdone, ht, hp⟩ := hs
  refine ⟨fun d hd => hy d ((hst d).symm.trans hd), hdone, ht.trans ?_, hp.trans ?_⟩
  · unfold State.tgntValue
    simp only [hst]
    rfl
  · unfold State.pneedValue
    simp only [hst]
    rfl

/-- A trigger with action SILENCE on a channel SILENCED already adds its cause (R158). -/
theorem silence_silenced (h : u.shareState c = .silenced) :
    u.silence c .tester =
      causeAdded u c (u.shareOf c).causes.tester { (u.shareOf c).causes with tester := true } .tester := by
  unfold State.silence
  rw [h]
  rfl

theorem settled_causeAdded (hs : Settled s) (c : Channel) (b : Bool) (cs : Causes) (x : Cause) :
    Settled (causeAdded s c b cs x) := by
  unfold causeAdded
  split
  · exact hs
  · exact settled_causes hs c cs

theorem silenced_of_testerLoaded {cs : Causes} (h : Silenced (testerLoaded s k X) t c cs) :
    Silenced (s.withShareOf k.toChannel { s.shareOf k.toChannel with hold := some (s.setting .releaseHold) }) t c cs := h

theorem slots_eq_of (h : ∀ d, t.slot d = s.slot d) : t.slots = s.slots := by
  have hext : ∀ p q : PerChannel Slot, p.a = q.a → p.b = q.b → p.s = q.s → p = q := by
    rintro ⟨_, _, _⟩ ⟨_, _, _⟩ rfl rfl rfl
    rfl
  exact hext _ _ (h .a) (h .b) (h .s)

/-- Settles O50: a foreign tester request loads the release hold, and its channel yields, is silenced or stays. -/
theorem testerRequestsYieldOrSilence : Obligations.TesterRequestsYieldOrSilence := by
  intro s k address hs hb c
  have hexec := exec_testerRequest hb address
  refine ⟨fun hy hf => ?_, fun i hy hm hf hp he => ?_, fun i hy hm hf hp he => ?_, fun hst hset ha => ?_,
    fun hst hf => ?_, fun hst hf => ?_, fun hst hset => ?_⟩
  · rw [answersHeld_idle (.inl hf), triggered_yields hy] at hexec
    have h := yieldsAtOnce hs hf (s.canCtl k).testerHold
    refine ⟨_, hexec, h.share, h.tgnt, h.pneed hs hy.1 hf, congrArg Link.outbound h.link, h.waiting, h.holding, h.held, ?_,
      h.sweep, h.table, h.history, ownWork_of_works h.works⟩
    refine slots_eq_of fun d => ?_
    by_cases hd : d = c
    · exact hd ▸ h.slot
    · exact h.others d hd
  · rw [answersHeld_busy hm hf hp, triggered_yields hy] at hexec
    have h := yieldHeld hs hy.1 hf hp he
      (if (s.entry i).address = address.toNat then some address else (s.canCtl k).testerHold)
    exact ⟨_, hexec, h.share, h.slots, h.outputs.1, h.outputs.2, h.link, h.waits, h.inProgress, h.held, h.sweep, h.table,
      h.history, ownWork_of_works h.works⟩
  · rw [triggered_yields hy] at hexec
    have h := parksAtOnce hs hf he (answersHeld s k address)
    exact ⟨_, hexec, h.slot, h.share, h.outputs.2.trans (pneed_of_yielded (congrArg ShareChannel.state h.share :)
        (by rw [h.slot]; exact nofun)), h.tgnt, h.link, h.waiting, h.holding, h.held,
      fun d hd => ⟨h.others d hd, h.sharesOthers d hd⟩, h.sweep, h.table, h.history, ownWork_of_works h.works⟩
  · have hw := works_testerLoaded s k (answersHeld s k address)
    have hx : triggered (testerLoaded s k (answersHeld s k address)) k.toChannel =
        (testerLoaded s k (answersHeld s k address)).enterSilence k.toChannel .tester := by
      unfold triggered
      rw [if_pos (silences hset hw)]
      exact silence_enters (by simpa only [shareState_testerLoaded] using hst) .tester
    rw [hx] at hexec
    have hsil := (silent_enterSilence (testerLoaded s k (answersHeld s k address)) c .tester).silenced
      (others_quiet hs (fun d hd => shareOf_testerLoaded_other s k _ hd) (fun _ _ => rfl))
      ((setting_of_works hw _).trans ha)
    exact ⟨_, _, hexec, rfl, silenced_of_testerLoaded hsil⟩
  · rw [hexec, answersHeld_idle (.inl hf), triggered_standby hs hst, testerLoaded_same]
  · rw [hexec, answersHeld_idle (.inl hf), testerLoaded_same]
    have hl := testerLoaded_same s k
    have hsettled := settled_testerLoaded (k := k) hs (s.canCtl k).testerHold
    rw [hl] at hsettled
    have hstl := shareState_testerLoaded s k (s.canCtl k).testerHold c
    rw [hl] at hstl
    refine congrArg Host.Outcome.next ?_
    by_cases hset : s.setting (testerActionSetting c) = 1
    · rw [if_pos hset, triggered, if_pos (silences hset ((State.Works.refl s).withShareOf _ _)),
        silence_silenced (hstl.trans hst), closeStep_settled (settled_causeAdded hsettled c _ _ _),
        State.shareOf_withShareOf]
    · have hrest := triggered_rests (k := k) hs (by rw [hst]; exact nofun) hset (s.canCtl k).testerHold
      rw [hl] at hrest
      rw [if_neg hset]
      exact hrest
  · have hact : s.setting (testerActionSetting k.toChannel) ≠ 1 := by
      rw [hset]
      decide
    have hno : s.shareState k.toChannel ≠ .opened := by
      rcases hst with h | h <;> exact fun hn => nomatch hn.symm.trans h
    refine ⟨fun hfp => ?_, fun i hm hf hp => ?_⟩
    · rw [hexec, answersHeld_idle hfp, triggered_rests hs hno hact, testerLoaded_same]
    · rw [hexec, answersHeld_busy hm hf hp, triggered_rests hs hno hact]
      rfl

end Sys2Proof.Claim
end

section
/-! The read-back of line S: a frame sent, and a frame abandoned whose mismatch does not silence the line (R23, R25, R30, R39,
R43, R142, R143). -/

namespace Sys2Proof.Claim

open Sys2Proof.Machine

variable {s t u v w : State} {c d : Channel} {i : ModuleIndex} {e : DialogEnd} {x : Slot} {f : TxFrame} {n : Nat}

/-! ### A frame sent (R25, R27) -/

/-- The slot of a channel after a frame of its dialog that is no wake has been sent. -/
def sentSlot (s : State) (c : Channel) (f : TxFrame) : Slot :=
  let x := s.slot c
  let y := if x.restartsKeepAwake f.request then x.restartKeepAwake (s.setting .keepAwakePeriod) else x
  if x.awaits f.request then y.loadResponse (s.responseWait c) else y

/-- A frame sent changes the context of its slot alone, unless it is a wake. -/
theorem slotFrameSent_eq (hown : f.own = true) (hst : (s.slot c).awaits f.request = true → (s.slot c).state ≠ .waking) :
    s.slotFrameSent c f = s.withSlot c (sentSlot s c f) := by
  have hload : ∀ y : Slot, y.module = (s.slot c).module →
      (s.withSlot c y).loadResponse c = s.withSlot c (y.loadResponse (s.responseWait c)) := by
    intro y hy
    have hwait : (s.withSlot c y).responseWait c = s.responseWait c := by
      unfold State.responseWait State.slotEntry
      rw [State.slot_withSlot, hy]
      rfl
    rw [State.loadResponse, State.slot_withSlot, State.withSlot_withSlot, hwait]
  have hsame : s = s.withSlot c (s.slot c) := (State.withSlot_same s c).symm
  unfold State.slotFrameSent sentSlot
  dsimp only
  rw [if_pos hown]
  by_cases ha : (s.slot c).awaits f.request = true
  · rw [if_pos ha, if_pos ha]
    by_cases hk : (s.slot c).restartsKeepAwake f.request = true
    · rw [if_pos hk, if_pos hk, if_neg (hst ha)]
      exact hload _ rfl
    · rw [if_neg hk, if_neg hk, if_neg (hst ha)]
      rfl
  · rw [if_neg ha, if_neg ha]
    by_cases hk : (s.slot c).restartsKeepAwake f.request = true
    · rw [if_pos hk, if_pos hk]
    · rw [if_neg hk, if_neg hk]
      exact hsame

theorem state_sentSlot (s : State) (c : Channel) (f : TxFrame) : (sentSlot s c f).state = (s.slot c).state := by
  unfold sentSlot
  dsimp only
  split <;> split <;> rfl

/-- A request whose answer a slot awaits loads the response timer and restarts the keep-awake timer (R25, R27). -/
theorem sentSlot_awaited (hm : (s.slot c).module = some i) (ha : (s.slot c).awaits f.request = true)
    (hk : (s.slot c).restartsKeepAwake f.request = true) :
    sentSlot s c f =
      { s.slot c with
        response := some { left := (s.entry i).responseWait * 10, since := 0 }, holdOns := 0,
        keepAwake := some ⟨s.setting .keepAwakePeriod, s.setting .keepAwakePeriod⟩ } := by
  have hwait : s.responseWait c = (s.entry i).responseWait := by
    rw [State.responseWait, State.slotEntry, hm]
    rfl
  unfold sentSlot
  dsimp only
  rw [if_pos ha, if_pos hk, hwait]
  rfl

/-- A STAY restarts the keep-awake timer while it runs (R27). -/
theorem sentSlot_stay (hr : f.request = .stay) (hk : (s.slot c).keepAwake ≠ none) :
    sentSlot s c f =
      { s.slot c with keepAwake := some ⟨s.setting .keepAwakePeriod, s.setting .keepAwakePeriod⟩ } := by
  unfold sentSlot
  dsimp only
  rw [hr, if_pos (show (s.slot c).restartsKeepAwake .stay = true from Option.isSome_iff_ne_none.mpr hk)]
  rfl

theorem lineFrameSent_eq (ht : s.line.transmitter = .sending) (hf : s.line.driving = some f) (hw : s.toHand.s = []) {y : Slot}
    (hs : Settled s) (hy : y.state = (s.slot .s).state)
    (hsent : (s.withLine { turningAround s with echoMismatches := 0 }).slotFrameSent .s f =
      (s.withLine { turningAround s with echoMismatches := 0 }).withSlot .s y) :
    s.lineFrameSent = (s.withLine { turningAround s with echoMismatches := 0 }).withSlot .s y := by
  have hdriven : s.line.drivenFrame .sending = some f := (if_pos ht).trans hf
  have hx : s.lineFrameSent = (((s.withLine { turningAround s with echoMismatches := 0 }).slotFrameSent .s f).handNext
      .s).closeStep := by
    unfold State.lineFrameSent
    rw [hdriven]
    rfl
  rw [hx, hsent, State.Handed.handNext (.inl (by exact hw))]
  exact closeStep_settled (settled_withSlot (s := s.withLine { turningAround s with echoMismatches := 0 })
    (by exact hs) _ hy)

/-- The step of a frame sent, as its slot takes it (R143). -/
theorem exec_lineFrameSent (ht : s.line.transmitter = .sending) (hf : s.line.driving = some f) (hw : s.toHand.s = [])
    (hs : Settled s) (hst : (s.slot .s).state = .waking → f.own = false ∨ f.request = .stay) :
    exec .lineFrameSent s = .next ((s.withLine { turningAround s with echoMismatches := 0 }).withSlot .s
      (if f.own then sentSlot s .s f else s.slot .s)) := by
  refine congrArg Host.Outcome.next ?_
  by_cases hown : f.own = true
  · rw [if_pos hown]
    refine lineFrameSent_eq ht hf hw hs (state_sentSlot s .s f) (slotFrameSent_eq hown fun ha hn => ?_)
    rcases hst hn with h | h
    · exact absurd (h.symm.trans hown) nofun
    · rw [h] at ha
      exact absurd ha nofun
  · rw [if_neg hown]
    exact lineFrameSent_eq ht hf hw hs rfl (if_neg hown)

/-! ### A frame abandoned (R143) -/

/-- The mismatch counted where the line is not silenced for it (R143). -/
theorem countAbandoned_unsilenced (h : s.line.echoMismatches < 2 ∨ s.setting .echoSilence = 0) :
    s.countAbandoned = withEcho s (if s.line.echoMismatches < 2 then s.line.echoMismatches + 1 else 0) := by
  unfold State.countAbandoned
  dsimp only
  split
  · rfl
  · next hn =>
    have hoff : ¬ (s.withLine { s.line with echoMismatches := 0 }).setting .echoSilence = 1 := by
      show ¬ s.setting .echoSilence = 1
      rw [h.resolve_left hn]
      decide
    exact if_neg hoff

/-- The abandoned frame as the slot takes it, before the mismatch is counted (R143, R156). -/
theorem lineFrameAbandoned_eq (ht : s.line.transmitter = .sending) (hf : s.line.driving = some f) :
    s.lineFrameAbandoned =
      (((((s.withLine (turningAround s)).slotFrameAbandoned f).handNext .s).yieldSettle .s).countAbandoned).closeStep := by
  have hdriven : s.line.drivenFrame .sending = some f := (if_pos ht).trans hf
  unfold State.lineFrameAbandoned
  rw [hdriven]
  rfl

theorem slotFrameAbandoned_other (hf : f.own = false ∨ f.request = .stay) : s.slotFrameAbandoned f = s := by
  refine if_neg fun hn => ?_
  rw [Bool.and_eq_true] at hn
  rcases hf with h | h
  · exact absurd (h.symm.trans hn.1) nofun
  · have := hn.2
    rw [h] at this
    exact absurd this nofun

/-! ### The wait of a slot and the count of mismatches -/

theorem hand_withEcho (h : nothingWaits u .s) (q : TxRequest) (k : Option Nat) (n : Nat) :
    (withEcho u n).hand .s q k = withEcho (u.hand .s q k) n := by
  rw [State.hand_empty h.1 h.2, State.hand_empty (s := withEcho u n) (by exact h.1) (by exact h.2)]
  rfl

theorem passOutcome_withEcho (y : State) (o : SweepOutcome) (n : Nat) :
    (withEcho y n).passOutcome .s o = withEcho (y.passOutcome .s o) n := by
  have hweigh : ∀ (z : State) (j : ModuleIndex), (withEcho z n).weighAppend j = withEcho (z.weighAppend j) n := by
    intro z j
    have happ : (withEcho z n).appends j = z.appends j := rfl
    unfold State.weighAppend
    rw [happ]
    split <;> rfl
  have hslot : (withEcho y n).slot .s = y.slot .s := rfl
  unfold State.passOutcome
  dsimp only
  rw [hslot]
  cases hm : (y.slot .s).module with
  | none => rfl
  | some j =>
    generalize hz : (y.recordOutcome j o (y.slot .s).pagesRead (y.slot .s).refused).freeSlot .s = z
    have hz' : ((withEcho y n).recordOutcome j o (y.slot .s).pagesRead (y.slot .s).refused).freeSlot .s =
        withEcho z n := by
      rw [← hz]
      rfl
    have hatt : ((withEcho z n).entry j).attention = (z.entry j).attention := rfl
    dsimp only
    rw [hz', hatt, hz, hweigh]
    split <;> rfl

theorem endDialog_withEcho (h : nothingWaits u .s) (ho : u.shareState .s = .opened) (o : SweepOutcome) (n : Nat) :
    (withEcho u n).endDialog .s o = withEcho (u.endDialog .s o) n := by
  have hnone := (State.of_holdingEmpty h.1).2
  have hput : ∀ y : State, (withEcho y n).dropRequests .s TxFrame.isOwnErase = withEcho y n →
      y.dropRequests .s TxFrame.isOwnErase = y → y.shareState .s = .opened → nothingWaits y .s →
      (withEcho y n).endDialog .s o = withEcho (y.endDialog .s o) n := by
    intro y hd hd' hy hn
    unfold State.endDialog
    dsimp only
    rw [hd, hd', if_pos hy, if_pos (show (withEcho y n).shareState .s = .opened from hy), hand_withEcho hn]
    exact passOutcome_withEcho ((y.hand .s .bye).disown .s) o n
  exact hput u (State.dropRequests_none (s := withEcho u n) (by exact h.2) (by exact hnone) _)
    (State.dropRequests_none h.2 hnone _) ho h

/-- What an expired wait makes of its slot on an OPEN line S without a halt: the dialog goes on with a request, or it ends. -/
inductive Passing where
  | asks (x : Slot) (q : TxRequest)
  | ends (x : Slot) (o : SweepOutcome)

/-- The slot as the expiry leaves it to the request or to the end that follows. -/
def Passing.slot : Passing → Slot
  | .asks x _ => x
  | .ends x _ => x

/-- The step that follows an expired wait. -/
def Passing.step (v : State) : Passing → State
  | .asks x q => (v.withSlot .s x).hand .s q
  | .ends x o => (v.withSlot .s x).endDialog .s o

/-- The expired wait of slot S by its state (R30, R39, R43). -/
def passing (v : State) (i : ModuleIndex) : Passing :=
  let x := v.slot .s
  match x.state with
  | .identifying =>
    if x.idAttempt < 1 + (v.entry i).retries then
      .asks (retrySlot (v.entry i) x.stopResponse) (firstRequest .s (v.entry i))
    else .ends x.stopResponse (identityFails v .s .noAnswer)
  | .reading => if x.attempt = 1 then .asks (repeatedSlot x) (.askPage x.page) else .ends x.stopResponse .partialRead
  | _ => .ends x .eraseDenied

/-- A slot that waits for an answer. -/
def waitsForAnswer (x : Slot) : Prop := x.state = .identifying ∨ x.state = .reading ∨ x.state = .erasing

theorem waitExpired_passing (hm : (v.slot .s).module = some i) (ho : v.shareState .s = .opened)
    (hh : v.sweep.state ≠ .halting) (hst : waitsForAnswer (v.slot .s)) :
    v.waitExpired .s = Passing.step v (passing v i) := by
  have hfrom := EndsFrom.refl hm .aborted
  have hopen := not_yieldPending_of_opened ho
  unfold passing
  dsimp only
  rcases hst with hst | hst | hst
  · rw [waitExpired_identifying hst, hst]
    dsimp only
    split
    · next hn =>
      have hstop : EndsFrom v .s i (endOf v .s .aborted) (v.withSlot .s (v.slot .s).stopResponse) :=
        hfrom.withContext rfl rfl rfl
      rw [hfrom.identityExpired_eq hh hn, if_neg hopen, hstop.nextIdentityAttempt_eq, State.slot_withSlot,
        State.withSlot_withSlot]
      rfl
    · next hn => exact hfrom.identityExpired_last hh rfl (not_lt.mp hn)
  · rw [waitExpired_reading hst, hst]
    dsimp only
    split
    · next ha =>
      rw [hfrom.failAttempt_eq hh ha, if_neg hopen]
      rfl
    · next ha => exact hfrom.failAttempt_last hh ha
  · rw [waitExpired_erasing hst, hst]
    exact congrArg (State.endDialog · .s .eraseDenied) (State.withSlot_same v .s).symm

theorem module_passing (v : State) (i : ModuleIndex) : (passing v i).slot.module = (v.slot .s).module := by
  unfold passing
  dsimp only
  split
  · split
    · exact (retrySlot_keeps _ _).1
    · rfl
  · split <;> rfl
  · rfl

/-- A step of line S that does not read the count of mismatches, and leaves nothing to hand at once. -/
structure Beside (g : State → State) (w : State) : Prop where
  echo : ∀ n, g (withEcho w n) = withEcho (g w) n
  handed : (g w).Handed .s
  share : (g w).share = w.share
  same : (g w).line.echoMismatches = w.line.echoMismatches
  works : w.Works (g w)

theorem beside_hand (h : nothingWaits w .s) (x : Slot) (q : TxRequest) :
    Beside (fun v => (v.withSlot .s x).hand .s q) w where
  echo n := hand_withEcho (u := w.withSlot .s x) h q none n
  handed := State.handed_handNext _
  share := (State.FramesOnly.hand (w.withSlot .s x) .s q none).share
  same := State.echo_handNext _ .s
  works := ((State.Works.refl w).withSlot .s x).hand .s q none

theorem beside_endDialog (h : nothingWaits w .s) (ho : w.shareState .s = .opened) (hm : (w.slot .s).module = some i)
    {x : Slot} (hx : x.module = (w.slot .s).module) (o : SweepOutcome) :
    Beside (fun v => (v.withSlot .s x).endDialog .s o) w := by
  have hfrom : EndsFrom (w.withSlot .s x) .s i (endOf (w.withSlot .s x) .s o) (w.withSlot .s x) :=
    EndsFrom.refl (by rw [State.slot_withSlot, hx, hm]) o
  exact {
    echo := fun n => endDialog_withEcho (u := w.withSlot .s x) h ho o n
    handed := hfrom.handed_endDialog h.2
    share := (congrArg State.share hfrom.endDialog_withSweep :).trans (outcomeRecorded_share _ .s i (endOf (w.withSlot .s x) .s o))
    same := hfrom.echo_endDialog
    works := ((State.Works.refl w).withSlot .s x).endDialog .s o }

theorem beside_passing (h : nothingWaits w .s) (ho : w.shareState .s = .opened) (hm : (w.slot .s).module = some i) :
    Beside (fun v => (passing w i).step v) w := by
  have hmod := module_passing w i
  cases hp : passing w i with
  | asks x q => exact beside_hand h x q
  | ends x o =>
    rw [hp] at hmod
    exact beside_endDialog h ho hm hmod o

/-- Line S in turnaround leaves nothing before a frame that its slot hands (R23, R143). -/
theorem nothingWaits_turning (hw : s.toHand.s = []) (hn : s.line.holding = none) :
    nothingWaits (s.withLine (turningAround s)) .s := by
  refine ⟨?_, hw⟩
  show (Option.isNone none && Option.isNone s.line.holding) = true
  rw [hn]
  rfl

section Request

variable (ha : awaitedRequest s) (hw : s.toHand.s = []) (hn : s.line.holding = none) (ho : s.shareState .s = .opened)
  (hm : (s.slot .s).module = some i) (hh : s.sweep.state ≠ .halting)

/-- The slot that awaits the answer of a request being sent waits for that answer. -/
theorem waitsForAnswer_of (ha : awaitedRequest s) : waitsForAnswer (s.slot .s) := by
  obtain ⟨-, f, -, -, hreq⟩ := ha
  rcases hreq with ⟨-, hst⟩ | ⟨-, hst, -⟩ | ⟨-, hst, -⟩ | ⟨-, hst⟩
  · exact .inl hst
  · exact .inr (.inl hst)
  · exact .inr (.inl hst)
  · exact .inr (.inr hst)

include ha hw hn ho hm hh

/-- A request abandoned on an OPEN line S ends its wait, and the mismatch is counted (R143). -/
theorem lineFrameAbandoned_passing :
    Beside (fun v => (passing s i).step v) (s.withLine (turningAround s))
      ∧ s.lineFrameAbandoned = (((passing s i).step (s.withLine (turningAround s))).countAbandoned).closeStep := by
  obtain ⟨f, hf, haw⟩ := awaits_of_awaitedRequest ha
  have hbeside : Beside (fun v => (passing s i).step v) (s.withLine (turningAround s)) :=
    beside_passing (w := s.withLine (turningAround s)) (nothingWaits_turning hw hn) ho hm
  have hx : (s.withLine (turningAround s)).slotFrameAbandoned f = (passing s i).step (s.withLine (turningAround s)) :=
    (if_pos (by exact haw)).trans
      (waitExpired_passing (v := s.withLine (turningAround s)) hm ho hh (by exact waitsForAnswer_of (s := s) ha))
  have hyield : ¬ ((passing s i).step (s.withLine (turningAround s))).yieldReached .s := fun hr =>
    absurd ((State.shareState_congr hbeside.share .s).symm.trans hr.1) (not_yieldPending_of_opened ho)
  refine ⟨hbeside, ?_⟩
  rw [lineFrameAbandoned_eq ha.1 hf, hx, hbeside.handed.handNext, State.yieldSettle_of_not_reached hyield]

/-- A request abandoned without a silence is the expiry of its wait after the count (R143). -/
theorem lineFrameAbandoned_unsilenced (hecho : s.line.echoMismatches < 2 ∨ s.setting .echoSilence = 0) :
    s.lineFrameAbandoned =
      ((withEcho (s.withLine (turningAround s))
        (if s.line.echoMismatches < 2 then s.line.echoMismatches + 1 else 0)).waitExpired .s).closeStep := by
  obtain ⟨hbeside, hx⟩ := lineFrameAbandoned_passing ha hw hn ho hm hh
  have hsame : ((passing s i).step (s.withLine (turningAround s))).line.echoMismatches = s.line.echoMismatches :=
    hbeside.same
  have hset : ((passing s i).step (s.withLine (turningAround s))).setting .echoSilence = s.setting .echoSilence :=
    setting_of_works hbeside.works _
  rw [hx, countAbandoned_unsilenced (by rw [hsame, hset]; exact hecho), hsame]
  refine congrArg State.closeStep ((hbeside.echo _).symm.trans ?_)
  exact (waitExpired_passing (v := withEcho (s.withLine (turningAround s)) _) hm ho hh (by exact waitsForAnswer_of (s := s) ha)).symm

end Request

/-! ### Frames sent and abandoned (R142, R143) -/

theorem sentSlot_after (hm : (s.slot .s).module = some i ∨ f.own = false)
    (hst : (s.slot .s).state = .waking → f.own = false ∨ f.request = .stay)
    (ht : t.slot .s = if f.own then sentSlot s .s f else s.slot .s) : SlotAfterSent s t .s i f := by
  have hawaited : f.own = true → (s.slot .s).awaits f.request = true → (s.slot .s).restartsKeepAwake f.request = true →
      t.slot .s = _ := fun hown ha hk =>
    ht.trans ((if_pos hown).trans (sentSlot_awaited (hm.resolve_right (by rw [hown]; exact nofun)) ha hk))
  refine ⟨fun hown hr hs => ?_, fun n hown hr hs hsub hpage => ?_, fun n hown hr hs hsub => ?_, fun hown hr hs => ?_,
    fun hown hr hs _ => ?_, fun hown hr hk => ?_, fun hown => ?_⟩
  · exact hawaited hown (by simp [Slot.awaits, hr, hs]) (by simp [Slot.restartsKeepAwake, hr, hs])
  · exact hawaited hown (by simp [Slot.awaits, hr, hs, hsub, hpage]) (by simp [Slot.restartsKeepAwake, hr, hs])
  · exact hawaited hown (by simp [Slot.awaits, hr, hs, hsub]) (by simp [Slot.restartsKeepAwake, hr, hs])
  · exact hawaited hown (by simp [Slot.awaits, hr, hs]) (by simp [Slot.restartsKeepAwake, hr, hs])
  · rcases hst hs with h | h
    · exact absurd (h.symm.trans hown) nofun
    · exact absurd (h.symm.trans hr) nofun
  · exact ht.trans ((if_pos hown).trans (sentSlot_stay hr hk))
  · exact ht.trans (if_neg (by rw [hown]; exact nofun))

/-- The next identity attempt after an abandoned ASK_ID (R30). -/
theorem identityAskedAgain (hs : Settled s) (hn : nothingWaits s .s) (ho : s.shareState .s = .opened)
    (hm : (s.slot .s).module = some i) (hh : s.sweep.state ≠ .halting) (hst : (s.slot .s).state = .identifying)
    (hleft : (s.slot .s).idAttempt < 1 + (s.entry i).retries) :
    (s.waitExpired .s).closeStep =
      (s.withSlot .s (retrySlot (s.entry i) (s.slot .s).stopResponse)).putHolding .s
        ⟨firstRequest .s (s.entry i), destinationOf s .s (s.entry i), none, true⟩ := by
  have hfrom := EndsFrom.refl hm .aborted
  have hask := hfrom.identityRetried hs ho hh rfl rfl (State.Works.refl s) hst hleft
  have hret : EndsFrom s .s i (endOf s .s .aborted)
      (s.withSlot .s (retrySlot (s.entry i) (s.slot .s).stopResponse)) := by
    obtain ⟨hmod, hpages, hrefused⟩ := retrySlot_keeps (s.entry i) (s.slot .s).stopResponse
    exact hfrom.withContext hmod hpages hrefused
  have hx : s.waitExpired .s =
      (s.withSlot .s (retrySlot (s.entry i) (s.slot .s).stopResponse)).hand .s (firstRequest .s (s.entry i)) := by
    rw [waitExpired_passing hm ho hh (.inl hst), passing]
    rw [hst]
    dsimp only
    rw [if_pos hleft]
    rfl
  rw [waitExpired_identifying hst, hask.closed, ← waitExpired_identifying hst, hx,
    State.hand_empty (by exact hn.1) (by exact hn.2), hret.destination]

/-- A page asked again after an abandoned request (R39). -/
theorem pageAskedAgain (hs : Settled s) (hn : nothingWaits s .s) (ho : s.shareState .s = .opened)
    (hm : (s.slot .s).module = some i) (hh : s.sweep.state ≠ .halting) (hst : (s.slot .s).state = .reading)
    (hatt : (s.slot .s).attempt = 1) :
    (s.waitExpired .s).closeStep =
      (s.withSlot .s (repeatedSlot (s.slot .s))).putHolding .s
        ⟨.askPage (s.slot .s).page, destinationOf s .s (s.entry i), none, true⟩ := by
  have hrep : EndsFrom s .s i (endOf s .s .partialRead) (s.withSlot .s (repeatedSlot (s.slot .s))) :=
    (EndsFrom.refl hm .partialRead).withContext rfl rfl rfl
  have hask := hrep.asked hs ho (by
    rw [State.slot_withSlot]
    exact fun hn => nomatch hst.symm.trans hn) rfl ((State.Works.refl s).withSlot .s _) (.askPage (s.slot .s).page) none
  have hx : s.waitExpired .s = (s.withSlot .s (repeatedSlot (s.slot .s))).hand .s (.askPage (s.slot .s).page) := by
    rw [waitExpired_passing hm ho hh (.inr (.inl hst)), passing]
    rw [hst]
    dsimp only
    rw [if_pos hatt]
    rfl
  rw [hx, hask.closed, State.hand_empty (by exact hn.1) (by exact hn.2), hrep.destination]

/-- The expired wait of a page is a failed attempt (R39). -/
theorem attemptFailed_waitExpired (hs : Settled s) (ho : s.shareState .s = .opened) (hm : (s.slot .s).module = some i)
    (hh : s.sweep.state ≠ .halting) (hst : (s.slot .s).state = .reading) :
    AttemptFailed s .s i (.next (s.waitExpired .s).closeStep) := by
  rw [waitExpired_reading hst, ← failAttempt_stopped]
  exact attemptFailed_of (pageSlot_stopped _) hs hst hm ho hh

theorem readBackFramesAreSentOrAbandoned : ReadBackFramesAreSentOrAbandoned := by
  intro s f i hs ht hf hw hn ho turning n unsilenced abandoned
  have hsettled : Settled (s.withLine abandoned) := hs
  have hnothing : nothingWaits (s.withLine abandoned) .s := nothingWaits_turning hw hn
  have hexec : awaitedRequest s → (s.slot .s).module = some i → s.sweep.state ≠ .halting → unsilenced →
      exec .lineFrameAbandoned s = .next ((s.withLine abandoned).waitExpired .s).closeStep := fun ha hm hh hun =>
    congrArg Host.Outcome.next (lineFrameAbandoned_unsilenced ha hw hn ho hm hh hun)
  refine ⟨fun hm hst => ?_, fun hother hun => ?_, fun hown hr hst hsub hatt hm hh hun => ?_, fun hown hm hh hun => ?_⟩
  · refine ⟨_, exec_lineFrameSent ht hf hw hs hst, rfl, sentSlot_after hm hst (State.slot_withSlot _ .s _), ?_, rfl, rfl⟩
    refine ⟨fun d hd => ⟨State.slot_withSlot_other _ hd _, rfl⟩, fun _ _ => rfl, fun hc => absurd rfl hc, rfl, rfl, rfl, ?_⟩
    exact ownWork_of_works (((State.Works.refl s).withLine _).withSlot .s _)
  · refine congrArg Host.Outcome.next ?_
    have hyield : ¬ (s.withLine (turningAround s)).yieldReached .s := hs.not_reached .s
    rw [lineFrameAbandoned_eq ht hf, slotFrameAbandoned_other hother, State.Handed.handNext (.inl (by exact hw)),
      State.yieldSettle_of_not_reached hyield, countAbandoned_unsilenced (by exact hun)]
    exact closeStep_settled hsettled
  · have ha : awaitedRequest s := ⟨ht, f, hf, hown, .inr (.inl ⟨hr, hst, hsub⟩)⟩
    refine ⟨_, (hexec ha hm hh hun).trans (congrArg Host.Outcome.next
      (pageAskedAgain (s := s.withLine abandoned) hsettled hnothing ho hm hh hst hatt)), rfl, rfl, rfl, hst, rfl, rfl, rfl, ?_⟩
    exact ownWork_of_works ((((State.Works.refl s).withLine abandoned).withSlot .s _).putHolding .s _)
  · refine ⟨fun k hr hst hsub => ?_, fun hr hst hsub => ?_, fun hr hst hleft => ?_, fun hr hst hlast hid how => ?_,
      fun hr hst how => ?_⟩
    · rw [hexec ⟨ht, f, hf, hown, .inr (.inr (.inl ⟨⟨k, hr⟩, hst, hsub⟩))⟩ hm hh hun]
      exact attemptFailed_waitExpired hsettled ho hm hh hst
    · rw [hexec ⟨ht, f, hf, hown, .inr (.inl ⟨hr, hst, hsub⟩)⟩ hm hh hun]
      exact attemptFailed_waitExpired hsettled ho hm hh hst
    · refine (hexec ⟨ht, f, hf, hown, .inl ⟨hr, hst⟩⟩ hm hh hun).trans (congrArg Host.Outcome.next ?_)
      refine (identityAskedAgain (s := s.withLine abandoned) hsettled hnothing ho hm hh hst hleft).trans ?_
      have hent : (s.withLine abandoned).entry i = s.entry i := rfl
      rw [hent]
      unfold retrySlot firstRequest
      cases (s.entry i).sleepy <;> rfl
    · have hend := identityExpired_ended (s := s.withLine abandoned) hsettled hm hh hlast how
      rw [show identityFails (s.withLine abandoned) .s .noAnswer = .noAnswer from if_pos hid] at hend
      refine ⟨_, hexec ⟨ht, f, hf, hown, .inl ⟨hr, hst⟩⟩ hm hh hun, ?_⟩
      rw [waitExpired_identifying (by exact hst)]
      exact hend
    · refine ⟨_, hexec ⟨ht, f, hf, hown, .inr (.inr (.inr ⟨hr, hst⟩))⟩ hm hh hun, ?_⟩
      rw [waitExpired_erasing (by exact hst)]
      exact ended_endDialog (s := s.withLine abandoned) hsettled hm how .eraseDenied

end Sys2Proof.Claim
end

section
/-! The third mismatch in a row on line S, with ECHO_SILENCE on: slot S reacts first, and then the line is SILENCED (R50, R143,
R156, R158, R159). -/

namespace Sys2Proof.Claim

open Sys2Proof.Machine

variable {s t u v w y : State} {c d : Channel} {i : ModuleIndex} {e : DialogEnd} {x : Slot} {f : TxFrame} {pt : ResumePoint}

/-! ### Line S through the silence (R142, R144, R146) -/

/-- Line S in turnaround with its receiver OFF. -/
def Turning (l : Line) : Prop := l.transmitter = .turnaround ∧ l.receiver = .off

/-- Line S as a silence for its read-back leaves it. -/
def Faulted (l : Line) : Prop := l.echoMismatches = 0 ∧ l.transmitter = .turnaround ∧ l.holding = none ∧ l.receiver = .off

theorem turning_handNext (h : Turning v.line) : Turning (v.handNext .s).line := by
  unfold State.handNext
  split
  · exact h
  · split
    · exact h
    · exact h

theorem turning_hand (h : Turning v.line) (q : TxRequest) (n : Option Nat) : Turning (v.hand .s q n).line :=
  turning_handNext (by exact h)

/-- A line in turnaround keeps its receiver OFF under a slot that listens (R144). -/
theorem startListening_turning (h : Turning v.line) : v.startListening .s = v :=
  if_neg (by rw [h.1]; decide)

/-- The slot that an outcome frees stops listening (R146). -/
theorem line_passOutcome (v : State) (o : SweepOutcome) : (v.passOutcome .s o).line = v.line.receiverOff := by
  unfold State.passOutcome
  dsimp only
  split
  · rfl
  · split
    · unfold State.weighAppend
      split <;> rfl
    · rfl

theorem faulted_passOutcome (h : Faulted v.line) (o : SweepOutcome) : Faulted (v.passOutcome .s o).line := by
  rw [line_passOutcome]
  exact ⟨h.1, h.2.1, h.2.2.1, rfl⟩

/-- A silence withdraws what waits and leaves the turnaround under way (R23, R144, R159). -/
theorem faulted_enterSilence (h : Turning v.line) (he : v.line.echoMismatches = 0) (x : Cause) :
    Faulted (v.enterSilence .s x).line := by
  have hcut : ∀ z : State, Faulted z.line → Faulted (z.cut .s).line := by
    intro z hz
    have hsame : z.line.cut (z.setting .turnaroundBits) = z.line := by
      unfold Line.cut
      rw [hz.2.1]
    exact (congrArg Faulted hsame).mpr hz
  have habort : ∀ z : State, Faulted z.line → Faulted (z.abortSlot .s).line := by
    intro z hz
    unfold State.abortSlot
    split
    · exact hz
    · exact faulted_passOutcome (v := (z.withdraw .s).disown .s) ⟨hz.1, hz.2.1, rfl, hz.2.2.2⟩ .aborted
  have hlist : ∀ z : State, Faulted z.line →
      Faulted (if z.sweep.state = .running then z.abortList .s else z).line := by
    intro z hz
    split
    · obtain ⟨-, honly, -⟩ := z.abortList_recorded .s
      exact (congrArg Faulted honly.line).mpr hz
    · exact hz
  exact hlist _ (habort _ (hcut _ ⟨he, h.1, rfl, h.2⟩))

/-! ### Before the silence -/

/-- `v` is `s` once slot S has taken an abandoned frame and its dialog has not ended: what the silence of its line finds. -/
structure Reacted (s v : State) : Prop where
  share : v.shareOf .s = { s.shareOf .s with state := v.shareState .s }
  mayEnter : v.shareState .s = .opened ∨ v.shareState .s = .yieldPending ∨ v.shareState .s = .yielded
  sharesOthers : ∀ d, d ≠ .s → v.shareOf d = s.shareOf d
  free : (s.slot .s).state = .free → v.slot .s = s.slot .s
  busy : (s.slot .s).state ≠ .free → (v.slot .s).state ≠ .free
  context : (v.slot .s).module = (s.slot .s).module ∧ (v.slot .s).pagesRead = (s.slot .s).pagesRead
    ∧ (v.slot .s).refused = (s.slot .s).refused
  others : ∀ d, d ≠ .s → v.slot d = s.slot d
  sweep : v.sweep = s.sweep
  table : v.table = s.table
  history : v.history = s.history
  works : s.Works v
  turning : Turning v.line

theorem countAbandoned_silences (hn : 2 ≤ v.line.echoMismatches) (hset : v.setting .echoSilence = 1)
    (ho : v.shareState .s = .opened ∨ v.shareState .s = .yieldPending ∨ v.shareState .s = .yielded) :
    v.countAbandoned = (withEcho v 0).enterSilence .s .echoFault := by
  unfold State.countAbandoned
  dsimp only
  rw [if_neg (not_lt.mpr hn), if_pos (by exact hset)]
  exact silence_enters (by exact ho) .echoFault

/-- The silence of line S for its read-back, its step ended. -/
def echoSilenced (v : State) : State := ((withEcho v 0).enterSilence .s .echoFault).closeStep

theorem Reacted.quiet (h : Reacted s v) (hs : Settled s) : ∀ d, d ≠ .s → ¬ (withEcho v 0).yieldReached d :=
  others_quiet hs h.sharesOthers h.others

theorem faulted_echoSilenced (ht : Turning v.line) (hq : ∀ d, d ≠ .s → ¬ (withEcho v 0).yieldReached d)
    (ha : v.setting .autoAttention = 0) : Faulted (echoSilenced v).line := by
  have hline := ((silent_enterSilence (withEcho v 0) .s .echoFault).closed hq ha).line
  exact (congrArg Faulted hline).mpr (faulted_enterSilence (v := withEcho v 0) ht rfl .echoFault)

/-- The silence that follows, as the statements say it of the state before the abandoned frame (R50, R158, R159). -/
theorem Reacted.silenced (h : Reacted s v) (hs : Settled s) (ha : s.setting .autoAttention = 0) :
    Silenced s (echoSilenced v) .s { echoFault := true } := by
  have hent := State.entry_congr h.table
  have hv := (silent_enterSilence (withEcho v 0) .s .echoFault).silenced (h.quiet hs)
    ((setting_of_works h.works _).trans ha)
  obtain ⟨hshare, hothers, ⟨hwait, hfree, hbusy⟩, hslots, hlist, hhist, -⟩ := hv
  refine ⟨hshare.trans ?_, fun d hd => (hothers d hd).trans (h.sharesOthers d hd), ⟨hwait, fun hf => ?_, fun hb => ?_⟩,
    fun d hd => (hslots d hd).trans (h.others d hd), fun hr => ?_, hhist.trans h.history,
    ownWork_of_works ((h.works.withLine _).enterSilence .s .echoFault).closeStep⟩
  · show ({ v.shareOf .s with state := .silenced, causes := ({} : Causes).add .echoFault } : ShareChannel) = _
    rw [h.share]
    rfl
  · have hx := h.free hf
    exact (hfree (by exact hx ▸ hf)).trans hx
  · obtain ⟨hempty, hmod⟩ := hbusy (by exact h.busy hb)
    refine ⟨hempty, fun i hm => ?_⟩
    obtain ⟨ho, hn⟩ := hmod i (by exact h.context.1.trans hm)
    exact ⟨ho, hn.trans (congrArg Sweep.number h.sweep :)⟩
  · have hwork : (withEcho v 0).workList .s = s.workList .s := State.workList_congr (congrArg Sweep.lists h.sweep) .s
    obtain ⟨hempty, hall⟩ := hlist ((congrArg Sweep.state h.sweep :).trans hr)
    refine ⟨hempty, fun i hi => ?_⟩
    obtain ⟨ho, hn, hatt⟩ := hall i (by rw [hwork]; exact hi)
    exact ⟨ho, hn.trans (congrArg Sweep.number h.sweep :), hatt.trans (congrArg Entry.attention (hent i))⟩

/-- The notices of a silence that finds a busy slot, an empty list and work elsewhere (R50, R159). -/
theorem Reacted.outbound (h : Reacted s v) (hs : Settled s) (hm : (s.slot .s).module = some i)
    (hb : (s.slot .s).state ≠ .free) (ha : s.setting .autoAttention = 0) (hl : s.workList .s = []) (ho : otherWork s .s)
    (hroom : v.link.noticesHeld + 2 ≤ 12) :
    (echoSilenced v).link.outbound = v.link.outbound
      ++ [.notice (.moduleEnd i .aborted (s.slot .s).pagesRead (s.slot .s).refused),
        .notice (.channelEvent .s .silenced (some .echoFault))] := by
  have hsil := silent_enterSilence (withEcho v 0) .s .echoFault
  have hclosed := hsil.closed (h.quiet hs) ((setting_of_works h.works _).trans ha)
  have hdone : ((withEcho v 0).enterSilence .s .echoFault).sweepDone = false := by
    obtain ⟨d, hd⟩ := ho
    have hds : d ≠ .s := by
      rintro rfl
      rcases hd with hn | ⟨hn, -⟩
      · exact hn hl
      · exact hn rfl
    rcases hd with hn | ⟨-, hn⟩
    · refine State.sweepDone_of_listed (c := d) fun hnil => hn ?_
      have hpre := hsil.lists d hds
      rw [hnil] at hpre
      exact (State.workList_congr (congrArg Sweep.lists h.sweep) d).symm.trans (List.prefix_nil.mp hpre)
    · refine State.sweepDone_of_busy (c := d) ?_
      rw [hsil.others d hds]
      exact (h.others d hds) ▸ hn
  have haborts : silenceAborts (withEcho v 0) .s = [(i, (s.slot .s).pagesRead, (s.slot .s).refused)] := by
    obtain ⟨hmod, hpages, hrefused⟩ := h.context
    have hslot : (withEcho v 0).slotAbort .s = [(i, (s.slot .s).pagesRead, (s.slot .s).refused)] := by
      show v.slotAbort .s = _
      rw [State.slotAbort, if_neg (h.busy hb), hmod, hm, hpages, hrefused]
      rfl
    have hlist : (withEcho v 0).listAbort .s = [] := by
      show v.listAbort .s = _
      rw [State.listAbort, State.workList_congr (congrArg Sweep.lists h.sweep), hl, List.map_nil]
    rw [silenceAborts, hslot, hlist, ite_self, List.append_nil]
  have hlink : (echoSilenced v).link = _ := (hclosed.link hdone).trans hsil.link
  rw [haborts, Link.foldl_notify_room _ (by exact hroom)] at hlink
  exact (congrArg Link.outbound hlink :)

/-! ### A STAY, a BYE, and an OPEN line -/

theorem Reacted.of_frames {x : Slot} (ho : s.shareState .s = .opened ∨ s.shareState .s = .yieldPending
      ∨ s.shareState .s = .yielded)
    (hx : x.module = (s.slot .s).module ∧ x.pagesRead = (s.slot .s).pagesRead ∧ x.refused = (s.slot .s).refused)
    (hfree : (s.slot .s).state = .free → x = s.slot .s) (hbusy : (s.slot .s).state ≠ .free → x.state ≠ .free)
    (hf : ((s.withLine (turningAround s)).withSlot .s x).FramesOnly v) (hw : s.Works v) (ht : Turning v.line) :
    Reacted s v := by
  have hslot : v.slot .s = x := (State.slot_congr hf.slots .s).trans (State.slot_withSlot _ .s x)
  have hshare : ∀ d, v.shareOf d = s.shareOf d := State.shareOf_congr hf.share
  have hst : v.shareState .s = s.shareState .s := congrArg ShareChannel.state (hshare .s)
  exact {
    share := by
      rw [hst]
      exact hshare .s
    mayEnter := hst ▸ ho
    sharesOthers := fun d _ => hshare d
    free := fun h => hslot.trans (hfree h)
    busy := fun h => hslot ▸ hbusy h
    context := hslot ▸ hx
    others := fun d hd => (State.slot_congr hf.slots d).trans (State.slot_withSlot_other _ hd x)
    sweep := hf.sweep
    table := hf.table
    history := hf.history
    works := hw
    turning := ht }

theorem thirdMismatchOnAStayOrByeSilences : ThirdMismatchOnAStayOrByeSilences := by
  intro s f hs ht hf hother hn hset ha ho
  have hsame : (s.withLine (turningAround s)).withSlot .s (s.slot .s) = s.withLine (turningAround s) :=
    State.withSlot_same _ .s
  have hreact : Reacted s ((s.withLine (turningAround s)).handNext .s) := by
    refine .of_frames (x := s.slot .s) ho ⟨rfl, rfl, rfl⟩ (fun _ => rfl) id ?_ (((State.Works.refl s).withLine _).handNext .s)
      (turning_handNext ⟨rfl, rfl⟩)
    rw [hsame]
    exact .handNext _ .s
  have hyield : ¬ ((s.withLine (turningAround s)).handNext .s).yieldReached .s := by
    have hk := State.FramesOnly.handNext (s.withLine (turningAround s)) .s
    have hnot : ¬ (s.withLine (turningAround s)).yieldReached .s := hs.not_reached .s
    rwa [State.yieldReached, State.shareState_congr hk.share, State.slot_congr hk.slots]
  have hecho : ((s.withLine (turningAround s)).handNext .s).line.echoMismatches = s.line.echoMismatches :=
    State.echo_handNext _ .s
  have hx : s.lineFrameAbandoned = echoSilenced ((s.withLine (turningAround s)).handNext .s) := by
    rw [lineFrameAbandoned_eq ht hf, slotFrameAbandoned_other hother, State.yieldSettle_of_not_reached hyield,
      countAbandoned_silences (hecho ▸ hn) ((setting_of_works hreact.works _).trans hset) hreact.mayEnter]
    rfl
  obtain ⟨h1, h2, h3, h4⟩ := faulted_echoSilenced hreact.turning (hreact.quiet hs)
    ((setting_of_works hreact.works _).trans ha)
  exact ⟨_, congrArg Host.Outcome.next hx, h1, h2, h3, h4, hreact.silenced hs ha⟩

/-! ### A request of slot S whose dialog goes on -/

/-- The notices of a yield that slot S lets happen before the silence (R156, R157). -/
def yieldNotices (s : State) : List Notice :=
  if s.shareState .s = .opened then []
  else if s.yieldTrigger .s then [.channelEvent .s .yielded none]
  else [.channelEvent .s .yielded none, .channelEvent .s .resumed none]

theorem Reacted.yielded (h : Reacted s y) : Reacted s (y.yieldedState .s) := by
  have hy := State.YieldOnly.yieldedState y .s
  have hslot : ∀ d, (y.yieldedState .s).slot d = y.slot d := State.slot_congr hy.slots
  exact {
    share := by
      rw [State.shareState_yieldedState, State.shareOf_yieldedState, h.share]
    mayEnter := .inr (.inr (State.shareState_yieldedState y .s))
    sharesOthers := fun d hd => (y.shareOf_yieldedState_other hd).trans (h.sharesOthers d hd)
    free := fun hf => (hslot .s).trans (h.free hf)
    busy := fun hb => (hslot .s) ▸ h.busy hb
    context := (hslot .s) ▸ h.context
    others := fun d hd => (hslot d).trans (h.others d hd)
    sweep := hy.sweep.trans h.sweep
    table := hy.table.trans h.table
    history := hy.history.trans h.history
    works := ((h.works.letGo .s).withShareState .s .yielded).notify _
    turning := hy.line ▸ h.turning }

theorem Reacted.line_resumedState (h : Reacted s y) : (y.resumedState .s).line = y.line := by
  have hr : (y.reopenedState .s).line = y.line := (State.YieldOnly.reopenedState y .s).line
  rw [State.resumedState, startListening_turning (by exact hr ▸ h.turning)]
  exact hr

theorem Reacted.resumed (h : Reacted s y) (hb : (s.slot .s).state ≠ .free) :
    Reacted s ((y.resumedState .s).hand .s .askId) := by
  have hr := State.YieldOnly.reopenedState y .s
  have hf := ((y.resumedState_frames .s).only).trans (.hand _ .s .askId none)
  have hshare : ∀ d, ((y.resumedState .s).hand .s .askId).shareOf d = (y.reopenedState .s).shareOf d :=
    State.shareOf_congr hf.share
  have hst : ((y.resumedState .s).hand .s .askId).shareState .s = .opened :=
    congrArg ShareChannel.state ((hshare .s).trans (y.shareOf_reopenedState .s))
  have hslot : ((y.resumedState .s).hand .s .askId).slot .s = { y.slot .s with state := .identifying, idAttempt := 1 } :=
    (State.slot_congr hf.slots .s).trans (State.slot_withSlot _ .s _)
  exact {
    share := by
      rw [hst, hshare, State.shareOf_reopenedState, h.share]
    mayEnter := .inl hst
    sharesOthers := fun d hd => (hshare d).trans ((y.shareOf_reopenedState_other hd).trans (h.sharesOthers d hd))
    free := fun hfree => absurd hfree hb
    busy := fun _ => by
      rw [hslot]
      exact nofun
    context := by
      rw [hslot]
      exact h.context
    others := fun d hd => (State.slot_congr hf.slots d).trans ((State.slot_withSlot_other _ hd _).trans
      ((State.slot_congr hr.slots d).trans (h.others d hd)))
    sweep := hf.sweep.trans (hr.sweep.trans h.sweep)
    table := hf.table.trans (hr.table.trans h.table)
    history := hf.history.trans (hr.history.trans h.history)
    works := by
      have hopen := (((h.works.letGo .s).withShareState .s .yielded).notify
        (.channelEvent .s .yielded none)).withShareState .s .opened
      exact (((hopen.notify (.channelEvent .s .resumed none)).withSlot .s _).startListening .s).hand .s .askId none
    turning := turning_hand (h.line_resumedState ▸ h.turning) .askId none }

/-- The slot of a dialog that goes on parks when its wait expires on a YIELD_PENDING line (R46). -/
theorem waitExpired_parks (hm : (s.slot .s).module = some i) (hp : s.shareState .s = .yieldPending)
    (hh : s.sweep.state ≠ .halting)
    (hgo : (s.slot .s).state = .identifying ∧ (s.slot .s).idAttempt < 1 + (s.entry i).retries
      ∨ (s.slot .s).state = .reading ∧ (s.slot .s).attempt = 1) :
    ∃ pt, s.waitExpired .s = (s.withSlot .s (s.slot .s).stopResponse).park .s pt := by
  have hfrom := EndsFrom.refl hm .aborted
  rcases hgo with ⟨hst, hn⟩ | ⟨hst, hatt⟩
  · refine ⟨(s.slot .s).identityResume, ?_⟩
    rw [waitExpired_identifying hst, hfrom.identityExpired_eq hh hn, if_pos hp]
  · refine ⟨.page, ?_⟩
    rw [waitExpired_reading hst, hfrom.failAttempt_eq hh hatt, if_pos hp]

section Going

variable (hs : Settled s) (ha : awaitedRequest s) (hw : s.toHand.s = []) (hn : s.line.holding = none)
  (hm : (s.slot .s).module = some i) (hh : s.sweep.state ≠ .halting)
  (hgo : (s.slot .s).state = .identifying ∧ (s.slot .s).idAttempt < 1 + (s.entry i).retries
    ∨ (s.slot .s).state = .reading ∧ (s.slot .s).attempt = 1)

include hgo in
theorem busy_of_going : (s.slot .s).state ≠ .free := by
  rcases hgo with ⟨hst, -⟩ | ⟨hst, -⟩ <;>
  · rw [hst]
    exact nofun

include hgo in
/-- A dialog that goes on asks again (R30, R39). -/
theorem passing_going : ∃ x q, passing s i = .asks x q ∧ x.state ≠ .free
    ∧ x.module = (s.slot .s).module ∧ x.pagesRead = (s.slot .s).pagesRead ∧ x.refused = (s.slot .s).refused := by
  rcases hgo with ⟨hst, hleft⟩ | ⟨hst, hatt⟩
  · refine ⟨_, firstRequest .s (s.entry i), ?_, retrySlot_busy (m := s.entry i) (x := (s.slot .s).stopResponse) hst,
      retrySlot_keeps _ _⟩
    rw [passing, hst]
    exact if_pos hleft
  · refine ⟨repeatedSlot (s.slot .s), .askPage (s.slot .s).page, ?_, ?_, rfl, rfl, rfl⟩
    · rw [passing, hst]
      exact if_pos hatt
    · show (s.slot .s).state ≠ .free
      rw [hst]
      exact nofun

/-- What slot S and its line have come to when the silence begins, the dialog going on (R30, R39, R46, R156). -/
structure Goes (s v : State) : Prop where
  abandoned : s.lineFrameAbandoned = (v.countAbandoned).closeStep
  reacted : Reacted s v
  link : v.link = (yieldNotices s).foldl Link.notify s.link
  echo : v.line.echoMismatches = s.line.echoMismatches

include ha hw hn hm hh hgo

theorem goes_of_opened (ho : s.shareState .s = .opened) : ∃ v, Goes s v := by
  obtain ⟨hbeside, hx⟩ := lineFrameAbandoned_passing ha hw hn ho hm hh
  obtain ⟨x, q, hp, hbusy, hkept⟩ := passing_going hgo
  rw [hp] at hbeside hx
  have hf : ((s.withLine (turningAround s)).withSlot .s x).FramesOnly
      (Passing.step (s.withLine (turningAround s)) (.asks x q)) := .hand _ .s q none
  refine ⟨_, hx, ?_, ?_, hbeside.same⟩
  · exact .of_frames (.inl ho) hkept (fun hfree => absurd hfree (busy_of_going hgo)) (fun _ => hbusy) hf
      ((((State.Works.refl s).withLine (turningAround s)).withSlot .s x).hand .s q none)
      (turning_hand (v := (s.withLine (turningAround s)).withSlot .s x) ⟨rfl, rfl⟩ q none)
  · rw [yieldNotices, if_pos ho]
    exact hf.link

omit hn in
theorem goes_of_yieldPending (hp : s.shareState .s = .yieldPending) : ∃ v, Goes s v := by
  obtain ⟨f, hf, haw⟩ := awaits_of_awaitedRequest ha
  obtain ⟨pt, hpark⟩ := waitExpired_parks (s := s.withLine (turningAround s)) hm hp hh hgo
  have habandon : (s.withLine (turningAround s)).slotFrameAbandoned f =
      ((s.withLine (turningAround s)).withSlot .s (s.slot .s).stopResponse).park .s pt :=
    (if_pos (by exact haw)).trans hpark
  have hframes : ((s.withLine (turningAround s)).withSlot .s ((s.slot .s).stopResponse.park pt)).FramesOnly
      (((s.withLine (turningAround s)).withSlot .s (s.slot .s).stopResponse).park .s pt) := by
    have h := State.FramesOnly.park ((s.withLine (turningAround s)).withSlot .s (s.slot .s).stopResponse) .s pt
    rwa [State.slot_withSlot, State.withSlot_withSlot] at h
  have hwaits : (((s.withLine (turningAround s)).withSlot .s (s.slot .s).stopResponse).park .s pt).waitingFrames .s = [] :=
    hw
  have hecho : (((s.withLine (turningAround s)).withSlot .s (s.slot .s).stopResponse).park .s pt).line.echoMismatches =
      s.line.echoMismatches := rfl
  have htrig : (((s.withLine (turningAround s)).withSlot .s (s.slot .s).stopResponse).park .s pt).yieldTrigger .s =
      s.yieldTrigger .s := rfl
  have hturn : Turning (((s.withLine (turningAround s)).withSlot .s (s.slot .s).stopResponse).park .s pt).line :=
    ⟨rfl, rfl⟩
  have hworks : s.Works (((s.withLine (turningAround s)).withSlot .s (s.slot .s).stopResponse).park .s pt) :=
    (((State.Works.refl s).withLine _).withSlot .s _).park .s pt
  have hx := lineFrameAbandoned_eq ha.1 hf
  rw [habandon, State.Handed.handNext (.inl hwaits)] at hx
  generalize ((s.withLine (turningAround s)).withSlot .s (s.slot .s).stopResponse).park .s pt = y at *
  have hreact : Reacted s y := .of_frames (x := (s.slot .s).stopResponse.park pt) (.inr (.inl hp)) ⟨rfl, rfl, rfl⟩
    (fun hfree => absurd hfree (busy_of_going hgo)) (fun _ => nofun) hframes hworks hturn
  have hparked : (y.slot .s).state = .parked := by
    rw [State.slot_congr hframes.slots, State.slot_withSlot]
    rfl
  have hreached : y.yieldReached .s := ⟨(State.shareState_congr hframes.share .s).trans hp, .inr hparked⟩
  have hclosed : ¬ s.shareState .s = .opened := by
    rw [hp]
    exact nofun
  have hlink : y.link = s.link := hframes.link
  rw [State.yieldSettle_of_reached hreached] at hx
  cases ht : s.yieldTrigger .s
  · rw [State.enterYielded_passes (htrig.trans ht) hparked] at hx
    have hk := ((y.resumedState_frames .s).only).trans (.hand _ .s .askId none)
    refine ⟨_, hx, hreact.resumed (busy_of_going hgo), ?_, ?_⟩
    · rw [yieldNotices, if_neg hclosed, ht, if_neg Bool.false_ne_true, ← hlink]
      exact hk.link.trans (y.link_reopenedState .s)
    · refine (State.echo_handNext _ .s).trans ((congrArg Line.echoMismatches hreact.line_resumedState).trans hecho)
  · rw [State.enterYielded_of_trigger (htrig.trans ht)] at hx
    refine ⟨_, hx, hreact.yielded, ?_, ?_⟩
    · rw [yieldNotices, if_neg hclosed, if_pos ht, ← hlink]
      exact y.link_yieldedState .s
    · exact (congrArg Line.echoMismatches (State.YieldOnly.yieldedState y .s).line).trans hecho

end Going

/-! ### A request of slot S whose dialog ends -/

theorem turning_dropRequests (h : Turning v.line) (p : TxFrame → Bool) : Turning (v.dropRequests .s p).line := by
  unfold State.dropRequests
  dsimp only
  split
  · split
    · exact h
    · exact h
  · exact h

theorem turning_passOutcome (h : Turning v.line) (o : SweepOutcome) : Turning (v.passOutcome .s o).line := by
  rw [line_passOutcome]
  exact ⟨h.1, rfl⟩

/-- The end of a dialog leaves a turnaround under way (R44, R144). -/
theorem turning_endDialog (h : Turning v.line) (o : SweepOutcome) : Turning (v.endDialog .s o).line := by
  have hdrop := turning_dropRequests h TxFrame.isOwnErase
  unfold State.endDialog
  dsimp only
  refine turning_passOutcome (v := State.disown _ .s) ?_ o
  split
  · exact turning_hand hdrop .bye none
  · exact hdrop

/-- The expired wait that ends a dialog, from a slot whose context alone has moved (R14, R30, R39, R43). -/
theorem waitExpired_ending (hm : (s.slot .s).module = some i) (he : waitEnds s .s i e) :
    ∃ x, s.waitExpired .s = (s.withSlot .s x).endDialog .s e.outcome ∧ e = endOf s .s e.outcome
      ∧ x.module = (s.slot .s).module ∧ x.pagesRead = (s.slot .s).pagesRead ∧ x.refused = (s.slot .s).refused := by
  have hfrom := EndsFrom.refl hm .aborted
  have hstop : EndsFrom s .s i (endOf s .s .aborted) (s.withSlot .s (s.slot .s).stopResponse) :=
    hfrom.withContext rfl rfl rfl
  rcases he with ⟨hst, hh, rfl⟩ | ⟨hst, hh, hn, rfl⟩ | ⟨hst, hatt⟩ | ⟨hst, rfl⟩
  · refine ⟨(s.slot .s).stopResponse, ?_, rfl, rfl, rfl, rfl⟩
    rw [waitExpired_identifying hst]
    exact if_pos (hstop.halting.mpr hh)
  · refine ⟨(s.slot .s).stopResponse, ?_, rfl, rfl, rfl, rfl⟩
    rw [waitExpired_identifying hst, hfrom.identityExpired_last hh rfl hn]
    rfl
  · rcases hatt with ⟨hh, rfl⟩ | ⟨hh, ha, rfl⟩
    · refine ⟨(s.slot .s).stopResponse, ?_, rfl, rfl, rfl, rfl⟩
      rw [waitExpired_reading hst]
      exact if_pos (hstop.halting.mpr hh)
    · refine ⟨(s.slot .s).stopResponse, ?_, rfl, rfl, rfl, rfl⟩
      rw [waitExpired_reading hst, hfrom.failAttempt_last hh ha]
      rfl
  · refine ⟨s.slot .s, ?_, rfl, rfl, rfl, rfl⟩
    rw [waitExpired_erasing hst]
    exact congrArg (State.endDialog · .s .eraseDenied) (State.withSlot_same s .s).symm

/-- The dialog of slot S over, and line S in turnaround. -/
structure OverTurning (s : State) (i : ModuleIndex) (e : DialogEnd) (y : State) : Prop where
  ended : DialogOver s .s i e y
  history : y.history = s.history
  turning : Turning y.line
  echo : y.line.echoMismatches = s.line.echoMismatches
  handed : y.Handed .s

theorem overTurning_abandoned {f : TxFrame} (hm : (s.slot .s).module = some i) (hf : s.line.driving = some f)
    (hw : s.toHand.s = []) (he : waitEnds s .s i e) :
    OverTurning s i e ((s.withLine (turningAround s)).waitExpired .s) := by
  obtain ⟨x, hx, hend, hmod, hpages, hrefused⟩ := waitExpired_ending (s := s.withLine (turningAround s)) hm he
  have hfrom : EndsFrom s .s i e ((s.withLine (turningAround s)).withSlot .s x) := by
    rw [hend]
    exact (abandoned_endsFrom hm hf (s.setting .turnaroundBits) e.outcome).withContext hmod hpages hrefused
  rw [hx]
  exact {
    ended := hfrom.over ((((State.Works.refl s).withLine _).withSlot .s x).endDialog .s _)
    history := (congrArg State.history hfrom.endDialog_withSweep :).trans
      (outcomeRecorded_history ((s.withLine (turningAround s)).withSlot .s x) .s i e)
    turning := turning_endDialog ⟨rfl, rfl⟩ _
    echo := hfrom.echo_endDialog
    handed := hfrom.handed_endDialog hw }

/-- A yield of a line whose slot is FREE changes the line's state, its bus and the notices (R156, R157). -/
theorem yieldSettle_share (hf : (y.slot .s).state = .free)
    (ho : y.shareState .s = .opened ∨ y.shareState .s = .yieldPending) :
    (y.yieldSettle .s).shareOf .s = { y.shareOf .s with state := (y.yieldSettle .s).shareState .s }
      ∧ ((y.yieldSettle .s).shareState .s = .opened ∨ (y.yieldSettle .s).shareState .s = .yieldPending
        ∨ (y.yieldSettle .s).shareState .s = .yielded)
      ∧ ∀ d, d ≠ .s → (y.yieldSettle .s).shareOf d = y.shareOf d := by
  rcases ho with ho | ho
  · rw [State.yieldSettle_of_not_reached fun hr => absurd (ho.symm.trans hr.1) nofun]
    exact ⟨rfl, .inl ho, fun _ _ => rfl⟩
  · rw [State.yieldSettle_of_reached ⟨ho, .inl hf⟩]
    cases ht : y.yieldTrigger .s
    · have hslot : ((y.reopenedState .s).slot .s).state = .free :=
        (congrArg Slot.state (State.slot_congr (State.YieldOnly.reopenedState y .s).slots .s)).trans hf
      have hx : y.enterYielded .s = y.reopenedState .s := by
        rw [State.enterYielded_of_no_trigger ht]
        exact State.resumeSlot_of_not_parked (s := y.reopenedState .s) (by rw [hslot]; exact nofun)
      have hsh := y.shareOf_reopenedState .s
      have hst : (y.reopenedState .s).shareState .s = .opened := congrArg ShareChannel.state hsh
      rw [hx, hst]
      exact ⟨hsh, .inl rfl, fun d hd => y.shareOf_reopenedState_other hd⟩
    · rw [State.enterYielded_of_trigger ht, State.shareState_yieldedState]
      exact ⟨y.shareOf_yieldedState .s, .inr (.inr rfl), fun d hd => y.shareOf_yieldedState_other hd⟩

/-- A dialog that its abandoned request ended keeps that outcome through the silence (R50, R158, R159). -/
theorem endedSilence (hs : Settled s) (ha : awaitedRequest s) (hw : s.toHand.s = []) (hm : (s.slot .s).module = some i)
    (hn : 2 ≤ s.line.echoMismatches) (hset : s.setting .echoSilence = 1) (hatt : s.setting .autoAttention = 0)
    (ho : s.shareState .s = .opened ∨ s.shareState .s = .yieldPending) (he : waitEnds s .s i e)
    (hclear : (s.entry i).attention = false) (hl : i ∉ s.workList .s) :
    ∃ t, exec .lineFrameAbandoned s = .next t ∧ Faulted t.line ∧ t.slot .s = {}
      ∧ (t.entry i).lastOutcome = some e.outcome ∧ (t.entry i).lastSweep = s.sweep.number
      ∧ t.shareOf .s = { s.shareOf .s with state := .silenced, causes := { echoFault := true } }
      ∧ t.history = s.history ∧ OwnWork s t := by
  obtain ⟨f, hf, haw⟩ := awaits_of_awaitedRequest ha
  have hover := overTurning_abandoned hm hf hw he
  have hx := lineFrameAbandoned_eq ha.1 hf
  rw [show (s.withLine (turningAround s)).slotFrameAbandoned f = _ from if_pos (by exact haw),
    hover.handed.handNext] at hx
  generalize (s.withLine (turningAround s)).waitExpired .s = y at *
  have hover' := hover.ended
  have hyield := State.YieldOnly.yieldSettle hover'.free
  have hworks : s.Works (y.yieldSettle .s) := hover'.works.yieldSettle .s
  obtain ⟨hshare, hmay, hothers⟩ := yieldSettle_share hover'.free
    (by rwa [State.shareState_congr hover'.share])
  have hturn : Turning (y.yieldSettle .s).line := hyield.line ▸ hover.turning
  have hecho : (y.yieldSettle .s).line.echoMismatches = s.line.echoMismatches :=
    (congrArg Line.echoMismatches hyield.line).trans hover.echo
  have hslots : ∀ d, (y.yieldSettle .s).slot d = y.slot d := State.slot_congr hyield.slots
  have hentries : ∀ j, (y.yieldSettle .s).entry j = y.entry j := State.entry_congr hyield.table
  have hlist : (y.yieldSettle .s).workList .s = s.workList .s := by
    rw [State.workList_congr (congrArg Sweep.lists hyield.sweep), hover'.workList, overSweep_of_clear hclear]
    rfl
  have hhist : (y.yieldSettle .s).history = s.history := hyield.history.trans hover.history
  rw [countAbandoned_silences (hecho ▸ hn) ((setting_of_works hworks _).trans hset) hmay] at hx
  generalize y.yieldSettle .s = v at *
  have hquiet : ∀ d, d ≠ .s → ¬ (withEcho v 0).yieldReached d :=
    others_quiet hs (fun d hd => (hothers d hd).trans (State.shareOf_congr hover'.share d))
      (fun d hd => (hslots d).trans (hover'.others d hd))
  have hauto : v.setting .autoAttention = 0 := (setting_of_works hworks _).trans hatt
  have hsil := silent_enterSilence (withEcho v 0) .s .echoFault
  have hclosed := hsil.closed hquiet hauto
  have hfree : ((withEcho v 0).slot .s).state = .free := (congrArg Slot.state (hslots .s)).trans hover'.free
  have hunmarked : i ∉ (silenceAborts (withEcho v 0) .s).map Prod.fst := by
    have hslot : (withEcho v 0).slotAbort .s = [] := if_pos hfree
    rw [silenceAborts, hslot, List.nil_append]
    split
    · rw [State.listAbort, show (withEcho v 0).workList .s = _ from hlist]
      simpa using hl
    · exact nofun
  obtain ⟨r, hr⟩ := hover'.entry
  have hent : (echoSilenced v).entry i = _ :=
    (State.entry_congr hclosed.table i).trans ((hsil.entry i).trans ((if_neg hunmarked).trans ((hentries i).trans hr)))
  refine ⟨_, congrArg Host.Outcome.next hx, faulted_echoSilenced hturn hquiet hauto, ?_, ?_, ?_, ?_, ?_, ?_⟩
  · refine (State.slot_congr hclosed.slots .s).trans (hsil.slot.trans ((if_pos hfree).trans ?_))
    exact (hslots .s).trans hover'.slot
  · exact (congrArg Entry.lastOutcome hent :)
  · exact (congrArg Entry.lastSweep hent :)
  · refine (hclosed.shareOf .s).trans (hsil.share.trans ?_)
    show ({ v.shareOf .s with state := .silenced, causes := ({} : Causes).add .echoFault } : ShareChannel) = _
    rw [hshare, State.shareOf_congr hover'.share]
    rfl
  · exact hclosed.history.trans (hsil.history.trans hhist)
  · exact ownWork_of_works ((hworks.withLine _).enterSilence .s .echoFault).closeStep

theorem thirdMismatchOnARequestSilences : ThirdMismatchOnARequestSilences := by
  intro s i hs ha hw hn hm hecho hset hatt ho x yields faulted
  refine ⟨fun hh hgo => ?_, fun e he hclear hl => endedSilence hs ha hw hm hecho hset hatt ho he hclear hl⟩
  have hgoes : ∃ v, Goes s v := by
    rcases ho with ho | hp
    · exact goes_of_opened ha hw hn hm hh hgo ho
    · exact goes_of_yieldPending ha hw hm hh hgo hp
  obtain ⟨v, hv⟩ := hgoes
  have hreact := hv.reacted
  have hauto : v.setting .autoAttention = 0 := (setting_of_works hreact.works _).trans hatt
  have hx : s.lineFrameAbandoned = echoSilenced v := by
    rw [hv.abandoned, countAbandoned_silences (hv.echo ▸ hecho) ((setting_of_works hreact.works _).trans hset)
      hreact.mayEnter]
    rfl
  have hyields : yields = (yieldNotices s).map OutFrame.notice := by
    rw [yieldNotices, apply_ite (List.map OutFrame.notice), apply_ite (List.map OutFrame.notice)]
    rfl
  refine ⟨_, congrArg Host.Outcome.next hx, faulted_echoSilenced hreact.turning (hreact.quiet hs) hauto,
    hreact.silenced hs hatt, fun hl how hroom => ?_⟩
  rw [hyields, List.length_map] at hroom
  have hlink := hv.link
  rw [Link.foldl_notify_room _ (by omega)] at hlink
  have hheld : v.link.noticesHeld = s.link.noticesHeld + (yieldNotices s).length := by
    rw [hlink, Link.noticesHeld, List.filter_append, List.length_append, List.filter_map,
      List.filter_eq_self (p := OutFrame.isNotice ∘ OutFrame.notice).mpr (fun _ _ => rfl), List.length_map]
    rfl
  rw [hreact.outbound hs hm (busy_of_going hgo) hatt hl how (by omega), hyields]
  exact congrArg (· ++ _) (congrArg Link.outbound hlink :)

/-- Settles O46: line S reads its frames back, and the third mismatch in a row silences it after its slot has reacted. -/
theorem lineFramesAreReadBack : Obligations.LineFramesAreReadBack :=
  ⟨readBackFramesAreSentOrAbandoned, thirdMismatchOnAStayOrByeSilences, thirdMismatchOnARequestSilences⟩

end Sys2Proof.Claim
end

section
/-! TABLE_PUT and TABLE_REMOVE (R58, R59, R62, R63): the codes they carry, the entry a TABLE_PUT writes, what refuses each of
them, and what they leave. -/

namespace Sys2Proof.Claim

open Sys2Proof.Machine

variable {s t : State}

/-! ### The handler (R167) -/

/-- A request that a ready handler carries out by writing something else than the link, and then replies. -/
theorem takeRequest_answered (h : Ready s) (ht : t.link = s.link) {f : HostFrame} {carry : State → State} {k : Byte}
    {st : Status} {bs : List Byte}
    (hc : carry (s.withLink { s.link with inService := some f }) =
      (t.withLink { t.link with inService := some f }).reply k st bs) :
    s.takeRequest f carry = answered t (replyKind k) st bs := by
  have ⟨_, hservice, _⟩ := h
  have hnone : { t.link with inService := none } = t.link := by
    rw [← show t.link.inService = none from ht ▸ hservice]
  rw [exec_served h hc]
  exact congrArg (fun l : Link =>
    { t with link := { l with outbound := t.link.outbound ++ [OutFrame.reply (replyKind k) st bs] } }) hnone

/-! ### Codes of one byte (R174) -/

theorem byte_toNat (b : Byte) : byte b.toNat = b := by
  rw [byte, BitVec.ofNat_toNat, BitVec.setWidth_eq]

theorem moduleIndexOf_byte (i : ModuleIndex) : moduleIndexOf (byte i.val) = some i := moduleIndexOf_eq_some.mpr rfl

theorem moduleIndexOf_of_ge {b : Byte} (h : 47 < b.toNat) : moduleIndexOf b = none := dif_neg (by omega)

theorem channelOfCode_channelCode (c : Channel) : channelOfCode (channelCode c) = some c := by cases c <;> rfl

theorem eq_channelCode {b : Byte} {c : Channel} (h : channelOfCode b = some c) : b = channelCode c := by
  unfold channelOfCode at h
  split at h <;> cases h <;> exact BitVec.eq_of_toNat_eq ‹_›

theorem lineRate_ofCode_code (r : LineRate) : LineRate.ofCode r.code = some r := by cases r <;> rfl

theorem eq_lineRate_code {b : Byte} {r : LineRate} (h : LineRate.ofCode b = some r) : b = r.code := by
  unfold LineRate.ofCode at h
  split at h <;> cases h <;> exact BitVec.eq_of_toNat_eq ‹_›

theorem lineRate_code_le (r : LineRate) : r.code.toNat ≤ 3 := by cases r <;> decide

/-- Codes 0 to 3 name the line rates (R174). -/
theorem lineRate_ofCode_of_le {b : Byte} (h : b.toNat ≤ 3) : ∃ r, LineRate.ofCode b = some r := by
  have hb : b.toNat = 0 ∨ b.toNat = 1 ∨ b.toNat = 2 ∨ b.toNat = 3 := by omega
  rw [← Option.isSome_iff_exists, LineRate.ofCode]
  rcases hb with hb | hb | hb | hb <;> rw [hb] <;> rfl

theorem lineRate_ofCode_of_gt {b : Byte} (h : 3 < b.toNat) : LineRate.ofCode b = none := by
  rw [Option.eq_none_iff_forall_ne_some]
  intro r hr
  have := lineRate_code_le r
  rw [eq_lineRate_code hr] at h
  omega

/-! ### The entry of a TABLE_PUT (R58) -/

/-- The nine bytes of a TABLE_PUT that names an entry and a channel (R58). -/
abbrev putPayload (i : ModuleIndex) (c : Channel) (address flags boot wait retries rate slot : Byte) : List Byte :=
  [byte i, channelCode c, address, flags, boot, wait, retries, rate, slot]

/-- Whether R58 step 4 changes a value of a TABLE_PUT. -/
abbrev putAdjusts (wait retries : Byte) : Prop := wait = 0 ∨ 3 < retries.toNat

variable {i : ModuleIndex} {c : Channel} {address flags boot wait retries rate slot : Byte}

theorem lineFields_of_good (hrate : rate.toNat ≤ 3) {present : Bool} (hslot : present = true → slot.toNat ≤ 15) :
    ∃ r, LineRate.ofCode rate = some r
      ∧ lineFields rate slot present = some (r, if present = true then some slot.toNat else none) := by
  obtain ⟨r, hr⟩ := lineRate_ofCode_of_le hrate
  refine ⟨r, hr, ?_⟩
  cases present <;> simp [lineFields, hr, hslot]

theorem lineFields_of_bad {present : Bool} (h : 3 < rate.toNat ∨ present = true ∧ 15 < slot.toNat) :
    lineFields rate slot present = none := by
  unfold lineFields
  rcases h with h | ⟨rfl, h⟩
  · rw [lineRate_ofCode_of_gt h]
  · split
    · rfl
    · rw [if_pos rfl, if_neg (by omega)]

theorem parseTablePut_of_bad (h : putFormBad c address flags rate slot) :
    parseTablePut (putPayload i c address flags boot wait retries rate slot) = none := by
  simp only [parseTablePut, moduleIndexOf_byte, channelOfCode_channelCode]
  rcases h with hflags | ⟨hc, haddress⟩ | ⟨rfl, hline⟩
  · exact if_pos (by simpa [onlyLowBits] using hflags)
  · split
    · rfl
    · cases c
      case s => exact absurd rfl hc
      all_goals exact if_neg (by omega)
  · split
    · rfl
    · rcases hline with haddress | hfields
      · dsimp only
        split
        · rfl
        · exact if_neg (by omega)
      · have hnone : lineFields rate slot (bit flags 2) = none := lineFields_of_bad hfields
        dsimp only
        rw [hnone]

/-- A TABLE_PUT of good form names the entry that R58 and R59 write, and says whether step 4 changed a value. -/
theorem parseTablePut_of_good (h : ¬ putFormBad c address flags rate slot) :
    parseTablePut (putPayload i c address flags boot wait retries rate slot) =
      some (i, writtenEntry c address flags boot wait retries rate slot, decide (putAdjusts wait retries)) := by
  obtain ⟨hflags, hcan, hline⟩ : flags.toNat < 8 ∧ (c ≠ .s → address.toNat ≤ 31)
      ∧ (c = .s → address.toNat ≤ 15 ∧ rate.toNat ≤ 3 ∧ (flags.getLsbD 2 = true → slot.toNat ≤ 15)) := by
    simpa [putFormBad] using h
  have hlow : onlyLowBits 3 flags = true := by simpa [onlyLowBits] using hflags
  have hwait : adjustResponseWait wait.toNat = if wait = 0 then 15 else wait.toNat := by
    simp [adjustResponseWait, BitVec.toNat_eq]
  have hretries : adjustRetries retries.toNat = min 3 retries.toNat := by
    unfold adjustRetries
    split <;> omega
  have hadjusts : (wait.toNat == 0 || decide (3 < retries.toNat)) = decide (putAdjusts wait retries) := by
    simp [BitVec.toNat_eq, beq_eq_decide]
  simp only [parseTablePut, moduleIndexOf_byte, channelOfCode_channelCode, hlow, hwait, hretries, hadjusts]
  cases c
  case s =>
    obtain ⟨haddress, hrate, hslot⟩ := hline rfl
    obtain ⟨r, hr, hfields⟩ := lineFields_of_good (present := bit flags 2) hrate hslot
    dsimp only
    rw [hfields]
    simp [bit, hr, haddress, writtenEntry]
  all_goals
    have haddress := hcan (by decide)
    simp [bit, haddress, writtenEntry]

/-! ### What refuses a TABLE_PUT or a TABLE_REMOVE (R57, R58) -/

theorem mem_allChannels (c : Channel) : c ∈ allChannels := by cases c <;> decide

theorem clashes_iff {e : Entry} : s.clashes i e = true ↔ putClashes s i e := by
  simp only [State.clashes, putClashes, List.any_eq_true, allModules, List.mem_finRange, true_and]
  refine exists_congr fun j => ?_
  simp only [Entry.clashes, Bool.and_eq_true, Bool.or_eq_true, decide_eq_true_eq, beq_iff_eq, Option.isSome_iff_ne_none,
    and_assoc, eq_comm (a := e.channel) (b := (s.entry j).channel), eq_comm (a := e.address),
    eq_comm (a := e.attentionSlot)]

theorem engaged_iff : s.engaged i = true ↔ isEngaged s i := by
  simp only [State.engaged, State.inSlot, State.listed, isEngaged, Bool.or_eq_true, List.any_eq_true, mem_allChannels,
    true_and, ← exists_or, Bool.and_eq_true, decide_eq_true_eq, beq_iff_eq, List.contains_iff_mem]

/-! ### TABLE_PUT (R58, R59) -/

/-- Settles O7: a TABLE_PUT is refused at the first of its three checks that fails, and writes its entry past them. -/
theorem tablePutChecksAndWrites : Obligations.TablePutChecksAndWrites := by
  intro s i c address flags boot wait retries rate slot h r e
  have hparse := parseTablePut_of_good (i := i) (c := c) (address := address) (flags := flags) (boot := boot)
    (wait := wait) (retries := retries) (rate := rate) (slot := slot)
  have hbadForm : State.handleTablePut (putPayload i c address flags boot wait retries rate slot)
      (s.withLink { s.link with inService := some ⟨0x03, _⟩ }) = State.reply _ 0x03 .badForm →
      r = .next (answered s 0x83 .badForm) := fun hx => congrArg _ (takeRequest_reply h _ _ 0x03 .badForm [] hx)
  have hclash : ∀ l, (s.withLink l).clashes i e = true ↔ putClashes s i e := fun _ => clashes_iff
  have hengaged : ∀ l, (s.withLink l).engaged i = true ↔ isEngaged s i := fun _ => engaged_iff
  refine ⟨fun hbad => hbadForm ?_, fun hgood hfree hbusy => congrArg _ (takeRequest_reply h _ _ 0x03 .busy [] ?_),
    fun hgood hfree hidle => congrArg _ (takeRequest_answered (t := s.rewriteEntry i e) (k := 0x03) h rfl ?_)⟩
  · unfold State.handleTablePut
    by_cases hform : putFormBad c address flags rate slot
    · rw [parseTablePut_of_bad hform]
    · rw [hparse hform]
      exact if_pos ((hclash _).mpr (hbad.resolve_left hform))
  · unfold State.handleTablePut
    rw [hparse hgood]
    exact (if_neg (mt (hclash _).mp hfree)).trans (if_pos ((hengaged _).mpr hbusy))
  · unfold State.handleTablePut
    rw [hparse hgood]
    refine (if_neg (mt (hclash _).mp hfree)).trans ((if_neg (mt (hengaged _).mp hidle)).trans ?_)
    simp only [decide_eq_true_eq]
    rfl

/-! ### TABLE_REMOVE (R62, R63) -/

/-- The state with an entry's records removed where the host asks for it, and the entry cleared (R63). -/
def entryRemoved (s : State) (i : ModuleIndex) (withHistory : Bool) : State :=
  { s with
    table := s.table.set i {}, sweep := marksCleared s.sweep i,
    history :=
      if withHistory then
        { s.history with
          records := s.history.records.filter (fun x => x.module != i),
          poolUsed := s.history.poolUsed - snapshotBytes (s.history.records.filter (fun x => x.module == i)) }
      else s.history }

/-- A removal replies with the number of the records it removed: those that the entry had, as without the flag it is carried
out only where it has none (R62, R63). -/
theorem removeEntry_eq {withHistory : Bool} (h : withHistory = true ∨ s.history.countOf i = 0) :
    s.removeEntry i withHistory = (entryRemoved s i withHistory).reply 0x05 .done (num16 (s.history.countOf i)) := by
  cases withHistory
  · rw [h.resolve_left Bool.false_ne_true]
    rfl
  · rfl

theorem bit_flagByte (b : Bool) : bit (flagByte b) 0 = b := by cases b <;> rfl

theorem onlyLowBits_flagByte (b : Bool) : onlyLowBits 1 (flagByte b) = true := by cases b <;> rfl

/-- TABLE_REMOVE of an entry, check by check (R62). -/
theorem handleTableRemove_eq (s : State) (i : ModuleIndex) (withHistory : Bool) :
    s.handleTableRemove [byte i, flagByte withHistory] =
      if (s.entry i).inUse = false then s.reply 0x05 .absent
      else if s.engaged i = true ∨ withHistory = false ∧ s.history.countOf i ≠ 0 then s.reply 0x05 .busy
      else s.removeEntry i withHistory := by
  simp only [State.handleTableRemove, moduleIndexOf_byte, onlyLowBits_flagByte, bit_flagByte]
  cases (s.entry i).inUse
  · rfl
  · by_cases hbusy : s.engaged i = true
    · simp [hbusy]
    · cases withHistory <;> simp [hbusy]

theorem tableRemoveForm : TableRemoveForm := by
  intro s index flags h hbad
  refine congrArg _ (takeRequest_reply h _ _ 0x05 .badForm [] ?_)
  unfold State.handleTableRemove
  dsimp only
  rcases hbad with hindex | hflags
  · rw [moduleIndexOf_of_ge hindex]
  · split
    · rfl
    · exact if_pos (by simpa [onlyLowBits, Nat.lt_iff_add_one_le] using hflags)

theorem tableRemoveOfAnEntry : TableRemoveOfAnEntry := by
  intro s i withHistory h r held
  have hengaged : ∀ l, (s.withLink l).engaged i = true ↔ isEngaged s i := fun _ => engaged_iff
  refine ⟨fun hfree => congrArg _ (takeRequest_reply h _ _ 0x05 .absent [] ?_),
    fun huse hbusy => congrArg _ (takeRequest_reply h _ _ 0x05 .busy [] ?_),
    fun huse hidle hrecords => congrArg _ (takeRequest_answered (t := entryRemoved s i withHistory) (k := 0x05) h rfl ?_)⟩
  all_goals rw [handleTableRemove_eq]
  · exact if_pos hfree
  · exact (if_neg (ne_false_of_eq_true huse)).trans (if_pos (hbusy.imp_left (hengaged _).mpr))
  · have hno : ¬ (isEngaged s i ∨ withHistory = false ∧ held ≠ 0) := by
      rintro (hx | ⟨hflag, hheld⟩)
      · exact hidle hx
      · exact hheld (hrecords.resolve_left (by simp [hflag]))
    exact (if_neg (ne_false_of_eq_true huse)).trans
      ((if_neg (mt (Or.imp_left (hengaged _).mp) hno)).trans (removeEntry_eq hrecords))

/-- Settles O8: TABLE_REMOVE is refused at the first check that fails, and otherwise removes the entry. -/
theorem tableRemoveChecksAndRemoves : Obligations.TableRemoveChecksAndRemoves := ⟨tableRemoveForm, tableRemoveOfAnEntry⟩

end Sys2Proof.Claim
end

section
/-! What the part replies for an entry and for a profile, sent back to it (R58, R61, R69, R71, R174): the same entry and the
same profile. -/

namespace Sys2Proof.Claim

open Sys2Proof.Machine

/-! ### Bytes and numbers (R174) -/

theorem toNat_byte {n : Nat} (h : n < 256) : (byte n).toNat = n := by
  rw [byte, BitVec.toNat_ofNat, Nat.mod_eq_of_lt h]

theorem toNat_beWord16 (hi lo : Byte) : (beWord16 hi lo).toNat = hi.toNat * 256 + lo.toNat := by
  rw [beWord16, BitVec.toNat_append, ← Nat.shiftLeft_add_eq_or_of_lt lo.isLt, Nat.shiftLeft_eq]

theorem toNat_highByte (w : Word16) : (w.extractLsb' 8 8).toNat = w.toNat / 256 := by
  have := w.isLt
  rw [BitVec.extractLsb'_toNat, Nat.shiftRight_eq_div_pow]
  omega

theorem toNat_lowByte (w : Word16) : (w.extractLsb' 0 8).toNat = w.toNat % 256 := BitVec.extractLsb'_toNat 0 8 w

theorem beWord16_bytes (w : Word16) : beWord16 (w.extractLsb' 8 8) (w.extractLsb' 0 8) = w := by
  refine BitVec.eq_of_toNat_eq ?_
  rw [toNat_beWord16, toNat_highByte, toNat_lowByte]
  omega

theorem bytes16_beWord16 (hi lo : Byte) : bytes16 (beWord16 hi lo) = [hi, lo] := by
  have := lo.isLt
  have hhi : (beWord16 hi lo).extractLsb' 8 8 = hi := by
    refine BitVec.eq_of_toNat_eq ?_
    rw [toNat_highByte, toNat_beWord16]
    omega
  have hlo : (beWord16 hi lo).extractLsb' 0 8 = lo := by
    refine BitVec.eq_of_toNat_eq ?_
    rw [toNat_lowByte, toNat_beWord16]
    omega
  rw [bytes16, hhi, hlo]

theorem num16_beWord16 (hi lo : Byte) : num16 (beWord16 hi lo).toNat = [hi, lo] := by
  rw [num16, BitVec.ofNat_toNat, BitVec.setWidth_eq, bytes16_beWord16]

/-! ### A TABLE_PUT read back (R58, R61) -/

/-- A TABLE_PUT that parses names an entry and a channel, is of good form, and gives the entry that R58 and R59 write. -/
theorem eq_of_parseTablePut {payload : List Byte} {i : ModuleIndex} {e : Entry} {adjusted : Bool}
    (h : parseTablePut payload = some (i, e, adjusted)) :
    ∃ c address flags boot wait retries rate slot, ¬ putFormBad c address flags rate slot
      ∧ e = writtenEntry c address flags boot wait retries rate slot := by
  have hshape := h
  unfold parseTablePut at hshape
  split at hshape
  · split at hshape
    · next hi hc =>
      rw [moduleIndexOf_eq_some.mp hi, eq_channelCode hc] at h
      have hgood := fun hbad => (Option.some_ne_none _) (h.symm.trans (parseTablePut_of_bad hbad))
      rw [parseTablePut_of_good hgood] at h
      cases h
      exact ⟨_, _, _, _, _, _, _, _, hgood, rfl⟩
    · cases hshape
  · cases hshape

theorem flagsByte_three (x y z : Bool) :
    (flagsByte [x, y, z]).toNat < 8 ∧ (flagsByte [x, y, z]).getLsbD 0 = x ∧ (flagsByte [x, y, z]).getLsbD 1 = y
      ∧ (flagsByte [x, y, z]).getLsbD 2 = z := by
  cases x <;> cases y <;> cases z <;> decide

/-- The line rate of an entry in one byte; 0xFF means none (R174). -/
def lineRateByte (e : Entry) : Byte := match e.lineRate with | some r => r.code | none => 0xFF

/-- The flag byte of an entry (R169). -/
def entryFlags (e : Entry) : Byte := flagsByte [e.sleepy, e.bootStep == .coarse, e.attentionSlot.isSome]

variable {c : Channel} {address flags boot wait retries rate slot : Byte}

/-- The bytes of a written entry are those of a TABLE_PUT with its adjusted values (R61). -/
theorem configuredBytes_writtenEntry (j : ModuleIndex) :
    let e := writtenEntry c address flags boot wait retries rate slot
    configuredBytes j e = putPayload j c address (entryFlags e) boot (byte e.responseWait) (byte e.retries)
      (lineRateByte e) (optionalByte e.attentionSlot) := by
  intro e
  have haddress : byte e.address = address := byte_toNat address
  have hboot : byte e.bootWait = boot := byte_toNat boot
  unfold configuredBytes
  rw [haddress, hboot]
  rfl

theorem toNat_adjustedWait (wait : Byte) :
    (byte (if wait = 0 then 15 else wait.toNat)).toNat = if wait = 0 then 15 else wait.toNat := by
  have := wait.isLt
  exact toNat_byte (by split <;> omega)

theorem adjustedWait_ne_zero (wait : Byte) : byte (if wait = 0 then 15 else wait.toNat) ≠ 0 := by
  split
  · decide
  · rwa [byte_toNat]

theorem toNat_adjustedRetries (retries : Byte) : (byte (min 3 retries.toNat)).toNat = min 3 retries.toNat :=
  toNat_byte (by omega)

/-- The line rate and the attention slot of a written entry, read back from its bytes: on line S those of the TABLE_PUT,
elsewhere none (R58, R174). -/
theorem lineBytes_writtenEntry (h : ¬ putFormBad c address flags rate slot) :
    let e := writtenEntry c address flags boot wait retries rate slot
    (c = .s → lineRateByte e = rate) ∧ (e.attentionSlot.isSome = true → optionalByte e.attentionSlot = slot) := by
  refine ⟨fun hc => ?_, fun hsome => ?_⟩
  · obtain ⟨r, hr⟩ := lineRate_ofCode_of_le (b := rate) (by
      by_contra hrate
      exact h (.inr (.inr ⟨hc, .inr (.inl (by omega))⟩)))
    simp only [lineRateByte, writtenEntry, if_pos hc, hr]
    exact (eq_lineRate_code hr).symm
  · simp only [writtenEntry] at hsome ⊢
    split at hsome
    · rw [if_pos ‹_›]
      exact byte_toNat slot
    · cases hsome

theorem attentionSlot_isSome : (writtenEntry c address flags boot wait retries rate slot).attentionSlot.isSome = true ↔
    c = .s ∧ flags.getLsbD 2 = true := by
  simp only [writtenEntry]
  split <;> simp_all

/-- The bytes of a written entry are of good form (R58). -/
theorem not_putFormBad_again (h : ¬ putFormBad c address flags rate slot) :
    let e := writtenEntry c address flags boot wait retries rate slot
    ¬ putFormBad c address (entryFlags e) (lineRateByte e) (optionalByte e.attentionSlot) := by
  intro e
  obtain ⟨hrate, hslot⟩ := lineBytes_writtenEntry (boot := boot) (wait := wait) (retries := retries) h
  obtain ⟨hlow, -, -, hpresent⟩ := flagsByte_three e.sleepy (e.bootStep == .coarse) e.attentionSlot.isSome
  rintro (hflags | hcan | ⟨hc, haddress | hbad | ⟨hflag, hbad⟩⟩)
  · exact absurd hlow (Nat.not_lt.mpr hflags)
  · exact h (.inr (.inl hcan))
  · exact h (.inr (.inr ⟨hc, .inl haddress⟩))
  · exact h (.inr (.inr ⟨hc, .inr (.inl (hrate hc ▸ hbad))⟩))
  · have hattends : e.attentionSlot.isSome = true := hpresent ▸ hflag
    exact h (.inr (.inr ⟨hc, .inr (.inr ⟨(attentionSlot_isSome.mp hattends).2, hslot hattends ▸ hbad⟩)⟩))

/-- The bytes of a written entry, put again, write the same entry (R58). -/
theorem writtenEntry_again (h : ¬ putFormBad c address flags rate slot) :
    let e := writtenEntry c address flags boot wait retries rate slot
    writtenEntry c address (entryFlags e) boot (byte e.responseWait) (byte e.retries) (lineRateByte e)
      (optionalByte e.attentionSlot) = e := by
  intro e
  obtain ⟨hrate, hslot⟩ := lineBytes_writtenEntry (boot := boot) (wait := wait) (retries := retries) h
  obtain ⟨-, hsleepy, hstep, hpresent⟩ := flagsByte_three e.sleepy (e.bootStep == .coarse) e.attentionSlot.isSome
  have hbootStep : (if (entryFlags e).getLsbD 1 = true then BootStep.coarse else .fine) = e.bootStep := by
    rw [entryFlags, hstep]
    cases e.bootStep <;> rfl
  have hwait : (if byte e.responseWait = 0 then 15 else (byte e.responseWait).toNat) = e.responseWait :=
    (if_neg (adjustedWait_ne_zero wait)).trans (toNat_adjustedWait wait)
  have hretries : min 3 (byte e.retries).toNat = e.retries :=
    (congrArg (min 3) (toNat_adjustedRetries retries)).trans (min_eq_right (min_le_left 3 retries.toNat))
  have hlineRate : (if c = .s then LineRate.ofCode (lineRateByte e) else none) = e.lineRate :=
    if_ctx_congr Iff.rfl (fun hc => congrArg LineRate.ofCode (hrate hc)) (fun _ => rfl)
  have hattends : c = .s ∧ e.attentionSlot.isSome = true ↔ c = .s ∧ flags.getLsbD 2 = true := by
    rw [attentionSlot_isSome, and_self_left]
  have hattention : (if c = .s ∧ (entryFlags e).getLsbD 2 = true then some (optionalByte e.attentionSlot).toNat
      else none) = e.attentionSlot := by
    rw [entryFlags, hpresent]
    exact if_ctx_congr hattends (fun hx => by rw [hslot (attentionSlot_isSome.mpr hx)]) (fun _ => rfl)
  rw [writtenEntry, hbootStep, hwait, hretries, hlineRate, hattention, entryFlags, hsleepy]
  rfl

/-- A written entry put again leaves nothing to adjust (R58). -/
theorem not_putAdjusts_again :
    let e := writtenEntry c address flags boot wait retries rate slot
    ¬ putAdjusts (byte e.responseWait) (byte e.retries) := by
  rintro e (hwait | hretries)
  · exact adjustedWait_ne_zero wait hwait
  · exact absurd ((toNat_adjustedRetries retries).trans_le (min_le_left _ _)) (Nat.not_le.mpr hretries)

theorem configuredBytesReadBack : ConfiguredBytesReadBack := by
  intro payload i j e adjusted h
  obtain ⟨c, address, flags, boot, wait, retries, rate, slot, hgood, rfl⟩ := eq_of_parseTablePut h
  rw [configuredBytes_writtenEntry, parseTablePut_of_good (not_putFormBad_again hgood), writtenEntry_again hgood,
    decide_eq_false not_putAdjusts_again]

/-! ### A PROFILE_LOAD read part by part (R69) -/

theorem stampClass_ofCode_code (x : StampClass) : StampClass.ofCode x.code = some x := by cases x <;> rfl

theorem byteOrder_ofCode_code (x : ByteOrder) : ByteOrder.ofCode x.code = some x := by cases x <;> rfl

/-- Three bytes read as the status field of a profile with records of this length (R69). -/
def StatusRead (length : Nat) (bytes : List Byte) (x : Option StatusField) : Prop :=
  ∃ so sm ss, bytes = [so, sm, ss] ∧ (so = 0xFF ∨ (insideRecord length so.toNat 1 ∧ sm ≠ 0 ∧ ss.toNat ≤ 6))
    ∧ x = if so = 0xFF then none else some ⟨so.toNat, sm, ss.toNat⟩

/-- Two bytes read as an optional field of at most `max` bytes, absent at width 0 (R69). -/
def FieldRead (max length : Nat) (bytes : List Byte) (x : Option Field) : Prop :=
  ∃ o w, bytes = [o, w] ∧ w.toNat ≤ max ∧ (w.toNat = 0 ∨ insideRecord length o.toNat w.toNat)
    ∧ x = if w.toNat = 0 then none else some ⟨o.toNat, w.toNat⟩

/-- Six bytes read as the stamp fields of a profile of a stamp class, absent at class NONE (R69). -/
def StampsRead (length : Nat) (cls : StampClass) (bytes : List Byte) (x : Option StampFields) : Prop :=
  ∃ sw fo lo n1 n0 dn, bytes = [sw, fo, lo, n1, n0, dn]
    ∧ (if cls = .none then some none else (parseStamps length sw fo lo n1 n0 dn).map some) = some x

/-- A profile as PROFILE_LOAD accepts it, with the bytes of its optional parts and its erase byte (R69). -/
structure LoadRead (p : Profile) (status count stamps snapshot : List Byte) (erase : Byte) : Prop where
  tag : tagOk p.tag = true
  length : 3 ≤ p.recordLength ∧ p.recordLength ≤ 32
  code : (p.code.width = 2 ∨ p.code.width = 3) ∧ insideRecord p.recordLength p.code.offset p.code.width = true
  status : StatusRead p.recordLength status p.status
  count : FieldRead 2 p.recordLength count p.count
  stamps : StampsRead p.recordLength p.stampClass stamps p.stamps
  snapshot : FieldRead 16 p.recordLength snapshot p.snapshot
  erase : p.eraseAllowed = decide (erase ≠ 0)

/-- The bytes of a PROFILE_LOAD after its slot, given those of the optional parts and the erase byte (R69). -/
def loadBytes (p : Profile) (status count stamps snapshot : List Byte) (erase : Byte) : List Byte :=
  bytes16 p.tag ++ [byte p.recordLength, byte p.code.offset, byte p.code.width] ++ status ++ count
    ++ p.stampClass.code :: stamps ++ snapshot ++ [erase, p.byteOrder.code]

theorem loadRead_of_parse {payload : List Byte} {n : Fin 12} {p : Profile} (h : parseProfileLoad payload = some (n, p)) :
    ∃ status count stamps snapshot erase, LoadRead p status count stamps snapshot erase := by
  unfold parseProfileLoad at h
  split at h
  case h_2 => cases h
  next slot t1 t0 rl co cw so sm ss no nw sc sw fo lo n1 n0 dn po pl er bo =>
  dsimp only at h
  split at h
  case h_2 => cases h
  next cls order hcls horder =>
  split at h
  case isFalse => cases h
  split at h
  case h_1 => cases h
  next st hst =>
  split at h
  case isFalse => cases h
  next hall =>
  obtain ⟨htag, h3, h32, hcw, hcode, hstatus, hnw, hcount, hpl, hsnap⟩ := hall
  cases h
  exact ⟨_, _, _, _, er, htag, ⟨h3, h32⟩, ⟨hcw, hcode⟩, ⟨so, sm, ss, rfl, hstatus, rfl⟩, ⟨no, nw, rfl, hnw, hcount, rfl⟩,
    ⟨sw, fo, lo, n1, n0, dn, rfl, hst⟩, ⟨po, pl, rfl, hpl, hsnap, rfl⟩, rfl⟩

theorem parse_loadBytes {p : Profile} {status count stamps snapshot : List Byte} {erase : Byte}
    (h : LoadRead p status count stamps snapshot erase) (m : Fin 12) :
    parseProfileLoad (byte m.val :: loadBytes p status count stamps snapshot erase) = some (m, p) := by
  obtain ⟨htag, ⟨h3, h32⟩, ⟨hwidth, hcode⟩, ⟨so, sm, ss, rfl, hstatus, hstatusEq⟩, ⟨no, nw, rfl, hnw, hcount, hcountEq⟩,
    ⟨sw, fo, lo, n1, n0, dn, rfl, hst⟩, ⟨po, pl, rfl, hpl, hsnap, hsnapEq⟩, herase⟩ := h
  have hslot : (byte m.val).toNat = m.val := toNat_byte (by omega)
  have hlength : (byte p.recordLength).toNat = p.recordLength := toNat_byte (by omega)
  have hinside : p.code.offset + p.code.width ≤ p.recordLength := by simpa [insideRecord] using hcode
  have hoffset : (byte p.code.offset).toNat = p.code.offset := toNat_byte (by omega)
  have hcw : (byte p.code.width).toNat = p.code.width := toNat_byte (by omega)
  simp only [loadBytes, bytes16, List.cons_append, List.nil_append, parseProfileLoad, stampClass_ofCode_code,
    byteOrder_ofCode_code, beWord16_bytes, hslot, hlength, hoffset, hcw, hst]
  rw [dif_pos m.isLt, if_pos ⟨htag, h3, h32, hwidth, hcode, hstatus, hnw, hcount, hpl, hsnap⟩, ← hstatusEq, ← hcountEq,
    ← hsnapEq, ← herase]

/-! ### The parts as PROFILE_GET replies them (R71) -/

/-- The three bytes of a status field (R71). -/
def statusBytes : Option StatusField → List Byte
  | some f => [byte f.offset, f.mask, byte f.shift]
  | none => [0xFF, 0, 0xFF]

/-- The two bytes of an optional field (R71). -/
def fieldBytes : Option Field → List Byte
  | some f => [byte f.offset, byte f.width]
  | none => [0xFF, 0]

/-- The six bytes of the stamp fields (R71). -/
def stampsBytes : Option StampFields → List Byte
  | some f => [byte f.width, optionalByte f.first, optionalByte f.last] ++ num16 f.numerator ++ [byte f.denominator]
  | none => [0, 0xFF, 0xFF, 0, 0, 0]

theorem profileBytes_eq (p : Profile) : profileBytes p = loadBytes p (statusBytes p.status) (fieldBytes p.count)
    (stampsBytes p.stamps) (fieldBytes p.snapshot) (flagByte p.eraseAllowed) := by
  unfold profileBytes loadBytes
  cases p.stamps <;> simp only [stampsBytes, List.append_assoc] <;> rfl

theorem StatusRead.again {length : Nat} {bytes : List Byte} {x : Option StatusField} (h : StatusRead length bytes x) :
    StatusRead length (statusBytes x) x := by
  obtain ⟨so, sm, ss, rfl, hgood, rfl⟩ := h
  by_cases hso : so = 0xFF
  · rw [if_pos hso]
    exact ⟨0xFF, 0, 0xFF, rfl, .inl rfl, rfl⟩
  · rw [if_neg hso]
    refine ⟨so, sm, ss, ?_, hgood, (if_neg hso).symm⟩
    simp only [statusBytes, byte_toNat]

theorem FieldRead.again {max length : Nat} {bytes : List Byte} {x : Option Field} (h : FieldRead max length bytes x) :
    FieldRead max length (fieldBytes x) x := by
  obtain ⟨o, w, rfl, hmax, hgood, rfl⟩ := h
  by_cases hw : w.toNat = 0
  · rw [if_pos hw]
    exact ⟨0xFF, 0, rfl, Nat.zero_le _, .inl rfl, rfl⟩
  · rw [if_neg hw]
    refine ⟨o, w, ?_, hmax, hgood, (if_neg hw).symm⟩
    simp only [fieldBytes, byte_toNat]

theorem optionalByte_offsetField (b : Byte) : optionalByte (offsetField b) = b := by
  unfold offsetField
  split
  · next h => exact h.symm
  · exact byte_toNat b

theorem stampsBytes_parseStamps {length : Nat} {sw fo lo n1 n0 dn : Byte} {st : StampFields}
    (h : parseStamps length sw fo lo n1 n0 dn = some st) : stampsBytes (some st) = [sw, fo, lo, n1, n0, dn] := by
  unfold parseStamps at h
  dsimp only at h
  split at h
  · cases h
    simp only [stampsBytes, optionalByte_offsetField, num16_beWord16, byte_toNat, List.cons_append, List.nil_append]
  · cases h

theorem StampsRead.again {length : Nat} {cls : StampClass} {bytes : List Byte} {x : Option StampFields}
    (h : StampsRead length cls bytes x) : StampsRead length cls (stampsBytes x) x := by
  obtain ⟨sw, fo, lo, n1, n0, dn, rfl, hx⟩ := h
  by_cases hcls : cls = .none
  · rw [if_pos hcls] at hx
    cases hx
    exact ⟨0, 0xFF, 0xFF, 0, 0, 0, rfl, if_pos hcls⟩
  · rw [if_neg hcls] at hx
    obtain ⟨st, hst, rfl⟩ := Option.map_eq_some_iff.mp hx
    rw [stampsBytes_parseStamps hst]
    exact ⟨sw, fo, lo, n1, n0, dn, rfl, (if_neg hcls).trans hx⟩

theorem flagByte_ne_zero (b : Bool) : decide (flagByte b ≠ 0) = b := by cases b <;> rfl

theorem profileBytesReadBack : ProfileBytesReadBack := by
  intro payload n m p h
  obtain ⟨_, _, _, _, _, hread⟩ := loadRead_of_parse h
  rw [profileBytes_eq]
  exact parse_loadBytes { hread with
    status := hread.status.again, count := hread.count.again, stamps := hread.stamps.again,
    snapshot := hread.snapshot.again, erase := (flagByte_ne_zero p.eraseAllowed).symm } m

/-- Settles O9: each part of either layout reads back from the bytes that carry it. -/
theorem configuredAndProfileBytesReadBack : Obligations.ConfiguredAndProfileBytesReadBack :=
  ⟨profileBytesReadBack, configuredBytesReadBack⟩

end Sys2Proof.Claim
end

section
/-! TABLE_GET, PROFILE_GET, BINDINGS_GET and SETTINGS_GET (R61, R71, R78, R171): what each replies. -/

namespace Sys2Proof.Claim

open Sys2Proof.Machine

variable {s : State}

/-! ### TABLE_GET (R61) -/

theorem byte_index_ne_none (i : ModuleIndex) : byte i.val ≠ 0xFF := by
  have := i.isLt
  intro h
  have hval : i.val = 0xFF := (toNat_byte_index i).symm.trans (congrArg BitVec.toNat h)
  omega

/-- TABLE_GET of one entry (R61). -/
theorem handleTableGet_entry (s : State) (i : ModuleIndex) :
    s.handleTableGet [byte i] =
      if (s.entry i).inUse then s.reply 0x04 .done (s.entryReply i) else s.reply 0x04 .absent := by
  unfold State.handleTableGet
  dsimp only
  rw [if_neg (byte_index_ne_none i), moduleIndexOf_byte]

theorem tableGetReadsTheTable : TableGetReadsTheTable := by
  intro s h
  refine ⟨fun i huse => congrArg _ (takeRequest_reply h _ _ 0x04 .done _ ?_),
    fun i hfree => congrArg _ (takeRequest_reply h _ _ 0x04 .absent _ ?_),
    congrArg _ (takeRequest_reply h _ _ 0x04 .done _ ?_),
    fun b hindex hmap => congrArg _ (takeRequest_reply h _ _ 0x04 .badForm _ ?_)⟩
  · rw [handleTableGet_entry]
    exact if_pos huse
  · rw [handleTableGet_entry]
    exact if_neg (Bool.eq_false_iff.mp hfree)
  · rfl
  · unfold State.handleTableGet
    dsimp only
    rw [if_neg hmap, moduleIndexOf_of_ge hindex]

/-! ### PROFILE_GET (R71) -/

theorem profileRef_ofCode_code (ref : ProfileRef) : ProfileRef.ofCode ref.code = some ref := by
  cases ref with
  | rom n =>
    have hn : (byte n.val).toNat = n.val := toNat_byte (by omega)
    simp only [ProfileRef.ofCode, ProfileRef.code, hn, n.isLt, dif_pos, Fin.eta]
  | loaded n =>
    have hn : (byte (16 + n.val)).toNat = 16 + n.val := toNat_byte (by omega)
    have hrom : ¬ 16 + n.val < 12 := by omega
    have hloaded : 16 ≤ 16 + n.val ∧ 16 + n.val < 28 := by omega
    simp only [ProfileRef.ofCode, ProfileRef.code, hn, hrom, hloaded, dif_neg, dif_pos, not_false_eq_true, and_self,
      Nat.add_sub_cancel_left, Fin.eta]

theorem profileRef_ofCode_of_none {b : Byte} (hrom : 12 ≤ b.toNat) (hloaded : ¬ (16 ≤ b.toNat ∧ b.toNat < 28)) :
    ProfileRef.ofCode b = none := by
  rw [ProfileRef.ofCode, dif_neg (Nat.not_lt.mpr hrom), dif_neg hloaded]

/-- PROFILE_GET of a profile that is there (R71). -/
theorem handleProfileGet_of_some {ref : ProfileRef} {p : Profile} (hp : s.store.profile ref = some p) :
    s.handleProfileGet [ref.code] =
      s.reply 0x07 .done
        (profileBytes p ++ [byte (s.store.bindingsTo ref), byte (s.resolvedEntries ref), s.usersByte ref]) := by
  unfold State.handleProfileGet
  dsimp only
  rw [profileRef_ofCode_code]
  dsimp only
  rw [hp]

/-- PROFILE_GET of an empty loaded slot (R71). -/
theorem handleProfileGet_of_none {ref : ProfileRef} (hp : s.store.profile ref = none) :
    s.handleProfileGet [ref.code] = s.reply 0x07 .absent := by
  unfold State.handleProfileGet
  dsimp only
  rw [profileRef_ofCode_code]
  dsimp only
  rw [hp]

/-- The slots that use a profile, as the statements say it (R71, R73). -/
theorem usersByte_eq (s : State) (ref : ProfileRef) :
    s.usersByte ref =
      flagsByte (allChannels.map (fun c => (s.slot c).state != .free && (s.slot c).profile == some ref)) := by
  have huses : ∀ c, s.slotUses c ref = ((s.slot c).state != .free && (s.slot c).profile == some ref) := fun c => by
    rw [State.slotUses, bne, beq_eq_decide (s.slot c).state, decide_not]
  unfold State.usersByte
  simp only [huses]

theorem profileGetReads : ProfileGetReads := by
  intro s h
  refine ⟨fun ref p hp => congrArg _ (takeRequest_reply h _ _ 0x07 .done _ ?_),
    fun n hn => congrArg _ (takeRequest_reply h _ _ 0x07 .absent _ ?_),
    fun b hrom hloaded => congrArg _ (takeRequest_reply h _ _ 0x07 .badForm _ ?_)⟩
  · have hx : ∀ l, (s.withLink l).store.profile ref = some p := fun _ => hp
    rw [handleProfileGet_of_some (hx _), usersByte_eq]
    rfl
  · exact handleProfileGet_of_none (s := s.withLink _) (ref := .loaded n) hn
  · unfold State.handleProfileGet
    dsimp only
    rw [profileRef_ofCode_of_none hrom hloaded]

/-! ### BINDINGS_GET (R78) -/

theorem bindingsGetReadsTheList : BindingsGetReadsTheList := by
  intro s h
  exact congrArg _ (takeRequest_reply h _ _ 0x0B .done _ rfl)

/-! ### SETTINGS_GET (R171) -/

theorem settingId_ofCode_code (i : SettingId) : SettingId.ofCode i.code = some i := by cases i <;> rfl

theorem parseIds_map_code : ∀ is : List SettingId, parseIds (is.map SettingId.code) = some is
  | [] => rfl
  | i :: is => by simp only [List.map_cons, parseIds, settingId_ofCode_code, parseIds_map_code is]

theorem hasRepeat_eq_false {α : Type} [DecidableEq α] : ∀ {xs : List α}, hasRepeat xs = false ↔ xs.Nodup
  | [] => by simp [hasRepeat]
  | x :: xs => by simp [hasRepeat, hasRepeat_eq_false (xs := xs)]

/-- SETTINGS_GET of distinct identifiers carries their settings, and all of them where none is named (R171). -/
theorem exec_settingsGet (h : Ready s) {is : List SettingId} (hd : is.Nodup) :
    exec (.settingsGet (is.map SettingId.code)) s =
      .next (answered s 0x8D .done
        ((if is = [] then allSettings else is).flatMap (fun i => i.code :: num16 (s.setting i)))) := by
  refine congrArg _ (takeRequest_reply h _ _ 0x0D .done _ ?_)
  unfold State.handleSettingsGet
  rw [parseIds_map_code]
  dsimp only
  rw [hasRepeat_eq_false.mpr hd, if_neg Bool.false_ne_true]
  rfl

theorem settingsGetReads : SettingsGetReads := by
  intro s h
  refine ⟨exec_settingsGet h (is := []) List.nodup_nil, fun is hne hd => ?_⟩
  rw [exec_settingsGet h hd, if_neg hne]

/-- Settles O15: each of the four reading requests replies what the state holds, and changes nothing. -/
theorem tablesStoreAndSettingsAreRead : Obligations.TablesStoreAndSettingsAreRead :=
  ⟨tableGetReadsTheTable, profileGetReads, bindingsGetReadsTheList, settingsGetReads⟩

end Sys2Proof.Claim
end

section
/-! Every step keeps the settings legal and the store sound (R74, R127, R171): the binding list under its operations, the
values that a SETTINGS_PUT stores, and the commands that write neither. -/

namespace Sys2Proof.Claim

open Sys2Proof.Machine

variable {r s t : State} {st : Store} {b : Binding} {bs : List Binding}

/-! ### The binding list (R74 to R76) -/

theorem mem_insertBinding {x : Binding} : ∀ {bs : List Binding}, x ∈ insertBinding b bs → x = b ∨ x ∈ bs
  | [], h => .inl (List.mem_singleton.mp h)
  | y :: ys, h => by
    unfold insertBinding at h
    split at h
    · exact List.mem_cons.mp h
    · split at h
      · exact (List.mem_cons.mp h).imp_right (List.mem_cons_of_mem y)
      · rcases List.mem_cons.mp h with rfl | h
        · exact .inr List.mem_cons_self
        · exact (mem_insertBinding h).imp_right (List.mem_cons_of_mem y)

/-- An insertion keeps the list in ascending tag (R74). -/
theorem ascending_insertBinding (b : Binding) : ∀ {bs : List Binding},
    bs.Pairwise (fun x y => x.tag.toNat < y.tag.toNat) →
    (insertBinding b bs).Pairwise (fun x y => x.tag.toNat < y.tag.toNat)
  | [], _ => List.pairwise_singleton _ b
  | y :: ys, h => by
    obtain ⟨hy, hys⟩ := List.pairwise_cons.mp h
    unfold insertBinding
    split
    · next hlt =>
      refine List.pairwise_cons.mpr ⟨fun x hx => ?_, h⟩
      rcases List.mem_cons.mp hx with rfl | hx
      · exact hlt
      · exact hlt.trans (hy x hx)
    · next hle =>
      split
      · next heq => exact List.pairwise_cons.mpr ⟨fun x hx => heq ▸ hy x hx, hys⟩
      · next hne =>
        have hlt : y.tag.toNat < b.tag.toNat :=
          lt_of_le_of_ne (not_lt.mp hle) (fun h => hne (BitVec.eq_of_toNat_eq h.symm))
        refine List.pairwise_cons.mpr ⟨fun x hx => ?_, ascending_insertBinding b hys⟩
        rcases mem_insertBinding hx with rfl | hx
        · exact hlt
        · exact hy x hx

/-- A binding is sound in a store: its tag is legal and it names no empty slot (R74). -/
def BindingSound (st : Store) (b : Binding) : Prop :=
  b.tag ≠ 0 ∧ b.tag ≠ 0xFFFF ∧ ∀ n, b.target = .profile (.loaded n) → st.loaded[n] ≠ none

/-- A sound binding inserted where there is room leaves the store sound (R74 to R76). -/
theorem StoreSound.insert (h : StoreSound st) (hb : BindingSound st b) (hroom : st.roomFor b.tag = true) :
    StoreSound { st with bindings := insertBinding b st.bindings } := by
  obtain ⟨hasc, hlen, hall⟩ := h
  refine ⟨ascending_insertBinding b hasc, ?_, fun x hx => ?_⟩
  · simp only [Store.roomFor, Bool.or_eq_true, decide_eq_true_eq] at hroom
    show (insertBinding b st.bindings).length ≤ 16
    rw [length_insertBinding b hasc]
    split
    · exact hlen
    · next hnone => exact hroom.resolve_left hnone
  · rcases mem_insertBinding hx with rfl | hx
    · exact hb
    · exact hall x hx

/-- A store with fewer bindings is sound where those that stay name occupied slots. -/
theorem StoreSound.sublist (h : StoreSound st) {loaded : Vector (Option Profile) 12} (hs : bs.Sublist st.bindings)
    (hl : ∀ b ∈ bs, ∀ n, b.target = .profile (.loaded n) → st.loaded[n] ≠ none → loaded[n] ≠ none) :
    StoreSound { loaded, bindings := bs } := by
  obtain ⟨hasc, hlen, hall⟩ := h
  refine ⟨hasc.sublist hs, hs.length_le.trans hlen, fun b hb => ?_⟩
  obtain ⟨h0, hf, hn⟩ := hall b (hs.subset hb)
  exact ⟨h0, hf, fun n ht => hl b hb n ht (hn n ht)⟩

theorem StoreSound.remove (h : StoreSound st) (g : Word16) :
    StoreSound { st with bindings := removeBinding g st.bindings } :=
  h.sublist List.filter_sublist fun _ _ _ _ ho => ho

/-- A loaded slot released: no binding that stays names it (R70, R72). -/
theorem StoreSound.release (h : StoreSound s.store) (n : Fin 12) : StoreSound (s.releaseLoaded n).store := by
  refine h.sublist List.filter_sublist fun b hb m hm ho => ?_
  have hmn : n ≠ m := by
    rintro rfl
    have := (List.mem_filter.mp hb).2
    simp [Binding.names, hm] at this
  rwa [Fin.getElem_fin, Vector.getElem_set_ne _ _ (Fin.val_ne_of_ne hmn), ← Fin.getElem_fin]

/-- A loaded slot filled (R70). -/
theorem StoreSound.fill (h : StoreSound st) (n : Fin 12) (p : Profile) :
    StoreSound { st with loaded := st.loaded.set n (some p) } := by
  refine h.sublist (List.Sublist.refl _) fun b _ m _ ho => ?_
  by_cases hmn : n = m
  · subst hmn
    simp
  · rwa [Fin.getElem_fin, Vector.getElem_set_ne _ _ (Fin.val_ne_of_ne hmn), ← Fin.getElem_fin]

theorem StoreSound.load (h : StoreSound s.store) (n : Fin 12) (p : Profile) : StoreSound (s.loadProfile n p).store := by
  unfold State.loadProfile
  dsimp only
  split
  · exact (h.release n).fill n p
  · exact h.fill n p

/-! ### The values that a SETTINGS_PUT stores (R127, R171) -/

theorem range_holds_adjust {i : SettingId} {v w : Word16} (h : i.adjust v = some w) : i.range.holds w.toNat = true := by
  unfold SettingId.adjust at h
  cases hr : i.range with
  | codes max =>
    rw [hr] at h
    simp only [Option.ite_none_right_eq_some, Option.some.injEq] at h
    obtain ⟨hle, rfl⟩ := h
    simpa [SettingRange.holds] using hle
  | range lo hi =>
    have hb : lo ≤ hi ∧ hi < 65536 := by cases i <;> cases hr <;> decide
    rw [hr] at h
    cases h
    have hw : max lo (min hi v.toNat) < 65536 := by omega
    simp only [SettingRange.holds, BitVec.toNat_ofNat, Nat.mod_eq_of_lt hw, Bool.and_eq_true, decide_eq_true_eq]
    omega
  | canBase =>
    rw [hr] at h
    cases h
    have hw : adjustBase v.toNat ≤ 0x7C0 ∧ adjustBase v.toNat % 32 = 0 := by
      unfold adjustBase
      split <;> omega
    have hlt : adjustBase v.toNat < 65536 := by omega
    simpa [SettingRange.holds, Nat.mod_eq_of_lt hlt] using hw
  | canRate =>
    rw [hr] at h
    cases h
    have hw : adjustRate v.toNat = 125 ∨ adjustRate v.toNat = 250 ∨ adjustRate v.toNat = 500
        ∨ adjustRate v.toNat = 1000 := by
      unfold adjustRate
      split
      · simp
      · split
        · simp
        · split <;> simp
    rcases hw with hw | hw | hw | hw <;> rw [hw] <;> decide

/-- Every value that a request stores is in its setting's range (R171, steps 1 and 2). -/
theorem range_holds_adjustPairs {i : SettingId} {w : Word16} : ∀ {ps ws : List (SettingId × Word16)},
    adjustPairs ps = some ws → (i, w) ∈ ws → i.range.holds w.toNat = true
  | [], ws, h, hm => by
    cases h
    exact absurd hm List.not_mem_nil
  | (j, v) :: ps, ws, h, hm => by
    unfold adjustPairs at h
    split at h
    · next w' ws' hw hws =>
      cases h
      rcases List.mem_cons.mp hm with heq | hm
      · cases heq
        exact range_holds_adjust hw
      · exact range_holds_adjustPairs hws hm
    · exact absurd h nofun

theorem mem_of_storedValue {ws : List (SettingId × Word16)} {i : SettingId} {w : Word16} (h : storedValue ws i = some w) :
    (i, w) ∈ ws := by
  obtain ⟨⟨j, v⟩, hf, hv⟩ := Option.map_eq_some_iff.mp h
  have hj : j = i := by simpa using List.find?_some hf
  subst hj
  cases hv
  exact List.mem_of_find?_eq_some hf

/-! ### The settings stored (R171, step 4) -/

theorem works_settingChanged (s : State) (i : SettingId) (old : Nat) : s.Works (s.settingChanged i old) := by
  have h := State.Works.refl s
  have hbase : ∀ k, s.Works (s.baseChanged k) := by
    intro k
    unfold State.baseChanged
    split
    · exact h.takeBases k
    · exact h
  unfold State.settingChanged
  split
  · split
    · exact h.attentionCheck.settleSweep 3
    · exact h
  · exact hbase _
  · exact hbase _
  · exact hbase _
  · exact hbase _
  · exact h.withCan _ _
  · exact h.withCan _ _
  · exact h.withLine _
  · unfold State.socketsChanged
    split
    · exact h.foldl (fun c k => k.triggerOccurs c) _
    · exact h
  · exact h

theorem settings_putSetting (s : State) (i : SettingId) (v : Word16) :
    (s.putSetting i v).settings = s.settings.set i.index v := by
  unfold State.putSetting
  dsimp only
  split
  · rfl
  · exact (works_settingChanged _ i _).settings

theorem store_putSetting (s : State) (i : SettingId) (v : Word16) : (s.putSetting i v).store = s.store := by
  unfold State.putSetting
  dsimp only
  split
  · rfl
  · exact (works_settingChanged _ i _).store

theorem settingId_index_injective {i j : SettingId} (h : i.index = j.index) : i = j := by
  have hcode : i.code = j.code := by rw [SettingId.code, SettingId.code, h]
  exact Option.some.inj ((settingId_ofCode_code i).symm.trans ((congrArg _ hcode).trans (settingId_ofCode_code j)))

theorem setting_putSetting (s : State) (i j : SettingId) (v : Word16) :
    (s.putSetting i v).setting j = if j = i then v.toNat else s.setting j := by
  rw [State.setting, settings_putSetting]
  split
  · next h => simp [h]
  · next h =>
    have hne : i.index.val ≠ j.index.val := fun hv => h (settingId_index_injective (Fin.ext hv)).symm
    simp [State.setting, Vector.getElem_set_ne _ _ hne]

/-- A stored value in the place of a setting that the request names (R171). -/
def putNamed (ws : List (SettingId × Word16)) (s : State) (i : SettingId) : State :=
  match storedValue ws i with
  | some v => s.putSetting i v
  | none => s

theorem setting_putNamed (ws : List (SettingId × Word16)) (s : State) (i j : SettingId) :
    (putNamed ws s i).setting j = if j = i then s.settingAfter ws j else s.setting j := by
  unfold putNamed
  cases hv : storedValue ws i with
  | none =>
    dsimp only
    split
    · next h => rw [h, State.settingAfter, hv]
    · rfl
  | some v =>
    dsimp only
    rw [setting_putSetting]
    split
    · next h => simp [State.settingAfter, h, hv]
    · rfl

theorem settingAfter_putNamed (ws : List (SettingId × Word16)) (s : State) (i j : SettingId) :
    (putNamed ws s i).settingAfter ws j = s.settingAfter ws j := by
  unfold State.settingAfter
  cases hv : storedValue ws j with
  | some v => rfl
  | none =>
    dsimp only
    rw [setting_putNamed]
    split
    · next h => simp [State.settingAfter, hv]
    · rfl

theorem setting_foldl_putNamed (ws : List (SettingId × Word16)) (j : SettingId) : ∀ (is : List SettingId) (s : State),
    (is.foldl (putNamed ws) s).setting j = if j ∈ is then s.settingAfter ws j else s.setting j
  | [], s => by simp
  | i :: is, s => by
    rw [List.foldl_cons, setting_foldl_putNamed ws j is, settingAfter_putNamed, setting_putNamed]
    by_cases hj : j = i <;> by_cases hm : j ∈ is <;> simp [hj, hm]

/-- Every setting after a request (R171). -/
theorem setting_putSettings (s : State) (ws : List (SettingId × Word16)) (j : SettingId) :
    (s.putSettings ws).setting j = s.settingAfter ws j := by
  have hall : j ∈ allSettings := by cases j <;> decide
  exact (setting_foldl_putNamed ws j allSettings s).trans (if_pos hall)

theorem store_putSettings (s : State) (ws : List (SettingId × Word16)) : (s.putSettings ws).store = s.store := by
  have hone : ∀ (u : State) (i : SettingId), (putNamed ws u i).store = u.store := by
    intro u i
    unfold putNamed
    split
    · exact store_putSetting _ _ _
    · rfl
  have hfold : ∀ (is : List SettingId) (u : State), (is.foldl (putNamed ws) u).store = u.store := by
    intro is
    induction is with
    | nil => exact fun _ => rfl
    | cons i is ih => exact fun u => (ih _).trans (hone u i)
  exact hfold allSettings s

/-- The settings of a request that passes its checks are legal (R127, R171). -/
theorem legalSettings_putSettings {ps ws : List (SettingId × Word16)} (h : s.legalSettings)
    (hp : adjustPairs ps = some ws) (hb : ∀ k, s.basesCollide ws k = false) : (s.putSettings ws).legalSettings := by
  obtain ⟨hrange, -⟩ := h
  refine ⟨fun i hi => ?_, fun k _ => ?_⟩
  · rw [setting_putSettings, State.settingAfter]
    split
    · next v hv => exact range_holds_adjustPairs hp (mem_of_storedValue hv)
    · exact hrange i hi
  · rw [setting_putSettings, setting_putSettings]
    simpa [State.basesCollide] using hb k

end Sys2Proof.Claim
end

section
/-! Every step keeps the settings legal and the store sound, continued: the requests that write either, and the commands that
write neither (R74, R127, R171). -/

namespace Sys2Proof.Claim

open Sys2Proof.Machine

variable {r s t : State}

/-- `t` has legal settings and a sound store where `s` has. -/
structure KeepsLegal (s t : State) : Prop where
  settings : s.legalSettings → t.legalSettings
  store : StoreSound s.store → StoreSound t.store

namespace KeepsLegal

theorem refl (s : State) : KeepsLegal s s := ⟨id, id⟩

theorem trans (h : KeepsLegal r s) (k : KeepsLegal s t) : KeepsLegal r t :=
  ⟨k.settings ∘ h.settings, k.store ∘ h.store⟩

theorem of_settings (hset : t.settings = s.settings) (hstore : StoreSound s.store → StoreSound t.store) :
    KeepsLegal s t := by
  refine ⟨fun h => ?_, hstore⟩
  have hi : ∀ i, t.setting i = s.setting i := fun i => by rw [State.setting, State.setting, hset]
  simpa only [State.legalSettings, hi] using h

/-- What writes neither a setting nor the store. -/
theorem of_same (hset : t.settings = s.settings) (hstore : t.store = s.store) : KeepsLegal s t :=
  of_settings hset (hstore ▸ id)

/-- The part's own work writes neither. -/
theorem works (h : KeepsLegal r s) (k : s.Works t) : KeepsLegal r t := h.trans (of_same k.settings k.store)

theorem same (h : KeepsLegal r s) (hset : t.settings = s.settings) (hstore : t.store = s.store) : KeepsLegal r t :=
  h.trans (of_same hset hstore)

theorem withLink (h : KeepsLegal r s) (l : Link) : KeepsLegal r (s.withLink l) := h.same rfl rfl

theorem reply (h : KeepsLegal r s) (k : Byte) (st : Status) (bs : List Byte) : KeepsLegal r (s.reply k st bs) :=
  h.withLink _

/-- The wake of the slots that wait on a tag, and the end of the step (R82). -/
theorem wakes (h : KeepsLegal r s) (g : Word16) : KeepsLegal r (s.wakeWaiting g).closeStep :=
  h.works ((State.Works.refl s).wakeWaiting g).closeStep

theorem ite {p : Prop} [Decidable p] (h : KeepsLegal r s) (ht : KeepsLegal s t) : KeepsLegal r (if p then t else s) := by
  split
  · exact h.trans ht
  · exact h

theorem foldl {α : Type} {f : State → α → State} (hf : ∀ u a, KeepsLegal u (f u a)) (as : List α) :
    ∀ s, KeepsLegal s (as.foldl f s) := by
  induction as with
  | nil => exact refl
  | cons a as ih => exact fun s => (hf s a).trans (ih _)

/-! ### The host link -/

theorem offer (s : State) (f : HostFrame) : KeepsLegal s (s.offer f) := by
  unfold State.offer
  split <;> exact of_same rfl rfl

/-- A request is carried out, offered or left (R167). -/
theorem takeRequest {carry : State → State} (hc : ∀ u, KeepsLegal u (carry u)) (s : State) (f : HostFrame) :
    KeepsLegal s (s.takeRequest f carry) := by
  have hserve : ∀ {u : State}, KeepsLegal s u → KeepsLegal s (u.serve f carry) := fun h =>
    ((h.withLink _).trans (hc _)).withLink _
  unfold State.takeRequest
  split
  · split
    · exact hserve (refl s)
    · exact offer s f
  · split
    · split
      · exact hserve ((refl s).withLink _)
      · exact refl s
    · exact offer s f

theorem discardFrame (s : State) (x : RejectReason) : KeepsLegal s (s.discardFrame x) := of_same rfl rfl

theorem receiveByte (s : State) (b : LineByte) : KeepsLegal s (s.receiveByte b) := by
  have hbyte : ∀ v, KeepsLegal s (s.assembleByte v) := by
    intro v
    unfold State.assembleByte
    dsimp only
    split
    · exact refl s
    · split <;> exact of_same rfl rfl
    · exact of_same rfl rfl
    · exact of_same rfl rfl
    · split
      · exact ((refl s).withLink _).trans (offer _ _)
      · exact discardFrame s _
  unfold State.receiveByte
  split
  · split <;> exact of_same rfl rfl
  · split
    · exact discardFrame s _
    · exact hbyte _

theorem hostGapExpired (s : State) : KeepsLegal s s.hostGapExpired := by
  unfold State.hostGapExpired
  split
  · exact discardFrame s _
  · exact refl s

/-! ### The requests that write the store (R69 to R77) -/

theorem handleProfileLoad (p : List Byte) (s : State) : KeepsLegal s (s.handleProfileLoad p) := by
  have hload : ∀ n q, KeepsLegal s (s.loadProfile n q) := by
    refine fun n q => of_settings ?_ fun h => h.load n q
    unfold State.loadProfile
    dsimp only
    split <;> rfl
  unfold State.handleProfileLoad
  split
  · exact of_same rfl rfl
  · split
    · exact of_same rfl rfl
    · exact ((hload _ _).reply _ _ _).wakes _

theorem handleProfileUnload (p : List Byte) (s : State) : KeepsLegal s (s.handleProfileUnload p) := by
  unfold State.handleProfileUnload
  split
  · split
    · split
      · exact of_same rfl rfl
      · split
        · exact of_same rfl rfl
        · exact of_settings rfl fun h => h.release _
    · exact of_same rfl rfl
  · exact of_same rfl rfl

theorem finishBind (s : State) (g : Word16) (bs : List Binding)
    (hbs : StoreSound s.store → StoreSound { s.store with bindings := bs }) : KeepsLegal s (s.finishBind g bs) := by
  refine of_settings ?_ fun h => (store_finishBind s g bs).symm ▸ hbs h
  have hkeep : ∀ u : State, (u.wakeWaiting g).closeStep.settings = u.settings := fun u =>
    (((State.Works.refl u).wakeWaiting g).closeStep).settings
  unfold State.finishBind
  dsimp only
  rw [hkeep]
  split <;> rfl

theorem tagOk_iff {g : Word16} : tagOk g = true ↔ g ≠ 0 ∧ g ≠ 0xFFFF := by
  simp [tagOk]

theorem handleBind (p : List Byte) (s : State) : KeepsLegal s (s.handleBind p) := by
  have hnone : ∀ g, KeepsLegal s (s.bindNone g) := by
    intro g
    unfold State.bindNone
    split
    · exact of_same rfl rfl
    · exact finishBind s g _ fun h => h.remove g
  have hto : ∀ g ref, tagOk g = true → KeepsLegal s (s.bindTo g ref) := by
    intro g ref hg
    obtain ⟨h0, hf⟩ := tagOk_iff.mp hg
    unfold State.bindTo
    split
    · exact of_same rfl rfl
    · next hprof =>
      split
      · next hroom =>
        refine finishBind s g _ fun h => h.insert (b := ⟨g, .profile ref⟩) ⟨h0, hf, fun n hn => ?_⟩ hroom
        cases hn
        simpa [Store.profile] using hprof
      · exact of_same rfl rfl
  unfold State.handleBind
  dsimp only
  split
  · split
    · exact of_same rfl rfl
    · next hg =>
      split
      · exact hnone _
      · split
        · exact of_same rfl rfl
        · exact hto _ _ (by simpa using hg)
  · exact of_same rfl rfl

theorem handleDecline (p : List Byte) (s : State) : KeepsLegal s (s.handleDecline p) := by
  unfold State.handleDecline
  dsimp only
  split
  · split
    · exact of_same rfl rfl
    · next hg =>
      obtain ⟨h0, hf⟩ := tagOk_iff.mp (by simpa using hg)
      split
      · next hroom =>
        have hbound : KeepsLegal s (s.withBindings (insertBinding ⟨_, .decline⟩ s.store.bindings)) :=
          of_settings rfl fun h => h.insert ⟨h0, hf, fun _ hn => absurd hn nofun⟩ hroom
        exact (hbound.reply _ _ _).wakes _
      · exact of_same rfl rfl
  · exact of_same rfl rfl

/-! ### The request that writes the settings (R171) -/

theorem handleSettingsPut (p : List Byte) (s : State) : KeepsLegal s (s.handleSettingsPut p) := by
  unfold State.handleSettingsPut
  split
  · exact of_same rfl rfl
  · split
    · exact of_same rfl rfl
    · split
      · exact of_same rfl rfl
      · next ws hws =>
        split
        · exact of_same rfl rfl
        · next hb =>
          simp only [Bool.or_eq_true, not_or, Bool.not_eq_true] at hb
          have hput : ∀ st bs, KeepsLegal s ((s.reply 0x0C st bs).putSettings ws) := by
            refine fun st bs => ⟨fun h => ?_, fun h => (store_putSettings (s.reply 0x0C st bs) ws).symm ▸ h⟩
            refine legalSettings_putSettings (s := s.reply 0x0C st bs) h hws fun k => ?_
            cases k
            · exact hb.1
            · exact hb.2
          exact (hput _ _).works (State.Works.refl _).closeStep

/-! ### The other requests (R169) -/

theorem handleTableRemove (p : List Byte) (s : State) : KeepsLegal s (s.handleTableRemove p) := by
  have hremove : ∀ i b, KeepsLegal s (s.removeEntry i b) := by
    intro i b
    cases b <;> exact of_same rfl rfl
  unfold State.handleTableRemove
  split
  · split
    · exact of_same rfl rfl
    · split
      · exact of_same rfl rfl
      · split
        · exact of_same rfl rfl
        · split
          · exact of_same rfl rfl
          · split
            · exact of_same rfl rfl
            · exact hremove _ _
  · exact of_same rfl rfl

theorem handleSweep (p : List Byte) (s : State) : KeepsLegal s (s.handleSweep p) := by
  unfold State.handleSweep
  split
  · exact of_same rfl rfl
  · split
    · exact of_same rfl rfl
    · split
      · exact of_same rfl rfl
      · exact ((refl s).reply _ _ _).works ((State.Works.refl _).startSweep _ _ _).closeStep

theorem handleHalt (p : List Byte) (s : State) : KeepsLegal s (s.handleHalt p) := by
  unfold State.handleHalt
  dsimp only
  split
  · split
    · refine ((refl s).reply 0x10 .done []).works (State.Works.closeStep ?_)
      exact State.Works.foldl (fun c k => k.haltSlot c) ((State.Works.refl _).withSweep _) allChannels
    · exact (refl s).reply _ _ _
  · exact (refl s).reply _ _ _

theorem handleChannelResume (p : List Byte) (s : State) : KeepsLegal s (s.handleChannelResume p) := by
  have hprepare : ∀ c b, s.Works (s.prepareController c b) := by
    intro c b
    unfold State.prepareController
    split
    · exact .refl s
    · dsimp only
      split
      · exact ((State.Works.refl s).withCan _ _).freshController _
      · exact (State.Works.refl s).freshController _
  have hreopen : ∀ c, KeepsLegal s (s.reopen c) := by
    intro c
    have hshare := fun x => (refl s).works ((hprepare c (s.shareOf c).causes.busOff).withShareOf c x)
    unfold State.reopen
    dsimp only
    split
    · exact ((hshare _).reply _ _ _).works ((State.Works.refl _).notify _).closeStep
    · exact ((hshare _).reply _ _ _).works (State.Works.refl _).closeStep
  unfold State.handleChannelResume
  split
  · split
    · exact of_same rfl rfl
    · unfold State.resumeChannel
      split
      · exact of_same rfl rfl
      · split
        · exact of_same rfl rfl
        · exact hreopen _
  · exact of_same rfl rfl

theorem handleReset (p : List Byte) (s : State) : KeepsLegal s (s.handleReset p) := by
  unfold State.handleReset
  split
  · exact (((refl s).reply _ _ _).withLink _).works (State.Works.refl _).engineReset
  · exact of_same rfl rfl

theorem handleIdent (p : List Byte) (s : State) : KeepsLegal s (s.handleIdent p) := by
  unfold State.handleIdent
  split <;> exact of_same rfl rfl

theorem handleStatus (p : List Byte) (s : State) : KeepsLegal s (s.handleStatus p) := by
  unfold State.handleStatus
  split <;> exact of_same rfl rfl

theorem handleTablePut (p : List Byte) (s : State) : KeepsLegal s (s.handleTablePut p) := by
  unfold State.handleTablePut
  (repeat' split) <;> exact of_same rfl rfl

theorem handleTableGet (p : List Byte) (s : State) : KeepsLegal s (s.handleTableGet p) := by
  unfold State.handleTableGet
  (repeat' split) <;> exact of_same rfl rfl

theorem handleProfileGet (p : List Byte) (s : State) : KeepsLegal s (s.handleProfileGet p) := by
  unfold State.handleProfileGet
  (repeat' split) <;> exact of_same rfl rfl

theorem handleBindingsGet (p : List Byte) (s : State) : KeepsLegal s (s.handleBindingsGet p) := by
  unfold State.handleBindingsGet
  split <;> exact of_same rfl rfl

theorem handleSettingsGet (p : List Byte) (s : State) : KeepsLegal s (s.handleSettingsGet p) := by
  unfold State.handleSettingsGet
  (repeat' split) <;> exact of_same rfl rfl

theorem handleReferenceSet (p : List Byte) (s : State) : KeepsLegal s (s.handleReferenceSet p) := by
  unfold State.handleReferenceSet
  (repeat' split) <;> exact of_same rfl rfl

theorem handleHistoryRead (p : List Byte) (s : State) : KeepsLegal s (s.handleHistoryRead p) := by
  unfold State.handleHistoryRead
  split <;> exact of_same rfl rfl

theorem handleHistoryPurge (p : List Byte) (s : State) : KeepsLegal s (s.handleHistoryPurge p) := by
  unfold State.handleHistoryPurge
  split <;> exact of_same rfl rfl

/-- Every request carried out (R169). -/
theorem handleFrame (f : HostFrame) (s : State) : KeepsLegal s (s.handleFrame f) := by
  unfold State.handleFrame
  split
  · exact handleIdent _ s
  · exact handleStatus _ s
  · exact handleTablePut _ s
  · exact handleTableGet _ s
  · exact handleTableRemove _ s
  · exact handleProfileLoad _ s
  · exact handleProfileGet _ s
  · exact handleProfileUnload _ s
  · exact handleBind _ s
  · exact handleDecline _ s
  · exact handleBindingsGet _ s
  · exact handleSettingsPut _ s
  · exact handleSettingsGet _ s
  · exact handleReferenceSet _ s
  · exact handleSweep _ s
  · exact handleHalt _ s
  · exact handleChannelResume _ s
  · exact handleHistoryRead _ s
  · exact handleHistoryPurge _ s
  · exact handleReset _ s
  · exact of_same rfl rfl

/-! ### The key, the filters and the timebase (R91, R154, R176 to R179) -/

theorem tpresChange (s : State) (a : Bool) : KeepsLegal s (s.tpresChange a) := by
  unfold State.tpresChange
  split
  · exact refl s
  · have haccept : KeepsLegal s (s.acceptTpres a) := of_same rfl rfl
    exact haccept.works (State.Works.foldl (fun c k => k.tpresReaches c) (.refl _) allChannels).closeStep

theorem keyOff (s : State) : KeepsLegal s s.keyOff := by
  unfold State.keyOff
  split
  · have hoff : KeepsLegal s (keyTakenOff s) := of_same rfl rfl
    exact hoff.works (State.Works.refl _).standby
  · exact refl s

theorem keyOn (s : State) : KeepsLegal s s.keyOn := by
  unfold State.keyOn
  split
  · exact refl s
  · have hon : KeepsLegal s (s.acceptKey true) := of_same rfl rfl
    exact (hon.works (State.Works.refl _).wake).same rfl rfl

theorem settleExpired (s : State) : KeepsLegal s s.settleExpired := by
  unfold State.settleExpired
  split
  · exact refl s
  · have hover : KeepsLegal s (settleOver s) := of_same rfl rfl
    refine hover.works (State.Works.closeStep ?_)
    split
    · exact (State.Works.refl _).startSweep _ _ _
    · exact (State.Works.refl _).attentionCheck

theorem chassisAdvance (s : State) : KeepsLegal s s.chassisAdvance := by
  unfold State.chassisAdvance
  split
  · exact of_same rfl rfl
  · exact refl s

theorem keyFilter (s : State) : KeepsLegal s s.keyFilter := by
  unfold State.keyFilter
  split
  · exact of_same rfl rfl
  · split
    · split
      · exact keyOn s
      · exact keyOff s
    · exact of_same rfl rfl

theorem tpresFilter (s : State) : KeepsLegal s s.tpresFilter := by
  unfold State.tpresFilter
  split
  · exact of_same rfl rfl
  · split
    · exact tpresChange s _
    · exact of_same rfl rfl

theorem chassisTick (s : State) : KeepsLegal s s.chassisTick := by
  unfold State.chassisTick
  split
  · split
    · exact chassisAdvance s
    · exact of_same rfl rfl
  · exact refl s

theorem tick (s : State) : KeepsLegal s s.tick := by
  have hhold : ∀ u : State, u.Works (allChannels.foldl State.holdExpiries u) := fun u =>
    .foldl (fun c k => k.holdExpiries c) (.refl u) _
  have hcan : ∀ u : State, u.Works (allCanChannels.foldl State.canExpiries u) := fun u =>
    .foldl (fun c k => k.canExpiries c) (.refl u) _
  have hslot : ∀ u : State, u.Works (allChannels.foldl State.slotExpiries u) := fun u =>
    .foldl (fun c k => k.slotExpiries c) (.refl u) _
  have hcount : KeepsLegal s s.sampleTick.countDown := ((refl s).works (State.Works.refl s).sampleTick).same rfl rfl
  have hfilters := ((hcount.trans (keyFilter _)).trans (tpresFilter _)).trans (chassisTick _)
  unfold State.tick
  dsimp only
  generalize s.sampleTick.countDown.keyFilter.tpresFilter.chassisTick = u at hfilters ⊢
  have hgap := hfilters.ite (p := due u.link.assembler.gap) (hostGapExpired u)
  exact ((((hgap.works (hhold _)).works (hcan _)).works (hslot _)).works (State.Works.refl _).lineExpiries).ite
    (settleExpired _)

/-! ### The step -/

theorem afterReset (s : State) (p : ResetPins) (is : List Instr) :
    KeepsLegal s { State.afterReset p with pending := is } := by
  refine ⟨fun _ => ?_, fun _ => ⟨.nil, Nat.zero_le _, nofun⟩⟩
  show (∀ i ∈ allSettings, i.range.holds (Settings.defaults[i.index]).toNat)
    ∧ ∀ k ∈ allCanChannels, (Settings.defaults[(requestBaseSetting k).index]).toNat
        ≠ (Settings.defaults[(responseBaseSetting k).index]).toNat
  decide

theorem exec (s : State) (i : Instr) (ht : exec i s = .next t) : KeepsLegal s t := by
  have hw := State.Works.refl s
  have work : ∀ {u : State}, s.Works u → KeepsLegal s u := (refl s).works
  cases i <;> cases ht
  case ident p => exact takeRequest (handleIdent p) s _
  case status p => exact takeRequest (handleStatus p) s _
  case tablePut p => exact takeRequest (handleTablePut p) s _
  case tableGet p => exact takeRequest (handleTableGet p) s _
  case tableRemove p => exact takeRequest (handleTableRemove p) s _
  case profileLoad p => exact takeRequest (handleProfileLoad p) s _
  case profileGet p => exact takeRequest (handleProfileGet p) s _
  case profileUnload p => exact takeRequest (handleProfileUnload p) s _
  case bind p => exact takeRequest (handleBind p) s _
  case decline p => exact takeRequest (handleDecline p) s _
  case bindingsGet p => exact takeRequest (handleBindingsGet p) s _
  case settingsPut p => exact takeRequest (handleSettingsPut p) s _
  case settingsGet p => exact takeRequest (handleSettingsGet p) s _
  case referenceSet p => exact takeRequest (handleReferenceSet p) s _
  case sweep p => exact takeRequest (handleSweep p) s _
  case halt p => exact takeRequest (handleHalt p) s _
  case channelResume p => exact takeRequest (handleChannelResume p) s _
  case historyRead p => exact takeRequest (handleHistoryRead p) s _
  case historyPurge p => exact takeRequest (handleHistoryPurge p) s _
  case reset p => exact takeRequest (handleReset p) s _
  case unknownKindRequest k p => exact takeRequest (handleFrame _) s _
  case hostFrameReceived bs => exact foldl receiveByte bs s
  case hostGapTimerExpiry => exact hostGapExpired s
  case outboundFrameSent => exact of_same rfl rfl
  case dialogStart c => exact work (hw.dialogStart c)
  case idReply c g k f => exact work (hw.serviceReceived c _)
  case pageHead c n k l f w => exact work (hw.serviceReceived c _)
  case segment c n bs => exact (refl s).ite (work (hw.serviceReceived c _))
  case holdOn c n => exact work (hw.serviceReceived c _)
  case deny c n => exact work (hw.serviceReceived c _)
  case eraseDone c => exact work (hw.serviceReceived c _)
  case responseTimerExpiry c => exact work (hw.responseExpired c).closeStep
  case bootTimerExpiry c => exact work (hw.bootTimerExpired c).closeStep
  case keepAwakeTimerExpiry c => exact work (hw.keepAwakeExpired c)
  case referralTimerExpiry c => exact work (hw.referralExpired c).closeStep
  case canAttemptStart k => exact work (hw.canAttemptStart k)
  case canFrameSent k => exact work (hw.canFrameSent k)
  case arbitrationLost k => exact work (hw.arbitrationLost k)
  case canTransmitError k => exact work (hw.canTransmitError k)
  case canReceiveError k => exact work (hw.canReceiveError k)
  case canFrameReceived k f => exact (refl s).ite (work (hw.canFrameReceived k f))
  case foreignTesterRequest k a => exact work (hw.foreignTester k a)
  case busDominantTimeout k => exact work (hw.busDominant k)
  case idleSequence k => exact work (hw.idleSequence k)
  case gapTimerExpiry k => exact work (hw.gapExpired k)
  case windowTimerExpiry k => exact work (hw.windowExpired k)
  case lineTransmitStart => exact work hw.lineTransmitStart
  case lineFrameSent => exact work hw.lineFrameSent
  case lineFrameAbandoned => exact work hw.lineFrameAbandoned
  case turnaroundTimerExpiry => exact work hw.turnaroundExpired
  case lineFrameReceived bs => exact work (hw.lineFrameReceived bs)
  case lineFrameDiscarded => exact work (hw.withLine _)
  case wakePatternStart => exact work hw.wakePatternStart
  case wakePatternEnd => exact work hw.wakePatternEnd
  case stuckTimerExpiry => exact work hw.stuckExpired
  case stuckClearTimerExpiry => exact work (hw.withLine _)
  case attentionPulse w => exact work (hw.attentionPulse w)
  case widthOverflow => exact work (hw.withLine _)
  case releaseTimerExpiry => exact work (hw.withLine _)
  case tpresChange b => exact tpresChange s b
  case releaseHoldTimerExpiry c => exact work (hw.holdExpired c)
  case keyOff => exact keyOff s
  case keyOn => exact keyOn s
  case settleTimerExpiry => exact settleExpired s
  case chassisTimeAdvance => exact chassisAdvance s
  case fullReset p => exact afterReset s p _
  case lineEdge l n => exact work (State.Works.takeSamples l n hw)
  case receiverLocked ns l => exact work (hw.withLine _)

theorem idleStep (s : State) : KeepsLegal s s.idleStep := by
  unfold State.idleStep
  split
  · exact tick s
  · split
    · exact ((((refl s).withLink _).withLink _).trans (handleFrame _ _)).withLink _
    · exact tick s

end KeepsLegal

/-- Settles O58: a step is the part's own work or a command; the four requests that write the store, SETTINGS_PUT and a full
reset leave it and the settings in form, and nothing else writes either. -/
theorem settingsAndStoreStayLegal : Obligations.SettingsAndStoreStayLegal := by
  intro s t ht
  have h : KeepsLegal s t := by
    unfold step at ht
    split at ht
    · cases ht
      exact .idleStep s
    · next i rest _ =>
      have hp : KeepsLegal s { s with pending := rest } := .of_same rfl rfl
      exact hp.trans (.exec _ i ht)
  exact ⟨h.settings, h.store⟩

end Sys2Proof.Claim
end

section
/-! The lookup of a tag (R79): the binding, the lowest loaded slot with the tag, ROM, and nothing. -/

namespace Sys2Proof.Claim

open Sys2Proof.Machine

variable {st : Store} {g : Word16} {n : Fin 12}

/-- Whether a loaded slot holds a profile with a tag, as the search reads it (R79). -/
def slotHasTag (st : Store) (g : Word16) (n : Fin 12) : Bool :=
  match st.loaded[n] with
  | some p => p.tag == g
  | none => false

theorem slotHasTag_iff : slotHasTag st g n = true ↔ ∃ p, st.loaded[n] = some p ∧ p.tag = g := by
  unfold slotHasTag
  cases st.loaded[n] <;> simp

theorem loadedWithTag_eq (st : Store) (g : Word16) :
    st.loadedWithTag g = (List.finRange 12).find? (slotHasTag st g) := rfl

theorem loadedWithTag_eq_none : st.loadedWithTag g = none ↔ ∀ (m : Fin 12) q, st.loaded[m] = some q → q.tag ≠ g := by
  simp only [loadedWithTag_eq, List.find?_eq_none, List.mem_finRange, true_imp_iff, slotHasTag_iff, not_exists, not_and,
    ne_eq]

/-- The lowest slot that holds the tag is the one found (R79). -/
theorem loadedWithTag_lowest {p : Profile} (hp : st.loaded[n] = some p) (ht : p.tag = g)
    (hlow : ∀ (m : Fin 12) q, m < n → st.loaded[m] = some q → q.tag ≠ g) : st.loadedWithTag g = some n := by
  cases hf : st.loadedWithTag g with
  | none => exact absurd ht (loadedWithTag_eq_none.mp hf n p hp)
  | some k =>
    obtain ⟨hk, hbefore⟩ := (List.find?_eq_some_iff_getElem (xs := List.finRange 12)).mp hf
    obtain ⟨q, hq, hqt⟩ := slotHasTag_iff.mp hk
    obtain ⟨j, hj, hjk, hno⟩ := hbefore
    obtain rfl : j = k.val := by simpa using congrArg Fin.val hjk
    rcases lt_trichotomy n k with hlt | rfl | hgt
    · have hn := hno n.val hlt
      simp [hp, ht] at hn
    · rfl
    · exact absurd hqt (hlow k q hgt hq)

/-- A tag without a binding is looked for in the loaded slots (R79). -/
theorem lookup_of_loaded (h : st.binding g = none) (hl : st.loadedWithTag g = some n) :
    st.lookup g = some (.profile (.loaded n)) := by
  unfold Store.lookup
  rw [h]
  dsimp only
  rw [hl]

/-- Where no loaded slot has the tag either, ROM answers (R79). -/
theorem lookup_of_rom (h : st.binding g = none) (hl : st.loadedWithTag g = none) :
    st.lookup g = (romWithTag g).map (fun n => .profile (.rom n)) := by
  unfold Store.lookup
  rw [h]
  dsimp only
  rw [hl]

theorem romWithTag_rom (n : Fin 12) : romWithTag (BitVec.ofNat 16 (0x1001 + n.val)) = some n := by
  revert n
  decide

theorem romWithTag_outside (h : g.toNat < 0x1001 ∨ 0x100C < g.toNat) : romWithTag g = none := dif_neg (by omega)

/-- Settles O12: each place of the search answers where the places before it do not. -/
theorem lookupOrder : Obligations.LookupOrder := by
  intro st g
  refine ⟨fun b hb => lookup_of_binding hb, fun hnone n p hp ht hlow => ?_, fun hnone hempty => ⟨fun n hn => ?_, fun hout => ?_⟩⟩
  · exact lookup_of_loaded hnone (loadedWithTag_lowest hp ht hlow)
  · rw [lookup_of_rom hnone (loadedWithTag_eq_none.mpr hempty), hn, romWithTag_rom, Option.map_some]
  · rw [lookup_of_rom hnone (loadedWithTag_eq_none.mpr hempty), romWithTag_outside hout, Option.map_none]

end Sys2Proof.Claim
end

section
/-! PROFILE_LOAD, PROFILE_UNLOAD, BIND and DECLINE (R69, R70, R72, R75 to R77): what refuses each, what each writes, and that a
tag nobody waits on wakes nobody. -/

namespace Sys2Proof.Claim

open Sys2Proof.Machine

variable {s t u : State} {c d : Channel} {g : Word16} {n : Fin 12}

/-! ### What a host answer writes before the wake (R70, R75, R76) -/

/-- `u` is `s` in which a request has written the store, the running fields of the module table and its reply, and nothing
else. -/
structure Written (s u : State) : Prop where
  only : u = { s with store := u.store, table := u.table, link := u.link }
  configured : ∀ i, (u.entry i).configured = (s.entry i).configured

namespace Written

theorem slot (h : Written s u) (c : Channel) : u.slot c = s.slot c := by rw [h.only]; rfl

theorem share (h : Written s u) : u.share = s.share := by rw [h.only]

theorem sweep (h : Written s u) : u.sweep = s.sweep := by rw [h.only]

theorem settings (h : Written s u) : u.settings = s.settings := by rw [h.only]

theorem setting (h : Written s u) (x : SettingId) : u.setting x = s.setting x := by
  rw [State.setting, State.setting, h.settings]

theorem settled (h : Written s u) (hs : Settled s) : Settled u :=
  hs.of_same h.slot (State.workList_congr (congrArg Sweep.lists h.sweep)) (congrArg Sweep.state h.sweep) h.share
    (h.setting _)

end Written

/-! ### Nobody woken (R82) -/

theorem waitsOn_iff {x : Slot} : waitsOn x g ↔ x.waitsOnReferral = true ∧ x.tag = some g := by
  simp only [waitsOn, Slot.waitsOnReferral, Bool.or_eq_true, Bool.and_eq_true, beq_iff_eq]

theorem wakeSlot_of_not_waits (h : ¬ waitsOn (s.slot c) g) : s.wakeSlot c g = s := by
  have hw : ¬ ((s.slot c).waitsOnReferral && (s.slot c).tag == some g) = true := by
    rwa [Bool.and_eq_true, beq_iff_eq, ← waitsOn_iff]
  exact if_neg hw

/-- With no slot waiting on the tag, a host answer leaves what it has written, and nothing is left to settle. -/
theorem wakeWaiting_of_none (hu : Written s u) (hs : Settled s) (h : ¬ waitedFor s g) :
    (u.wakeWaiting g).closeStep = u := by
  have hone : ∀ d, u.wakeSlot d g = u := fun d =>
    wakeSlot_of_not_waits fun hw => h ⟨d, waitsOn_iff.mp (hu.slot d ▸ hw)⟩
  have hall : u.wakeWaiting g = u := by
    simp only [State.wakeWaiting, allChannels, List.foldl_cons, List.foldl_nil, hone]
  rw [hall, closeStep_settled (hu.settled hs)]

/-! ### PROFILE_LOAD (R69, R70) -/

theorem profileInUse_iff : s.profileInUse (.loaded n) = true ↔ loadedInUse s n := by
  simp only [State.profileInUse, State.slotUses, loadedInUse, List.any_eq_true, mem_allChannels, true_and,
    Bool.and_eq_true, decide_eq_true_eq, beq_iff_eq]

theorem configured_released (s : State) (n : Fin 12) (i : ModuleIndex) :
    ((released s n).entry i).configured = (s.entry i).configured := by
  simp only [released, State.entry, Fin.getElem_fin, Vector.getElem_map]
  split
  · split <;> rfl
  · rfl

theorem written_profileLoaded (s : State) (f : HostFrame) (n : Fin 12) (p : Profile) : Written s (profileLoaded s f n p) := by
  have heq := profileLoaded_eq s f n p
  generalize profileLoaded s f n p = u at heq
  have htable : u.table = (if (s.store.loaded[n]).isSome then released s n else s).table := (congrArg State.table heq :)
  refine ⟨?_, fun i => ?_⟩
  · rw [heq]
  · rw [State.entry_congr htable]
    split
    · exact configured_released s n i
    · rfl

theorem loadProfile_withLink (s : State) (l : Link) (n : Fin 12) (p : Profile) :
    (s.withLink l).loadProfile n p = (s.loadProfile n p).withLink l := by
  by_cases h : (s.store.loaded[n]).isSome = true
  · rw [loadProfile_occupied (s := s.withLink l) p h, loadProfile_occupied p h]
    rfl
  · rw [loadProfile_empty (s := s.withLink l) p h, loadProfile_empty p h]
    rfl

theorem profileLoadFillsTheSlot : ProfileLoadFillsTheSlot := by
  intro s payload hr
  refine ⟨fun hbad => congrArg _ (takeRequest_reply hr _ _ 0x06 .badForm [] ?_), fun n p hp =>
    ⟨fun huse => congrArg _ (takeRequest_reply hr _ _ 0x06 .busy [] ?_), fun hfree hwait hs => ?_⟩⟩
  · unfold State.handleProfileLoad
    rw [hbad]
  · unfold State.handleProfileLoad
    rw [hp]
    exact if_pos (profileInUse_iff.mpr huse)
  · have hlink : (s.loadProfile n p).link = s.link := by
      unfold State.loadProfile
      dsimp only
      split <;> rfl
    have hx := takeRequest_answered (t := s.loadProfile n p) (f := ⟨0x06, payload⟩) (k := 0x06) (st := .done)
      (bs := byte n.val :: s.releaseCounts n) hr hlink (carry := State.handleProfileLoad payload) (by
        rw [handleProfileLoad_eq hp hfree, wakeWaiting_of_none (written_profileLoaded s _ n p) hs hwait, profileLoaded,
          loadProfile_withLink, hlink])
    refine congrArg Host.Outcome.next (hx.trans ?_)
    rw [releaseCounts_eq]
    by_cases ho : (s.store.loaded[n]).isSome = true
    · rw [if_pos ho, if_pos ho, loadProfile_occupied p ho]
      rfl
    · rw [if_neg ho, if_neg ho, loadProfile_empty p ho]
      rfl

/-! ### PROFILE_UNLOAD (R72) -/

/-- PROFILE_UNLOAD of a loaded slot, check by check (R72). -/
theorem handleProfileUnload_loaded (s : State) (n : Fin 12) :
    s.handleProfileUnload [byte (16 + n.val)] =
      if (s.store.loaded[n]).isNone then s.reply 0x08 .absent
      else if s.profileInUse (.loaded n) then s.reply 0x08 .busy
      else (s.releaseLoaded n).reply 0x08 .done (s.releaseCounts n) := by
  unfold State.handleProfileUnload
  dsimp only
  rw [show ProfileRef.ofCode (byte (16 + n.val)) = some (.loaded n) from profileRef_ofCode_code (.loaded n)]

theorem handleProfileUnload_badForm {b : Byte} (h : ¬ (16 ≤ b.toNat ∧ b.toNat < 28)) (s : State) :
    s.handleProfileUnload [b] = s.reply 0x08 .badForm := by
  unfold State.handleProfileUnload
  dsimp only
  by_cases hrom : b.toNat < 12
  · rw [show ProfileRef.ofCode b = some (.rom ⟨b.toNat, hrom⟩) from dif_pos hrom]
  · rw [profileRef_ofCode_of_none (Nat.not_lt.mp hrom) h]

theorem releaseLoaded_eq (s : State) (n : Fin 12) :
    s.releaseLoaded n =
      { released s n with store := { (released s n).store with loaded := s.store.loaded.set n none } } := by
  unfold State.releaseLoaded
  rw [table_released]
  rfl

theorem profileUnloadReleases : ProfileUnloadReleases := by
  intro s hr
  refine ⟨fun b hb => congrArg _ (takeRequest_reply hr _ _ 0x08 .badForm [] (handleProfileUnload_badForm hb _)),
    fun n => ⟨fun hempty => congrArg _ (takeRequest_reply hr _ _ 0x08 .absent [] ?_),
      fun hfull huse => congrArg _ (takeRequest_reply hr _ _ 0x08 .busy [] ?_), fun hfull hfree => ?_⟩⟩
  all_goals have hload : ∀ l, (s.withLink l).store.loaded[n] = s.store.loaded[n] := fun _ => rfl
  · rw [handleProfileUnload_loaded, hload, hempty]
    rfl
  · rw [handleProfileUnload_loaded, hload, if_neg (by simpa using hfull)]
    exact if_pos (profileInUse_iff.mpr huse)
  · refine congrArg _ ((takeRequest_answered (t := s.releaseLoaded n) (k := 0x08) (st := .done) (bs := s.releaseCounts n)
      hr rfl ?_).trans ?_)
    · rw [handleProfileUnload_loaded, hload, if_neg (by simpa using hfull)]
      exact if_neg (mt profileInUse_iff.mp hfree)
    · rw [releaseCounts_eq, if_pos (by simpa [Option.isSome_iff_ne_none] using hfull), releaseLoaded_eq]
      rfl

/-- Settles O10: each request is refused at the first of its checks that fails, and otherwise writes its slot. -/
theorem loadedSlotsAreFilledAndReleased : Obligations.LoadedSlotsAreFilledAndReleased :=
  ⟨profileLoadFillsTheSlot, profileUnloadReleases⟩

end Sys2Proof.Claim
end

section
/-! BIND and DECLINE (R75 to R77): what refuses each, and the one binding that they write or remove. -/

namespace Sys2Proof.Claim

open Sys2Proof.Machine

variable {s t u : State} {c d : Channel} {g h : Word16}

/-! ### The other tags' bindings (R74) -/

theorem find_insertBinding_other {b : Binding} (hb : h ≠ b.tag) (bs : List Binding) :
    (insertBinding b bs).find? (fun x => x.tag == h) = bs.find? (fun x => x.tag == h) := by
  have hskip : (b.tag == h) = false := beq_eq_false_iff_ne.mpr hb.symm
  induction bs with
  | nil => simp [insertBinding, hskip]
  | cons x xs ih =>
    unfold insertBinding
    split
    · rw [List.find?_cons, hskip]
    · split
      · next heq => rw [List.find?_cons, List.find?_cons, hskip, ← heq, hskip]
      · rw [List.find?_cons, List.find?_cons, ih]

theorem find_removeBinding_other (hg : h ≠ g) (bs : List Binding) :
    (removeBinding g bs).find? (fun x => x.tag == h) = bs.find? (fun x => x.tag == h) := by
  rw [removeBinding, List.find?_filter]
  refine congrArg (fun p => bs.find? p) (funext fun x => ?_)
  by_cases hx : x.tag = h
  · simp [hx, hg]
  · simp [hx]

/-- The list that a BIND of a tag leaves: its binding to the reference, or none (R75). -/
def boundList (bs : List Binding) (g : Word16) (b : Byte) : List Binding :=
  match ProfileRef.ofCode b with
  | some ref => insertBinding ⟨g, .profile ref⟩ bs
  | none => removeBinding g bs

theorem find_boundList (bs : List Binding) (g : Word16) (b : Byte) :
    (boundList bs g b).find? (fun x => x.tag == g) = (ProfileRef.ofCode b).map (fun ref => ⟨g, .profile ref⟩) := by
  unfold boundList
  cases ProfileRef.ofCode b with
  | some ref => exact find_insertBinding ⟨g, .profile ref⟩ bs
  | none => exact find_removeBinding g bs

theorem find_boundList_other (hg : h ≠ g) (bs : List Binding) (b : Byte) :
    (boundList bs g b).find? (fun x => x.tag == h) = bs.find? (fun x => x.tag == h) := by
  unfold boundList
  split
  · exact find_insertBinding_other hg bs
  · exact find_removeBinding_other hg bs

/-! ### A decline lifted (R77) -/

theorem declines_iff {st : Store} : st.declines g = true ↔ st.binding g = some ⟨g, .decline⟩ := by
  unfold Store.declines
  cases hb : st.binding g with
  | none => simp
  | some b =>
    have htag : b.tag = g := by simpa using List.find?_some hb
    obtain ⟨tag, target⟩ := b
    simp_all

theorem declinedWith_eq (g : Word16) (r : Resolution) : r.declinedWith g = (r == .declined g) := by
  cases r <;> simp [Resolution.declinedWith]

/-- The entries that a lifted decline releases, as the statements say it (R77). -/
theorem table_lifted (s : State) (g : Word16) :
    (if s.store.declines g then unresolveWhere (Resolution.declinedWith g) s.table else s.table) = liftedTable s g := by
  unfold liftedTable unresolveWhere
  simp only [declines_iff, declinedWith_eq, beq_iff_eq]

theorem count_lifted (s : State) (g : Word16) :
    (if s.store.declines g then countResolution (Resolution.declinedWith g) s.table else 0) = liftedCount s g := by
  unfold liftedCount countResolution
  simp only [declines_iff, declinedWith_eq]

/-- A BIND carried out but for its reply: the list, and the decline lifted (R75, R77). -/
def bindDone (s : State) (g : Word16) (bs : List Binding) : State :=
  { s with store := { s.store with bindings := bs }, table := liftedTable s g }

theorem finishBind_eq (s : State) (g : Word16) (bs : List Binding) :
    s.finishBind g bs =
      (((bindDone s g bs).reply 0x09 .done [byte bs.length, byte (liftedCount s g)]).wakeWaiting g).closeStep := by
  unfold State.finishBind bindDone
  dsimp only
  rw [← count_lifted, ← table_lifted]
  split <;> rfl

theorem configured_lifted (s : State) (g : Word16) (bs : List Binding) (i : ModuleIndex) :
    ((bindDone s g bs).entry i).configured = (s.entry i).configured := by
  unfold bindDone liftedTable
  split
  · simp only [State.entry, Fin.getElem_fin, Vector.getElem_map]
    split <;> rfl
  · rfl

/-! ### BIND (R75) -/

/-- What lets a BIND of a legal tag be carried out: a binding to remove, or a profile to bind and room for it (R75). -/
def bindFits (s : State) (g : Word16) (b : Byte) : Prop :=
  b = 0xFF ∧ s.store.binding g ≠ none
    ∨ ∃ ref, b ≠ 0xFF ∧ ProfileRef.ofCode b = some ref ∧ s.store.profile ref ≠ none
        ∧ (s.store.binding g ≠ none ∨ s.store.bindings.length < 16)

theorem roomFor_iff {st : Store} : st.roomFor g = true ↔ st.binding g ≠ none ∨ st.bindings.length < 16 := by
  simp [Store.roomFor, Option.isSome_iff_ne_none]

/-- BIND of a legal tag, check by check (R75). -/
theorem handleBind_legal {t1 t0 : Byte} (h0 : beWord16 t1 t0 ≠ 0) (hf : beWord16 t1 t0 ≠ 0xFFFF) (b : Byte) (s : State) :
    s.handleBind [t1, t0, b] =
      if b = 0xFF then s.bindNone (beWord16 t1 t0)
      else
        match ProfileRef.ofCode b with
        | none => s.reply 0x09 .badForm
        | some ref => s.bindTo (beWord16 t1 t0) ref := by
  have htag : (!tagOk (beWord16 t1 t0)) = false := by rw [KeepsLegal.tagOk_iff.mpr ⟨h0, hf⟩]; rfl
  unfold State.handleBind
  dsimp only
  rw [htag]
  rfl

theorem handleBind_illegal {t1 t0 : Byte} (h : beWord16 t1 t0 = 0 ∨ beWord16 t1 t0 = 0xFFFF) (b : Byte) (s : State) :
    s.handleBind [t1, t0, b] = s.reply 0x09 .badForm := by
  have htag : (!tagOk (beWord16 t1 t0)) = true := by
    rw [Bool.not_eq_true', Bool.eq_false_iff, Ne, KeepsLegal.tagOk_iff]
    tauto
  exact if_pos htag

theorem handleBind_fits {t1 t0 b : Byte} (h0 : beWord16 t1 t0 ≠ 0) (hf : beWord16 t1 t0 ≠ 0xFFFF)
    (hfits : bindFits s (beWord16 t1 t0) b) :
    s.handleBind [t1, t0, b] = s.finishBind (beWord16 t1 t0) (boundList s.store.bindings (beWord16 t1 t0) b) := by
  rw [handleBind_legal h0 hf]
  rcases hfits with ⟨rfl, hbound⟩ | ⟨ref, hne, href, hprof, hroom⟩
  · obtain ⟨x, hx⟩ := Option.ne_none_iff_exists'.mp hbound
    rw [if_pos rfl, State.bindNone, hx]
    rfl
  · rw [if_neg hne, boundList, href]
    exact (if_neg (by simpa using hprof)).trans (if_pos (roomFor_iff.mpr hroom))

theorem bindRefusals : BindRefusals := by
  intro s t1 t0 b hr
  refine ⟨fun hbad => congrArg _ (takeRequest_reply hr _ _ 0x09 .badForm [] ?_),
    fun h0 hf hb hnone => congrArg _ (takeRequest_reply hr _ _ 0x09 .absent [] ?_),
    fun h0 hf hb ref href => ⟨fun hempty => congrArg _ (takeRequest_reply hr _ _ 0x09 .absent [] ?_),
      fun hprof hnone hfull => congrArg _ (takeRequest_reply hr _ _ 0x09 .noRoom [] ?_)⟩⟩
  all_goals
    generalize hu : s.withLink { s.link with inService := some ⟨0x09, [t1, t0, b]⟩ } = u
    have hstore : u.store = s.store := hu ▸ rfl
  · by_cases htag : beWord16 t1 t0 = 0 ∨ beWord16 t1 t0 = 0xFFFF
    · exact handleBind_illegal htag b u
    · obtain ⟨h0, hf⟩ := not_or.mp htag
      obtain ⟨hb, href⟩ : b ≠ 0xFF ∧ ProfileRef.ofCode b = none := by tauto
      rw [handleBind_legal h0 hf, if_neg hb, href]
  · rw [handleBind_legal h0 hf, if_pos hb, State.bindNone, hstore, hnone]
  · rw [handleBind_legal h0 hf, if_neg hb, href]
    exact if_pos (by simpa [hstore] using hempty)
  · rw [handleBind_legal h0 hf, if_neg hb, href]
    refine (if_neg (by simpa [hstore] using hprof)).trans (if_neg ?_)
    rw [roomFor_iff, hstore]
    exact not_or.mpr ⟨not_not_intro hnone, Nat.not_lt.mpr hfull⟩

/-- The state of a BIND before the wake (R75). -/
def bindWritten (s : State) (f : HostFrame) (g : Word16) (bs : List Binding) : State :=
  (bindDone (s.withLink { s.link with inService := some f }) g bs).reply 0x09 .done
    [byte bs.length, byte (liftedCount s g)]

theorem written_bindWritten (s : State) (f : HostFrame) (g : Word16) (bs : List Binding) :
    Written s (bindWritten s f g bs) := ⟨rfl, configured_lifted _ g bs⟩

/-- A BIND that fits is carried out whole (R75, R82). -/
theorem exec_bind {t1 t0 b : Byte} (hr : Ready s) (h0 : beWord16 t1 t0 ≠ 0) (hf : beWord16 t1 t0 ≠ 0xFFFF)
    (hfits : bindFits s (beWord16 t1 t0) b) :
    exec (.bind [t1, t0, b]) s = .next (served ((bindWritten s ⟨0x09, [t1, t0, b]⟩ (beWord16 t1 t0)
      (boundList s.store.bindings (beWord16 t1 t0) b)).wakeWaiting (beWord16 t1 t0)).closeStep) := by
  have hx := handleBind_fits (s := s.withLink { s.link with inService := some ⟨0x09, [t1, t0, b]⟩ }) h0 hf hfits
  exact congrArg Host.Outcome.next (exec_served hr (hx.trans (finishBind_eq _ _ _)))

/-- A reply written with the request in service, and the request given back. -/
theorem served_reply (hr : Ready s) (ht : t.link = s.link) (f : HostFrame) (k : Byte) (st : Status) (bs : List Byte) :
    served ((t.withLink { t.link with inService := some f }).reply k st bs) = answered t (replyKind k) st bs := by
  have ⟨_, hservice, _⟩ := hr
  have hnone : { t.link with inService := none } = t.link := by rw [← show t.link.inService = none from ht ▸ hservice]
  exact congrArg (fun l : Link =>
    { t with link := { l with outbound := t.link.outbound ++ [OutFrame.reply (replyKind k) st bs] } }) hnone

theorem bindChangesOneBinding : BindChangesOneBinding := by
  intro s t1 t0 b hr hs g h0 hf hwait hfits
  refine ⟨boundList s.store.bindings g b, ?_, find_boundList _ g b, fun u hu => find_boundList_other hu _ b⟩
  rw [exec_bind hr h0 hf hfits, wakeWaiting_of_none (written_bindWritten s _ g _) hs hwait]
  exact congrArg Host.Outcome.next (served_reply (t := bindDone s g _) hr rfl _ 0x09 _ _)

/-! ### DECLINE (R76) -/

theorem written_declineBound (s : State) (f : HostFrame) (g : Word16) : Written s (declineBound s f g) :=
  ⟨rfl, fun _ => rfl⟩

theorem exec_decline {t1 t0 : Byte} (hr : Ready s) (h0 : beWord16 t1 t0 ≠ 0) (hf : beWord16 t1 t0 ≠ 0xFFFF)
    (hroom : s.store.binding (beWord16 t1 t0) ≠ none ∨ s.store.bindings.length < 16) :
    exec (.decline [t1, t0]) s = .next (served
      ((declineBound s ⟨0x0A, [t1, t0]⟩ (beWord16 t1 t0)).wakeWaiting (beWord16 t1 t0)).closeStep) :=
  congrArg Host.Outcome.next (exec_served hr (handleDecline_eq h0 hf hroom))

theorem declineBindsTheTag : DeclineBindsTheTag := by
  intro s t1 t0 hr hs
  refine ⟨fun hbad => congrArg _ (takeRequest_reply hr _ _ 0x0A .badForm [] ?_),
    fun h0 hf hnone hfull => congrArg _ (takeRequest_reply hr _ _ 0x0A .noRoom [] ?_),
    fun h0 hf hroom hwait => ⟨_, ?_, find_insertBinding ⟨beWord16 t1 t0, .decline⟩ s.store.bindings,
      fun u hu => find_insertBinding_other hu _⟩⟩
  · refine if_pos ?_
    rw [Bool.not_eq_true', Bool.eq_false_iff, Ne, KeepsLegal.tagOk_iff]
    tauto
  · have hroom : ¬ s.store.roomFor (beWord16 t1 t0) = true := by
      rw [roomFor_iff]
      exact not_or.mpr ⟨not_not_intro hnone, Nat.not_lt.mpr hfull⟩
    unfold State.handleDecline
    dsimp only
    rw [KeepsLegal.tagOk_iff.mpr ⟨h0, hf⟩]
    exact if_neg hroom
  · rw [exec_decline hr h0 hf hroom, wakeWaiting_of_none (written_declineBound s _ _) hs hwait]
    exact congrArg Host.Outcome.next (served_reply
      (t := s.withBindings (insertBinding ⟨beWord16 t1 t0, .decline⟩ s.store.bindings)) hr rfl _ 0x0A _ _)

/-- Settles O11: each request is refused at the first of its checks that fails, and otherwise writes one binding. -/
theorem bindAndDeclineChangeOneBinding : Obligations.BindAndDeclineChangeOneBinding :=
  ⟨bindRefusals, bindChangesOneBinding, declineBindsTheTag⟩

end Sys2Proof.Claim
end

section
/-! The wake of the slots that wait on a tag, slot by slot (R34, R47, R82): what the wake of one slot leaves of the others and
of the module table, and what it does to its own. -/

namespace Sys2Proof.Claim

open Sys2Proof.Machine

variable {s t u v : State} {c d : Channel} {i : ModuleIndex} {g : Word16} {p q : Channel → Prop} {x : Resolution}
  {o : SweepOutcome} {a : Target} {ref : ProfileRef}

/-! ### What the wake of slots can do -/

/-- An entry's last outcome and the sweep it is of (R8). -/
def turn (s : State) (i : ModuleIndex) : Option SweepOutcome × Word16 :=
  ((s.entry i).lastOutcome, (s.entry i).lastSweep)

/-- `t` is `s` after slots have been woken, none of them on a channel that `p` names: an entry whose resolution has changed has
the resolution `x`, and one whose outcome has changed has the outcome `o` in this sweep (R34, R82). -/
structure Woken (p : Channel → Prop) (x : Resolution) (o : SweepOutcome) (s t : State) : Prop where
  same : ∀ c, p c → SameAt c s t
  share : t.share = s.share
  state : t.sweep.state = s.sweep.state
  number : t.sweep.number = s.sweep.number
  history : t.history = s.history
  works : s.Works t
  resolution : ∀ i, (t.entry i).resolution = (s.entry i).resolution ∨ (t.entry i).resolution = x
  outcome : ∀ i, turn t i = turn s i ∨ turn t i = (some o, s.sweep.number)

theorem works_of_framesOnly (h : s.FramesOnly t) : s.Works t := by
  obtain ⟨_, _, _, rfl⟩ := h
  exact { State.Works.refl s with }

namespace Woken

theorem refl (p : Channel → Prop) (x : Resolution) (o : SweepOutcome) (s : State) : Woken p x o s s :=
  ⟨fun c _ => .refl c s, rfl, rfl, rfl, rfl, .refl s, fun _ => .inl rfl, fun _ => .inl rfl⟩

theorem trans (h : Woken p x o s t) (k : Woken p x o t u) : Woken p x o s u where
  same c hc := (h.same c hc).trans (k.same c hc)
  share := k.share.trans h.share
  state := k.state.trans h.state
  number := k.number.trans h.number
  history := k.history.trans h.history
  works := h.works.trans k.works
  resolution i := by
    rcases k.resolution i with hk | hk
    · rw [hk]
      exact h.resolution i
    · exact .inr hk
  outcome i := by
    rcases k.outcome i with hk | hk
    · rw [hk]
      exact h.outcome i
    · exact .inr (hk.trans (by rw [h.number]))

theorem mono (h : Woken p x o s t) (hq : ∀ c, q c → p c) : Woken q x o s t :=
  { h with same := fun c hc => h.same c (hq c hc) }

/-- What changes neither the table, the sweep's state and number, the history nor the share unit. -/
theorem of_works (hw : s.Works t) (hsame : ∀ c, p c → SameAt c s t) (hshare : t.share = s.share)
    (hstate : t.sweep.state = s.sweep.state) (hnum : t.sweep.number = s.sweep.number) (hhist : t.history = s.history)
    (htable : t.table = s.table) : Woken p x o s t where
  same := hsame
  share := hshare
  state := hstate
  number := hnum
  history := hhist
  works := hw
  resolution i := .inl (by rw [State.entry_congr htable])
  outcome i := .inl (by rw [turn, State.entry_congr htable, turn])

theorem of_framesOf (h : State.FramesOf d s t) : Woken (· ≠ d) x o s t :=
  of_works (works_of_framesOnly h.only) (fun _ hc => .of_framesOf h hc) h.only.share (congrArg Sweep.state h.only.sweep)
    (congrArg Sweep.number h.only.sweep) h.only.history h.only.table

theorem withSlot (s : State) (d : Channel) (y : Slot) : Woken (· ≠ d) x o s (s.withSlot d y) :=
  of_works ((State.Works.refl s).withSlot d y)
    (fun _ hc => ⟨State.slot_withSlot_other s hc y, rfl, fun _ _ => rfl, fun _ => rfl⟩) rfl rfl rfl rfl rfl

theorem freeSlot (s : State) (d : Channel) : Woken (· ≠ d) x o s (s.freeSlot d) :=
  (withSlot s d {}).trans (of_framesOf (.freeSlot s d))

theorem park (s : State) (d : Channel) (r : ResumePoint) : Woken (· ≠ d) x o s (s.park d r) :=
  (withSlot s d _).trans (of_framesOf (.stopListening _ d))

theorem weighAppend (s : State) (i : ModuleIndex) : Woken p x o s (s.weighAppend i) := by
  have hw := (State.Works.refl s).weighAppend i
  unfold State.weighAppend at hw ⊢
  split
  · next h =>
    rw [if_pos h] at hw
    exact of_works hw (fun _ _ => ⟨rfl, rfl, fun _ _ => rfl, fun _ => rfl⟩) rfl rfl rfl rfl rfl
  · exact refl p x o s

theorem entry_withEntry_ne {j : ModuleIndex} (hj : j ≠ i) (e : Entry) : (s.withEntry i e).entry j = s.entry j :=
  State.entry_withEntry_other s (Ne.symm hj) e

theorem resolve (s : State) (d : Channel) : Woken p x o s (s.resolve d x) := by
  have hw := (State.Works.refl s).resolve d x
  unfold State.resolve at hw ⊢
  split
  · next i hm =>
    rw [hm] at hw
    refine ⟨fun _ _ => ⟨rfl, rfl, fun _ _ => rfl, fun _ => rfl⟩, rfl, rfl, rfl, rfl, hw, fun j => ?_, fun j => .inl ?_⟩
    all_goals by_cases hj : j = i
    · subst hj
      exact .inr (by rw [State.entry_withEntry])
    · exact .inl (by rw [entry_withEntry_ne hj])
    · subst hj
      rw [turn, State.entry_withEntry, turn]
    · rw [turn, entry_withEntry_ne hj, turn]
  · exact refl p x o s

theorem recordOutcome (s : State) (i : ModuleIndex) (pages refused : Nat) :
    Woken p x o s (s.recordOutcome i o pages refused) := by
  have hother : ∀ j, j ≠ i → (s.recordOutcome i o pages refused).entry j = s.entry j := fun j hj =>
    entry_withEntry_ne hj { s.entry i with lastOutcome := some o, lastSweep := s.sweep.number }
  have hself : (s.recordOutcome i o pages refused).entry i =
      { s.entry i with lastOutcome := some o, lastSweep := s.sweep.number } := State.entry_withEntry _ _ _
  refine ⟨fun _ _ => ⟨rfl, rfl, fun _ _ => rfl, fun _ => rfl⟩, rfl, rfl, rfl, rfl,
    (State.Works.refl s).recordOutcome i o pages refused, fun j => .inl ?_, fun j => ?_⟩
  all_goals by_cases hj : j = i
  · subst hj
    rw [hself]
  · rw [hother j hj]
  · subst hj
    exact .inr (by rw [turn, hself])
  · exact .inl (by rw [turn, hother j hj, turn])

/-- The end of a dialog reaches its own channel and its module's outcome (R8, R44). -/
theorem endDialog (s : State) (d : Channel) : Woken (· ≠ d) x o s (s.endDialog d o) := by
  rw [State.endDialog_eq]
  refine (of_framesOf (s.leaveFrames_frames d)).trans ?_
  generalize s.leaveFrames d = u
  unfold State.passOutcome
  dsimp only
  split
  · exact freeSlot u d
  · next i _ =>
    have hfree : Woken (· ≠ d) x o u ((u.recordOutcome i o (u.slot d).pagesRead (u.slot d).refused).freeSlot d) :=
      (recordOutcome u i _ _).trans (freeSlot _ d)
    split
    · exact hfree.trans (weighAppend _ i)
    · exact hfree

/-- A profile found reaches its own channel: page 0 asked, the slot parked, or its dialog ABORTED under a halt (R14, R32). -/
theorem settleFound (s : State) (d : Channel) (ref : ProfileRef) : Woken (· ≠ d) x .aborted s (s.settleFound d ref) := by
  unfold State.settleFound
  refine (withSlot s d { s.slot d with profile := some ref, referral := none }).trans ?_
  generalize s.withSlot d { s.slot d with profile := some ref, referral := none } = u
  unfold State.enterPage
  dsimp only
  refine (withSlot u d { u.slot d with page := 0 }).trans ?_
  generalize u.withSlot d { u.slot d with page := 0 } = v
  split
  · exact endDialog v d
  · split
    · exact park v d _
    · exact (withSlot v d _).trans (of_framesOf (.hand _ d _ _))

end Woken

/-! ### The wake of one slot -/

/-- What a lookup's answer makes of the entry that waits for it (R34). -/
def foundResolution (g : Word16) : Target → Resolution
  | .profile ref => .resolved ref g
  | .decline => .declined g

/-- The outcome of a dialog that a lookup's answer ends: UNSUPPORTED by a decline; a profile ends it under a halt alone, ABORTED
(R14, R34). -/
def foundOutcome : Target → SweepOutcome
  | .profile _ => .aborted
  | .decline => .unsupported

/-- A waiting slot whose lookup finds a profile (R34, R47). -/
theorem wakeSlot_of_profile (hw : waitsOn (s.slot c) g) (hl : s.store.lookup g = some (.profile ref)) :
    s.wakeSlot c g =
      if (s.slot c).state = .parked then
        (s.resolve c (.resolved ref g)).withSlot c
          { s.slot c with profile := some ref, referral := none, resume := .page, page := 0 }
      else (s.resolve c (.resolved ref g)).settleFound c ref := by
  obtain ⟨hwait, htag⟩ := waitsOn_iff.mp hw
  unfold State.wakeSlot
  dsimp only
  rw [hwait, htag, hl]
  exact if_pos (by simp)

/-- A waiting slot whose lookup finds something has its entry's resolution written first (R34). -/
theorem woken_of_resolve (hw : waitsOn (s.slot d) g) (hl : s.store.lookup g = some a) :
    Woken (· ≠ d) x (foundOutcome a) (s.resolve d (foundResolution g a)) (s.wakeSlot d g) := by
  cases a with
  | profile ref =>
    rw [wakeSlot_of_profile hw hl]
    split
    · exact .withSlot _ d _
    · exact .settleFound _ d ref
  | decline =>
    rw [wakeSlot_of_decline hw hl]
    exact .endDialog _ d

theorem Woken.wakeSlot (s : State) (d : Channel) (hl : s.store.lookup g = some a) :
    Woken (· ≠ d) (foundResolution g a) (foundOutcome a) s (s.wakeSlot d g) := by
  by_cases hw : waitsOn (s.slot d) g
  · exact (Woken.resolve s d).trans (woken_of_resolve hw hl)
  · rw [wakeSlot_of_not_waits hw]
    exact .refl _ _ _ s

/-- The entry of a slot woken has the resolution that the lookup gives it (R34). -/
theorem resolution_wakeSlot (hw : waitsOn (s.slot c) g) (hm : (s.slot c).module = some i)
    (hl : s.store.lookup g = some a) : ((s.wakeSlot c g).entry i).resolution = foundResolution g a := by
  have hres : ((s.resolve c (foundResolution g a)).entry i).resolution = foundResolution g a := by
    rw [State.resolve_eq hm, State.entry_withEntry]
  rcases (woken_of_resolve (x := foundResolution g a) hw hl).resolution i with h | h
  · exact h.trans hres
  · exact h

/-- A slot that waits in REFERRED on an OPEN channel, with no halt taken, asks page 0 with the profile found (R34). -/
theorem wakeSlot_asks (hw : waitsOn (s.slot c) g) (hm : (s.slot c).module = some i)
    (hl : s.store.lookup g = some (.profile ref)) (hst : (s.slot c).state = .referred) (ho : s.shareState c = .opened)
    (hh : s.sweep.state ≠ .halting) :
    (s.wakeSlot c g).slot c = askingSlot s c { s.slot c with profile := some ref, referral := none } 0
      ∧ (nothingWaits s c → holds s (s.wakeSlot c g) c (s.entry i) (.askPage 0)) := by
  have hu : EndsFrom s c i (endOf s c .complete) (s.resolve c (.resolved ref g)) := (EndsFrom.refl hm .complete).resolve _
  have hslot : (s.resolve c (.resolved ref g)).slot c = s.slot c := by rw [State.resolve_eq hm]; rfl
  have hasked := hu.withContext (x := askingSlot s c { s.slot c with profile := some ref, referral := none } 0)
    (congrArg Slot.module hslot).symm (congrArg Slot.pagesRead hslot).symm (congrArg Slot.refused hslot).symm
  have hx := hu.settleFound_eq hh ((State.Works.refl s).resolve c _) (congrArg Slot.keepAwake hslot) ref
  rw [if_neg (not_yieldPending_of_opened ho), hslot] at hx
  rw [wakeSlot_of_profile hw hl, if_neg (by rw [hst]; exact nofun), hx]
  exact ⟨(State.slot_congr (State.FramesOnly.hand _ c _ _).slots c).trans (State.slot_withSlot _ c _),
    fun hn => hasked.holds_hand hn _ none⟩

/-- A slot that waits on a tag declined is FREE: its module is UNSUPPORTED, with BYE on an OPEN channel (R34, R44). -/
theorem wakeSlot_declined (hw : waitsOn (s.slot c) g) (hm : (s.slot c).module = some i)
    (hl : s.store.lookup g = some .decline) :
    (s.wakeSlot c g).slot c = {} ∧ turn (s.wakeSlot c g) i = (some .unsupported, s.sweep.number)
      ∧ (s.shareState c = .opened → nothingWaits s c → holds s (s.wakeSlot c g) c (s.entry i) .bye none false) := by
  have hover : DialogOver s c i (endOf s c .unsupported) ((s.resolve c (.declined g)).endDialog c .unsupported) :=
    ((EndsFrom.refl hm .unsupported).resolve _).over (((State.Works.refl s).resolve c _).endDialog c _)
  obtain ⟨r, hr⟩ := hover.entry
  rw [wakeSlot_of_decline hw hl]
  exact ⟨hover.slot, by rw [turn, hr]; rfl, hover.bye⟩

/-! ### The wake of every slot (R82) -/

/-- Around the wake of one slot the wakes of the others leave its channel alone (R82). -/
theorem wakeWaiting_around (hl : s.store.lookup g = some a) (c : Channel) :
    ∃ u, Woken (· = c) (foundResolution g a) (foundOutcome a) s u
      ∧ Woken (· = c) (foundResolution g a) (foundOutcome a) (u.wakeSlot c g) (s.wakeWaiting g) := by
  have hkeep : ∀ (u : State) (d : Channel), (u.wakeSlot d g).store.lookup g = u.store.lookup g := fun u d => by
    rw [((State.Works.refl u).wakeSlot d g).store]
  have hla := (hkeep s .a).trans hl
  have hlb := (hkeep (s.wakeSlot .a g) .b).trans hla
  have beside : ∀ (d : Channel) {y : State}, c ≠ d → y.store.lookup g = some a →
      Woken (· = c) (foundResolution g a) (foundOutcome a) y (y.wakeSlot d g) := fun d _ hd hy =>
    (Woken.wakeSlot _ d hy).mono fun _ hx => hx ▸ hd
  cases c
  case a => exact ⟨s, .refl _ _ _ s, (beside .b nofun hla).trans (beside .s nofun hlb)⟩
  case b => exact ⟨s.wakeSlot .a g, beside .a nofun hl, beside .s nofun hlb⟩
  case s => exact ⟨(s.wakeSlot .a g).wakeSlot .b g, (beside .a nofun hl).trans (beside .b nofun hla), .refl _ _ _ _⟩

/-- A slot that does not wait on the tag stays as it is, whatever is found (R82). -/
theorem slot_wakeWaiting_kept (hl : s.store.lookup g = some a) (hw : ¬ waitsOn (s.slot c) g) :
    (s.wakeWaiting g).slot c = s.slot c := by
  obtain ⟨u, hu, ht⟩ := wakeWaiting_around hl c
  have hslot := (hu.same c rfl).slot
  have hkept := (ht.same c rfl).slot
  rwa [wakeSlot_of_not_waits (by rwa [hslot]), hslot] at hkept

/-- Where nothing is found every slot stays as it is (R82). -/
theorem wakeWaiting_of_nothing (hl : s.store.lookup g = none) : s.wakeWaiting g = s := by
  have hone : ∀ d, s.wakeSlot d g = s := by
    intro d
    unfold State.wakeSlot
    dsimp only
    rw [hl]
    exact ite_self s
  simp only [State.wakeWaiting, allChannels, List.foldl_cons, List.foldl_nil, hone]

theorem resolution_wakeWaiting (hl : s.store.lookup g = some a) (hw : waitsOn (s.slot c) g)
    (hm : (s.slot c).module = some i) : ((s.wakeWaiting g).entry i).resolution = foundResolution g a := by
  obtain ⟨u, hu, ht⟩ := wakeWaiting_around hl c
  have hslot := (hu.same c rfl).slot
  have hres := resolution_wakeSlot (by rwa [hslot]) (by rwa [hslot]) ((congrArg (fun st : Store => st.lookup g)
    hu.works.store).trans hl)
  rcases ht.resolution i with h | h
  · exact h.trans hres
  · exact h

end Sys2Proof.Claim
end

section
/-! The end of the step after the wake, and the host answers carried out (R12, R34, R47, R82, R156): what a channel whose yield
is not at its boundary keeps, and the wake as seen from the state before the request. -/

namespace Sys2Proof.Claim

open Sys2Proof.Machine

variable {s t u v y : State} {c d : Channel} {i : ModuleIndex} {g : Word16} {a : Target} {ref : ProfileRef}

/-! ### Yields at their boundary (R156, R157) -/

/-- `t` is `s` but for the share unit, the notices, and the slot and the frames of one channel. -/
structure Reopens (c : Channel) (s t : State) : Prop where
  same : ∀ d, d ≠ c → SameAt d s t
  only : t = { s with slots := t.slots, toHand := t.toHand, can := t.can, line := t.line, share := t.share, link := t.link }

namespace Reopens

theorem refl (c : Channel) (s : State) : Reopens c s s := ⟨fun d _ => .refl d s, rfl⟩

theorem trans (h : Reopens c s t) (k : Reopens c t u) : Reopens c s u :=
  ⟨fun d hd => (h.same d hd).trans (k.same d hd), by rw [k.only, h.only]⟩

theorem of_framesOf (h : State.FramesOf c s t) : Reopens c s t := by
  refine ⟨fun d hd => .of_framesOf h hd, ?_⟩
  obtain ⟨_, _, _, rfl⟩ := h.only
  rfl

theorem withSlot (s : State) (c : Channel) (x : Slot) : Reopens c s (s.withSlot c x) :=
  ⟨fun _ hd => ⟨State.slot_withSlot_other s hd x, rfl, fun _ _ => rfl, fun _ => rfl⟩, rfl⟩

theorem shared (s : State) (c : Channel) (x : ShareState) (n : Notice) : Reopens c s ((s.withShareState c x).notify n) :=
  ⟨fun _ _ => ⟨rfl, rfl, fun _ _ => rfl, fun _ => rfl⟩, rfl⟩

theorem resumeSlot (s : State) (c : Channel) : Reopens c s (s.resumeSlot c) := by
  unfold State.resumeSlot
  split
  · exact (withSlot s c _).trans (of_framesOf ((State.FramesOf.startListening _ c).trans (.hand _ c _ _)))
  · exact refl c s

theorem reopenIfClear (s : State) (c : Channel) : Reopens c s (s.reopenIfClear c) := by
  unfold State.reopenIfClear
  split
  · exact (shared s c _ _).trans (resumeSlot _ c)
  · exact refl c s

theorem yieldSettle (s : State) (c : Channel) : Reopens c s (s.yieldSettle c) := by
  by_cases h : s.yieldReached c
  · rw [State.yieldSettle_of_reached h]
    exact ((of_framesOf (.letGo s c)).trans (shared _ c _ _)).trans (reopenIfClear _ c)
  · rw [State.yieldSettle_of_not_reached h]
    exact refl c s

end Reopens

/-- `t` is `s` after yields at their boundary have been settled: a channel whose yield is not there stays as it is, a FREE slot
stays FREE (R156). -/
structure YieldsSettled (s t : State) : Prop where
  same : ∀ c, ¬ s.yieldReached c → SameAt c s t ∧ ¬ t.yieldReached c
  free : ∀ c, (s.slot c).state = .free → t.slot c = s.slot c
  table : t.table = s.table
  sweep : t.sweep = s.sweep
  history : t.history = s.history
  settings : t.settings = s.settings

namespace YieldsSettled

theorem refl (s : State) : YieldsSettled s s := ⟨fun c h => ⟨.refl c s, h⟩, fun _ _ => rfl, rfl, rfl, rfl, rfl⟩

theorem trans (h : YieldsSettled s t) (k : YieldsSettled t u) : YieldsSettled s u where
  same c hc := by
    obtain ⟨hst, ht⟩ := h.same c hc
    obtain ⟨htu, hu⟩ := k.same c ht
    exact ⟨hst.trans htu, hu⟩
  free c hc := by
    have ht := h.free c hc
    exact (k.free c (by rwa [ht])).trans ht
  table := k.table.trans h.table
  sweep := k.sweep.trans h.sweep
  history := k.history.trans h.history
  settings := k.settings.trans h.settings

theorem yieldSettle (s : State) (d : Channel) : YieldsSettled s (s.yieldSettle d) where
  same c hc := by
    by_cases hd : c = d
    · subst hd
      rw [State.yieldSettle_of_not_reached hc]
      exact ⟨.refl c s, hc⟩
    · exact ⟨(Reopens.yieldSettle s d).same c hd, (State.yieldReached_yieldSettle_other s hd).not.mpr hc⟩
  free c hc := by
    by_cases hd : c = d
    · subst hd
      exact State.slot_congr (State.YieldOnly.yieldSettle hc).slots c
    · exact (State.yieldSettle_other s hd).2
  table := by rw [(Reopens.yieldSettle s d).only]
  sweep := by rw [(Reopens.yieldSettle s d).only]
  history := by rw [(Reopens.yieldSettle s d).only]
  settings := by rw [(Reopens.yieldSettle s d).only]

theorem foldl (cs : List Channel) : ∀ s, YieldsSettled s (cs.foldl State.yieldSettle s) := by
  induction cs with
  | nil => exact refl
  | cons c cs ih => exact fun s => (yieldSettle s c).trans (ih _)

end YieldsSettled

/-! ### The end of a sweep (R12, R19) -/

theorem SameAt.of_sweepOnly (h : s.SweepOnly t) (c : Channel) : SameAt c s t := by
  obtain ⟨_, _, _, rfl⟩ := h
  exact ⟨rfl, rfl, fun _ _ => rfl, fun _ => rfl⟩

theorem resolution_attentionCheck (s : State) (i : ModuleIndex) :
    (s.attentionCheck.entry i).resolution = (s.entry i).resolution := by
  unfold State.attentionCheck
  split
  · rw [State.startSweep_entry]
    split <;> rfl
  · rfl

theorem resolution_settleSweep (n : Nat) : ∀ (s : State) (i : ModuleIndex),
    ((State.settleSweep n s).entry i).resolution = (s.entry i).resolution := by
  induction n with
  | zero => exact fun _ _ => rfl
  | succ n ih =>
    intro s i
    unfold State.settleSweep
    split
    · split
      · rfl
      · exact (ih _ i).trans (resolution_attentionCheck _ i)
    · rfl

/-! ### The end of a step -/

/-- What the end of a step keeps of the state it settles (R12, R156, R160). -/
structure StepClosed (s t : State) : Prop where
  same : ∀ c, ¬ s.yieldReached c → SameAt c s t
  free : ∀ c, (s.slot c).state = .free → t.slot c = s.slot c
  resolution : ∀ i, (t.entry i).resolution = (s.entry i).resolution
  table : s.setting .autoAttention = 0 → t.table = s.table
  history : t.history = s.history

theorem stepClosed_closeStep (s : State) : StepClosed s s.closeStep := by
  have hy := YieldsSettled.foldl allChannels s
  unfold State.closeStep
  generalize allChannels.foldl State.yieldSettle s = v at hy ⊢
  have hsweep := State.SweepOnly.settleSweep 3 v
  refine ⟨fun c hc => ?_, fun c hc => ?_, fun i => ?_, fun ha => ?_, ?_⟩
  · have hv : SameAt c v (State.settleSweep 3 v).recomputeOutputs :=
      (SameAt.of_sweepOnly hsweep c).trans ⟨rfl, rfl, fun _ _ => rfl, fun _ => rfl⟩
    exact (hy.same c hc).1.trans hv
  · exact (State.slot_congr hsweep.slots c).trans (hy.free c hc)
  · have hv := resolution_settleSweep 3 v i
    rw [State.entry_congr hy.table i] at hv
    exact hv
  · have hv : (State.settleSweep 3 v).table = v.table := by
      rw [settleSweep_off (by rwa [State.setting, hy.settings])]
      split <;> rfl
    exact hv.trans hy.table
  · exact hsweep.history.trans hy.history

/-! ### What waits on a channel, seen from another state -/

theorem SameAt.nothingWaits (h : SameAt c s t) (hn : nothingWaits s c) : nothingWaits t c := by
  obtain ⟨hempty, hwait⟩ := hn
  refine ⟨?_, h.waiting.trans hwait⟩
  rw [State.holdingEmpty, h.frameInProgress, h.frameWaiting]
  exact hempty

theorem SameAt.awake (h : SameAt c s t) (hset : t.settings = s.settings) : awake t c = awake s c := by
  rw [Claim.awake, Claim.awake, h.slot, State.setting, State.setting, hset]

theorem holds_of_same {e e' : Entry} {f : TxRequest} {n : Option Nat} {own : Bool} (hbefore : SameAt c s y)
    (he : e'.configured = e.configured) (hafter : SameAt c v t) (h : holds y v c e' f n own) : holds s t c e f n own := by
  rw [holds_iff_frameWaiting] at h ⊢
  rw [hafter.frameWaiting, h, hbefore.destination he]

/-! ### The wake seen from before the request (R82) -/

/-- `y` is the state in which a slot is woken, in a step that began in `s`: what its wake reads of `s` stands as it stood, and
the lookup finds `a` (R82). -/
structure WakesIn (s : State) (c : Channel) (g : Word16) (a : Target) (y : State) : Prop where
  same : SameAt c s y
  share : y.share = s.share
  state : y.sweep.state = s.sweep.state
  number : y.sweep.number = s.sweep.number
  settings : y.settings = s.settings
  configured : ∀ i, (y.entry i).configured = (s.entry i).configured
  finds : y.store.lookup g = some a

theorem Written.sameAt (h : Written s u) (c : Channel) : SameAt c s u := by
  rw [h.only]
  exact ⟨rfl, rfl, fun _ _ => rfl, fun _ => rfl⟩

/-- Each slot is woken in such a state, and the wakes of the others come before it and after it (R82). -/
theorem wakeWaiting_wakesIn (hu : Written s u) (hl : u.store.lookup g = some a) (c : Channel) :
    ∃ y, WakesIn s c g a y
      ∧ Woken (· = c) (foundResolution g a) (foundOutcome a) (y.wakeSlot c g) (u.wakeWaiting g) := by
  obtain ⟨y, hbefore, hafter⟩ := wakeWaiting_around hl c
  refine ⟨y, ⟨(hu.sameAt c).trans (hbefore.same c rfl), hbefore.share.trans hu.share, ?_, ?_, ?_, fun i => ?_, ?_⟩, hafter⟩
  · rw [hbefore.state, hu.sweep]
  · rw [hbefore.number, hu.sweep]
  · rw [hbefore.works.settings, hu.settings]
  · rw [hbefore.works.configured, hu.configured]
  · rw [hbefore.works.store, hl]

theorem share_wakeWaiting (hu : Written s u) (hl : u.store.lookup g = some a) : (u.wakeWaiting g).share = s.share := by
  obtain ⟨y, hbefore, hafter⟩ := wakeWaiting_around hl .a
  have hwake := (Woken.wakeSlot y .a ((congrArg (fun st : Store => st.lookup g) hbefore.works.store).trans hl)).share
  exact hafter.share.trans (hwake.trans (hbefore.share.trans hu.share))

/-- A slot whose state the wake has kept is not at the boundary of a yield. -/
theorem not_reached_of_kept (hu : Written s u) (hs : Settled s) (hl : u.store.lookup g = some a)
    (hc : ((u.wakeWaiting g).slot c).state = (s.slot c).state) : ¬ (u.wakeWaiting g).yieldReached c := by
  have hn := hs.not_reached c
  rwa [State.yieldReached, State.shareState_congr (share_wakeWaiting hu hl), hc]

theorem not_reached_of_opened (hu : Written s u) (hl : u.store.lookup g = some a) (ho : s.shareState c = .opened) :
    ¬ (u.wakeWaiting g).yieldReached c := fun hr =>
  not_yieldPending_of_opened ho ((State.shareState_congr (share_wakeWaiting hu hl) c).symm.trans hr.1)

/-- Where the lookup finds nothing, the step is over with what the request has written (R82). -/
theorem closeStep_of_nothing (hu : Written s u) (hs : Settled s) (hl : u.store.lookup g = none) :
    (u.wakeWaiting g).closeStep = u := by
  rw [wakeWaiting_of_nothing hl, closeStep_settled (hu.settled hs)]

/-- A slot that does not wait on the tag stays as it is through the step (R82). -/
theorem slot_closed_of_not_waits (hu : Written s u) (hs : Settled s) (hw : ¬ waitsOn (s.slot c) g) :
    (u.wakeWaiting g).closeStep.slot c = s.slot c := by
  cases hl : u.store.lookup g with
  | none => rw [closeStep_of_nothing hu hs hl, hu.slot]
  | some a =>
    have hkept : (u.wakeWaiting g).slot c = s.slot c :=
      (slot_wakeWaiting_kept hl (by rwa [hu.slot])).trans (hu.slot c)
    have hn := not_reached_of_kept hu hs hl (congrArg Slot.state hkept)
    exact ((stepClosed_closeStep _).same c hn).slot.trans hkept

theorem resolution_closed (hu : Written s u) (hl : u.store.lookup g = some a) (hw : waitsOn (s.slot c) g)
    (hm : (s.slot c).module = some i) :
    ((u.wakeWaiting g).closeStep.entry i).resolution = foundResolution g a :=
  ((stepClosed_closeStep _).resolution i).trans (resolution_wakeWaiting hl (by rwa [hu.slot]) (by rwa [hu.slot]))

/-- A slot parked at REFER has the profile found in use, with resume point PAGE (R47). -/
theorem slot_closed_of_parked (hu : Written s u) (hs : Settled s) (hl : u.store.lookup g = some (.profile ref))
    (hw : waitsOn (s.slot c) g) (hst : (s.slot c).state = .parked) :
    (u.wakeWaiting g).closeStep.slot c =
      { s.slot c with profile := some ref, referral := none, resume := .page, page := 0 } := by
  obtain ⟨y, hy, hafter⟩ := wakeWaiting_wakesIn hu hl c
  have hslot := hy.same.slot
  have hwoken : (y.wakeSlot c g).slot c =
      { s.slot c with profile := some ref, referral := none, resume := .page, page := 0 } := by
    rw [wakeSlot_of_profile (by rwa [hslot]) hy.finds, if_pos (by rwa [hslot]), State.slot_withSlot, hslot]
  have hv := (hafter.same c rfl).slot.trans hwoken
  have hn := not_reached_of_kept hu hs hl (congrArg Slot.state hv :)
  exact ((stepClosed_closeStep _).same c hn).slot.trans hv

/-- A slot in REFERRED asks page 0 with the profile found (R34). -/
theorem closed_asks (hu : Written s u) (hl : u.store.lookup g = some (.profile ref)) (hw : waitsOn (s.slot c) g)
    (hm : (s.slot c).module = some i) (hst : (s.slot c).state = .referred) (ho : s.shareState c = .opened)
    (hh : s.sweep.state ≠ .halting) :
    (u.wakeWaiting g).closeStep.slot c =
        askingSlot s c { s.slot c with profile := some ref, referral := none } 0
      ∧ (nothingWaits s c → holds s (u.wakeWaiting g).closeStep c (s.entry i) (.askPage 0)) := by
  obtain ⟨y, hy, hafter⟩ := wakeWaiting_wakesIn hu hl c
  have hslot := hy.same.slot
  obtain ⟨hasks, hholds⟩ := wakeSlot_asks (s := y) (by rwa [hslot]) (by rwa [hslot]) hy.finds (by rwa [hslot])
    ((State.shareState_congr hy.share c).trans ho) (by rwa [hy.state])
  have hend := (hafter.same c rfl).trans ((stepClosed_closeStep _).same c (not_reached_of_opened hu hl ho))
  refine ⟨hend.slot.trans (hasks.trans ?_), fun hn =>
    holds_of_same hy.same (hy.configured i) hend (hholds (hy.same.nothingWaits hn))⟩
  rw [askingSlot, hslot, hy.same.awake hy.settings, askingSlot]

/-- A slot whose tag is declined is FREE and its module UNSUPPORTED (R34, R44). -/
theorem closed_declined (hu : Written s u) (hl : u.store.lookup g = some .decline) (ha : s.setting .autoAttention = 0)
    (hw : waitsOn (s.slot c) g) (hm : (s.slot c).module = some i) :
    (u.wakeWaiting g).closeStep.slot c = {}
      ∧ turn (u.wakeWaiting g).closeStep i = (some .unsupported, s.sweep.number)
      ∧ (s.shareState c = .opened → nothingWaits s c →
          holds s (u.wakeWaiting g).closeStep c (s.entry i) .bye none false) := by
  obtain ⟨y, hy, hafter⟩ := wakeWaiting_wakesIn hu hl c
  have hslot := hy.same.slot
  obtain ⟨hfree, hturn, hbye⟩ := wakeSlot_declined (by rwa [hslot]) (by rwa [hslot]) hy.finds
  have hnumber : (y.wakeSlot c g).sweep.number = y.sweep.number := (Woken.wakeSlot y c hy.finds).number
  have hclosed := stepClosed_closeStep (u.wakeWaiting g)
  have hv := (hafter.same c rfl).slot.trans hfree
  refine ⟨(hclosed.free c (congrArg Slot.state hv)).trans hv, ?_, fun ho hn => ?_⟩
  · have hoff : (u.wakeWaiting g).setting .autoAttention = 0 :=
      (setting_of_works ((State.Works.refl u).wakeWaiting g) _).trans ((hu.setting _).trans ha)
    rw [turn, State.entry_congr (hclosed.table hoff), ← turn]
    rcases hafter.outcome i with h | h
    · rw [h, hturn, hy.number]
    · rw [h, hnumber, hy.number]
      rfl
  · have hend := (hafter.same c rfl).trans (hclosed.same c (not_reached_of_opened hu hl ho))
    exact holds_of_same hy.same (hy.configured i) hend
      (hbye ((State.shareState_congr hy.share c).trans ho) (hy.same.nothingWaits hn))

theorem history_closed (hu : Written s u) : (u.wakeWaiting g).closeStep.history = s.history := by
  have hhist : u.history = s.history := by rw [hu.only]
  refine (stepClosed_closeStep _).history.trans (Eq.trans ?_ hhist)
  cases hl : u.store.lookup g with
  | none => rw [wakeWaiting_of_nothing hl]
  | some a =>
    obtain ⟨y, hbefore, hafter⟩ := wakeWaiting_around hl .a
    have hwake := Woken.wakeSlot y .a ((congrArg (fun st : Store => st.lookup g) hbefore.works.store).trans hl)
    exact hafter.history.trans (hwake.history.trans hbefore.history)

/-! ### The host answers (R70, R75, R76) -/

/-- A host answer carried out writes, wakes the slots that wait on its tag, and ends the step (R70, R75, R76, R82). -/
theorem exec_answer {command : Instr} (hr : Ready s) (h : answersFor s g command) :
    ∃ u, Written s u ∧ exec command s = .next (served (u.wakeWaiting g).closeStep) := by
  unfold answersFor at h
  split at h
  · next t1 t0 b =>
    obtain ⟨rfl, h0, hf, hfits⟩ := h
    exact ⟨_, written_bindWritten s _ _ _, exec_bind hr h0 hf hfits⟩
  · next t1 t0 =>
    obtain ⟨rfl, h0, hf, hroom⟩ := h
    exact ⟨_, written_declineBound s _ _, exec_decline hr h0 hf hroom⟩
  · next payload =>
    obtain ⟨n, p, hp, rfl, hfree⟩ := h
    exact ⟨_, written_profileLoaded s _ n p, congrArg Host.Outcome.next (exec_served hr (handleProfileLoad_eq hp hfree))⟩
  · exact h.elim

/-- Settles O13: each slot is followed from the state in which it is woken through the wakes after it and the end of the
step. -/
theorem hostAnswersWakeTheWaitingSlots : Obligations.HostAnswersWakeTheWaitingSlots := by
  intro s command tag hr hs hanswer
  obtain ⟨u, hu, hexec⟩ := exec_answer hr hanswer
  have hworks : u.Works (u.wakeWaiting tag).closeStep := ((State.Works.refl u).wakeWaiting tag).closeStep
  -- The end of the step enters by these facts alone: the state after it is generalized.
  have hothers := fun c => slot_closed_of_not_waits (g := tag) (c := c) hu hs
  have hhist := history_closed (g := tag) hu
  have hresolved := fun c i a => resolution_closed (g := tag) (c := c) (i := i) (a := a) hu
  have hparked := fun c ref => slot_closed_of_parked (g := tag) (c := c) (ref := ref) hu hs
  have hasks := fun c i ref => closed_asks (g := tag) (c := c) (i := i) (ref := ref) hu
  have hdeclined := fun c i => closed_declined (g := tag) (c := c) (i := i) hu
  have hnothing := closeStep_of_nothing (g := tag) hu hs
  generalize (u.wakeWaiting tag).closeStep = v at *
  have hlookup : (served v).store.lookup tag = u.store.lookup tag := congrArg (fun st : Store => st.lookup tag) hworks.store
  refine ⟨served v, hexec, hothers, fun c i hw hm => ⟨fun ref hl => ?_, fun hl ha => ?_, fun hl => ?_⟩, hhist,
    hworks.clock.trans (by rw [hu.only]), hworks.settings.trans hu.settings, hworks.key.trans (by rw [hu.only])⟩
  all_goals rw [hlookup] at hl
  · exact ⟨hresolved c i _ hl hw hm, hparked c ref hl hw, hasks c i ref hl hw hm⟩
  · obtain ⟨hslot, hturn, hbye⟩ := hdeclined c i hl ha hw hm
    exact ⟨hslot, hresolved c i _ hl hw hm, congrArg Prod.fst hturn, congrArg Prod.snd hturn, hbye⟩
  · rw [hnothing hl]
    exact hu.slot c

end Sys2Proof.Claim
end
